-- ==== Sys2Proof/Word.lean ====
section
/-! DEFINITION. The word types of the QN4820 and the plainest arithmetic on them: the widths of R49, the T96
format of R4, saturation and the rounding "to nearest, ties to even" that R169, R205 and R248 share. -/

namespace Sys2Proof

/-- One byte. -/
abbrev Byte := BitVec 8
/-- The unsigned dictionary types U16, U32 and U64 of R49. -/
abbrev U16 := BitVec 16
abbrev U32 := BitVec 32
abbrev U64 := BitVec 64
/-- The device timestamp of R4: TAI seconds in bits [95:48], a binary fraction of a second in bits [47:0]. -/
abbrev T96 := BitVec 96
/-- One of the four RF channels. -/
abbrev Ch := Fin 4
/-- One of the eight DDCs of a channel. -/
abbrev DdcIx := Fin 8
/-- A trigger unit number U = 4c + u of the device. -/
abbrev UnitIx := Fin 16
/-- A logical ladle, l = 16 g + i (R397). -/
abbrev LadleIx := Fin 256
/-- A number of a D register of a ladle, and of an address register. -/
abbrev DReg := Fin 16
abbrev AReg := Fin 8
/-- A runner number (R496). -/
abbrev RunnerIx := BitVec 16

/-- One second in T96 units of 2^-48 s (R4). -/
def t96PerSecond : Nat := 2 ^ 48

/-- The whole TAI seconds of a T96 value. -/
def t96Seconds (t : T96) : Nat := t.toNat / t96PerSecond

/-- The fraction of a T96 value, in units of 2^-48 s. -/
def t96Fraction (t : T96) : Nat := t.toNat % t96PerSecond

/-- A count of nanoseconds in T96 units, rounded down (DESIGN CHOICE, log entry 2: R4 states no rounding). -/
def nsToT96 (ns : Nat) : Nat := ns * t96PerSecond / 1000000000

/-- A T96 instant in nanoseconds, rounded down (DESIGN CHOICE, log entry 2). -/
def t96ToNs (t : T96) : Nat := t.toNat * 1000000000 / t96PerSecond

/-- A signed number of T96 units in nanoseconds, rounded toward zero. -/
def unitsToNs (d : Int) : Int := (d * 1000000000).tdiv t96PerSecond

/-- A signed number of T96 units in picoseconds, rounded toward zero. -/
def unitsToPs (d : Int) : Int := (d * 1000000000000).tdiv t96PerSecond

/-- The signed difference a − b of two instants, in T96 units. -/
def t96Diff (a b : T96) : Int := (a.toNat : Int) - (b.toNat : Int)

/-- An instant moved by a signed number of T96 units, modulo 2^96. -/
def t96Add (a : T96) (d : Int) : T96 := BitVec.ofInt 96 ((a.toNat : Int) + d)

/-- `n / d` rounded to the nearest integer, ties to even (R169, R205, R248); `d` is positive. -/
def roundDiv (n : Int) (d : Nat) : Int :=
  let q := n.fdiv d
  let r := n.fmod d
  if 2 * r < d then q
  else if 2 * r > d then q + 1
  else if q % 2 = 0 then q else q + 1

/-- `n` shifted right by `k` bits, rounded to nearest, ties to even. -/
def roundShift (n : Int) (k : Nat) : Int := roundDiv n (2 ^ k)

/-- `n` clamped to [lo, hi]. -/
def clampInt (lo hi n : Int) : Int := if n < lo then lo else if hi < n then hi else n

/-- Whether `clampInt lo hi` changes `n`. -/
def clamps (lo hi n : Int) : Bool := decide (n < lo) || decide (hi < n)

/-- The signed range of a `w`-bit two's-complement value. -/
def clampBits (w : Nat) (n : Int) : Int := clampInt (-(2 ^ (w - 1))) (2 ^ (w - 1) - 1) n

/-- `n` little-endian bytes of a natural number (R50). -/
def leBytes : (n : Nat) → (v : Nat) → List Byte
  | 0, _ => []
  | n + 1, v => BitVec.ofNat 8 v :: leBytes n (v / 256)

/-- The natural number that little-endian bytes spell (R50). -/
def ofLeBytes : List Byte → Nat
  | [] => 0
  | b :: bs => b.toNat + 256 * ofLeBytes bs

/-- `n` big-endian bytes of a natural number (R576). -/
def beBytes (n v : Nat) : List Byte := (leBytes n v).reverse

/-- Bytes `lo` to `lo + n − 1` of a list. -/
def slice (bs : List Byte) (lo n : Nat) : List Byte := (bs.drop lo).take n

/-- The unsigned little-endian field of `n` bytes at offset `lo`. -/
def field (bs : List Byte) (lo n : Nat) : Nat := ofLeBytes (slice bs lo n)

/-- Two's-complement value of the low `w` bits of `v`. -/
def signedOf (w v : Nat) : Int := (BitVec.ofNat w v).toInt

/-- The low `w` bits of an integer, as a natural number. -/
def bitsOf (w : Nat) (v : Int) : Nat := (BitVec.ofInt w v).toNat

/-- The next multiple of `m` at or after `n` (0 for `m = 0` stands for `n` itself). -/
def ceilTo (m n : Nat) : Nat := if m = 0 then n else (n + m - 1) / m * m

end Sys2Proof
end

