-- ==== Sys2Proof/Operand.lean ====
section
/-! DEFINITION. The types of the commands' operands: who asks, which entry, which block, and what the surroundings
bring in (samples, edges, labels of drives, results of a check made outside the block). -/

namespace Sys2Proof

/-- The two masters that may own the device state (R36, R37). -/
inductive Master where
  | ecat | host
deriving DecidableEq, Repr

/-- A requester of the object dictionary (R34, R35, R39). -/
inductive Requester where
  | ecat | host | cluster (g : Fin 16)
deriving DecidableEq, Repr

/-- An entry of the object dictionary, index.sub. -/
structure Key where
  index : U16
  sub   : Byte
deriving DecidableEq, Repr

/-- An entry's value: the bits of a number of up to 96 bits, or the contents of an STR or DOMAIN (R49). -/
inductive Val where
  | bits (v : BitVec 96)
  | bytes (b : List Byte)
deriving DecidableEq, Repr

/-- What an SDO information request asks for: a list of objects, an object, an entry (R40). -/
inductive InfoQuery where
  | list (typ : U16)
  | object (index : U16)
  | entry (index : U16) (sub : Byte)
deriving DecidableEq, Repr

/-- The entry that a request names, as 0x2002.03 shows it. -/
def InfoQuery.key : InfoQuery → Nat
  | .list _ => 0
  | .object index => index.toNat * 256
  | .entry index sub => index.toNat * 256 + sub.toNat

/-- The part of an 8-byte slot that a BAR0 access moves (R56). -/
inductive Half where
  | full | low | high
deriving DecidableEq, Repr

/-- The two synthesisers. -/
inductive Synth where
  | syna | synb
deriving DecidableEq, Repr

/-- The two side transforms of a channel (R265). -/
inductive Side where
  | density | trigger
deriving DecidableEq, Repr

/-- A block that keeps a configuration of its own and switches at its own natural boundary (R24, R27). -/
inductive BlockId where
  | conditioner (c : Ch) | ddc (c : Ch) (k : DdcIx) | main (c : Ch) | cross | side (c : Ch) (s : Side)
  | trig (u : UnitIx) | density (c : Ch) | reduction (c : Ch) (r : Fin 6) | envelope (c : Ch) (g : Fin 2)
  | capture (c : Ch) | tiInput (n : Fin 8) | tiGate | mu (u : Fin 4) | ladle (l : LadleIx) | runners
  | store | net (t : Fin 32) | slotTable | clocks | health
deriving DecidableEq, Repr

/-- One conversion as the converter die delivers it (R167). -/
structure RawSample where
  code     : BitVec 12
  err      : Bool
  overload : Bool
deriving DecidableEq, Repr

/-- One interleave-table element (R174). -/
structure Element where
  offset  : Int
  gain    : Nat
  skew    : Int
  spare   : Bool
  retired : Bool
  updates : BitVec 14
deriving DecidableEq, Repr, Inhabited

/-- A pair of a gathering window: the codes of the slot and of the spare for one sample, and the delivered codes of the samples before
and after it, which show the local slope of the signal (R178). -/
structure GatherPair where
  slot   : BitVec 12
  spare  : BitVec 12
  before : BitVec 12
  after  : BitVec 12
deriving DecidableEq, Repr

/-- A lane error event: the physical lane, the sample whose token is flagged, and whether the token is that of the sample before the main
and the side datapaths part (R235, R236, R274). -/
structure LaneError where
  lane   : Fin 17
  index  : Nat
  shared : Bool
deriving DecidableEq, Repr

/-- What a background gathering window estimates of its slot (R178, R179). -/
structure Estimate where
  offset : Int
  gain   : Nat
  skew   : Int
  loud   : Bool
deriving DecidableEq, Repr

/-- What a foreground calibration computed (R185): the 65 elements and the 33 equaliser taps. -/
structure CalData where
  elements : List Element
  taps     : List Int
deriving DecidableEq, Repr

/-- A firmware image (R91): header, payload and signature, with the vendor key it is signed under. -/
structure FwImage where
  version   : U32
  security  : Nat
  length    : Nat
  payload   : List Byte
  signature : List Byte
  key       : Fin 4
deriving DecidableEq, Repr, Inhabited

/-- A record: the header fields of R504 but version, length and CRC, and the payload. -/
structure Record where
  typ       : Byte
  runner    : U16
  seq       : U64
  pour      : U32
  time      : T96
  channel   : Byte
  source    : Byte
  progFlags : U16
  flags     : U32
  fields    : List Byte
  payload   : List Byte
deriving DecidableEq, Repr

/-- What a memory read met in the check bits (R385-R387, R393). -/
inductive Ecc where
  | clean | corrected | uncorrectable | onDie
deriving DecidableEq, Repr

/-- A SRAM group that can enter retention (R395), in the order of its table. -/
inductive SramGroup where
  | density | reduction | cluster | ladle
deriving DecidableEq, Repr

/-- An operation of a multi-slot TLP (R57). -/
inductive TlpOp where
  | read (bytes : Nat)
  | write (values : List U64)
deriving DecidableEq, Repr

/-- A JTAG instruction (R96). -/
inductive JtagInstr where
  | idcode | boundaryScan | other
deriving DecidableEq, Repr

/-- What a PTP message's header shows: its domain, its transport as 0x2123.04 codes it, and the clock that sent it (R139). -/
structure PtpHeader where
  domain    : Byte
  transport : Fin 3
  identity  : U64
deriving DecidableEq, Repr

/-- The data set of a PTP Announce message that the best-master algorithm compares (R139). -/
structure Announce where
  priority1 : Byte
  clockClass : Byte
  accuracy  : Byte
  variance  : U16
  priority2 : Byte
  identity  : U64
deriving DecidableEq, Repr

/-- How a read beat ended (R530). -/
inductive BeatStatus where
  | ok | ur | ca | poisoned | uncorrectable
deriving DecidableEq, Repr

/-- What the surroundings answer a translation request with (R524, R525). -/
inductive AtsAnswer where
  | granted | notPresent
deriving DecidableEq, Repr

/-- A PRI page response (R526). -/
inductive PageResponse where
  | success | invalidRequest | responseFailure
deriving DecidableEq, Repr

/-- A drive label (R538). -/
structure DriveLabel where
  storeId    : U64
  position   : Fin 8
  drives     : Nat
  generation : U32
  formatTime : T96
deriving DecidableEq, Repr

/-- What enumeration finds on a drive (R535, R536, R538, R554). -/
structure DriveInfo where
  withinLimits : Bool
  label        : Option DriveLabel
  zoneCapacity : Nat
  zones        : Nat
  appendLimit  : Nat
  activeLimit  : U32
  used         : Byte
  spare        : Byte
  spareThreshold : Byte
  mediaErrors  : U64
deriving DecidableEq, Repr

/-- How an append ended (R551). -/
inductive AppendStatus where
  | ok | error | zoneFull | readOnly
deriving DecidableEq, Repr

/-- A zone condition that a Report Zones shows (R551). -/
inductive ZoneReport where
  | readOnly | offline
deriving DecidableEq, Repr

/-- What the recovery read found of one stream (R557). -/
structure StreamTail where
  stream      : Fin 32
  nextChunk   : U64
  recovered   : Nat
  lostTail    : Bool
  /-- The first sequence not stored. -/
  firstLost   : U64
deriving DecidableEq, Repr

/-- What a scrub read of a chunk showed (R555). -/
inductive ScrubResult where
  | good | retried | crcBad | unreadable
deriving DecidableEq, Repr

/-- What CMIS shows of a port's module: absent, without the configured mode, or fit for it (R563). -/
inductive ModuleState where
  | absent | unsupported | good
deriving DecidableEq, Repr

/-- A received Ethernet frame (R564). -/
inductive EthRx where
  | arp | neighbour | echo4 | echo6 | other
deriving DecidableEq, Repr

/-- The condition of a controlled reset (R619), in the order of its causes 0x10-0x13. -/
inductive ResetCondition where
  | supply | sram | temperature | firmware
deriving DecidableEq, Repr

/-- The fault classes of R621 in order. -/
inductive FaultClass where
  | slice | comparator | tone | lane | synth | interpolator | ladle | engine | hbmRow | drive | sentinel
deriving DecidableEq, Repr

/-- The operands of LD and SD (R440, format M). -/
structure MemForm where
  r    : DReg
  a    : AReg
  size : Fin 4
  x    : Bool
  p    : Bool
  m    : BitVec 15
deriving DecidableEq, Repr

/-- A snapshot group or family of them that is updated on a fixed period (R436, R495, R534, R561, R592). -/
inductive PeriodicGroup where
  | ladleStatus (g : Fin 16) | ladleCounters (g : Fin 16) | event (n : Fin 8) | gate | engine
  | storeStatus | drive (d : Fin 8) | stream (s : Fin 32) | replay (r : Fin 8) | port (p : Fin 2)
  | netStream (t : Fin 32) | hostPort
deriving DecidableEq, Repr

end Sys2Proof
end

