-- ==== Sys2Proof/Syntax.lean ====
section
/-! DEFINITION. The commands of the block: one constructor per row of spec/opcode_table.json, in the table's order,
with the operands that the surroundings bring. A command of a ladle names the ladle and the fields of R440. -/

namespace Sys2Proof

/-- A command: an operation or event of the table of operations. -/
inductive Instr where
  -- Power-up, reset and device states (R638-R643, R37-R48).
  | powerOnReset (widthNs : Nat)
  | pinReset (widthNs : Nat)
  | resetRelease
  | crystalStable
  | firmwareRunning
  | synthInitialLock
  | hbmInitComplete (repaired : List Nat)
  | dictionaryReady
  | pcieConfigRequest
  | bootRestart (m : Master)
  | requestInit (m : Master)
  | requestPreop (m : Master)
  | requestBoot (m : Master)
  | requestSafeop (m : Master)
  | dataPathStart
  | requestOp (m : Master)
  | blockStateStop (b : BlockId)
  | sm2WatchdogExpiry
  -- EtherCAT and object-dictionary access (R34-R72).
  | rxpdoCycle (data : List Byte)
  | txpdoCycle
  | dcSync0 (dcTimeNs : U64)
  | siiRead (addr : U16)
  | sdoUpload (m : Master) (key : Key) (complete : Bool)
  | sdoDownload (m : Master) (key : Key) (v : Val) (complete : Bool)
  | sdoInformation (m : Master) (q : InfoQuery)
  | foeFirmwareDownload (img : FwImage)
  | registerWrite (r : Requester) (key : Key) (v : Val)
  | widePartStage (r : Requester) (key : Key) (upperSlot : Bool) (h : Half) (v : U64)
  | wideLowestWrite (r : Requester) (key : Key) (h : Half) (v : U64)
  | snapshotLatchRead (r : Requester) (key : Key) (h : Half)
  | snapshotPartRead (r : Requester) (key : Key) (upperSlot : Bool) (h : Half)
  | bar0UnmappedAccess (write : Bool) (offset size : Nat)
  | bar0MalformedAccess (write : Bool) (offset size : Nat)
  | bar0MultislotTlp (offset : Nat) (op : TlpOp)
  | clearAccessErrors (r : Requester)
  | mailboxDoorbell
  | mailboxResponseComplete
  -- Commits and pours (R73-R86, R671).
  | commitExecute (r : Requester)
  | commitToggle (r : Requester) (v : Byte)
  | commitValidationEnd
  | pourBecomesCurrent
  | blockPourSwitch (b : BlockId) (boundary : T96) (inputPour : U32)
  | discardPending (r : Requester)
  | pendingQuery (r : Requester) (v : U32)
  | emergencyRead
  | emergencyMailboxRead
  | firmwareImageWrite (img : FwImage)
  | firmwareVerifyComplete
  | jtagBoundaryScan (ir : JtagInstr)
  -- Clocks, synthesis and the timebase (R100-R160).
  | refinQualified (freq : Fin 3) (offset : Int)
  | refinLoss
  | returnToRefin (r : Requester)
  | returnModeWrite (r : Requester) (v : Byte)
  | synthLossOfLock (syn : Synth)
  | referenceEventRestart
  | trimWrite (r : Requester) (v : U32)
  | retuneStart
  | retuneAcquired
  | alignRampStep (loop : Fin 9)
  | clkoutEnable (r : Requester) (n : Fin 4)
  | clkoutDisable (r : Requester) (n : Fin 4)
  | ppsinEdge (t : T96) (falling : Bool)
  | ppsinLoss
  | timeSourceLoss
  | holdoverLimitExpiry
  | ppsSecondWrite (r : Requester) (v : U64)
  | setTimeWrite (r : Requester) (v : T96)
  | ptpSyncReceived (port : Fin 2) (hdr : PtpHeader) (t1 t2 : T96) (correction : Int)
  | ptpAnnounceReceived (port : Fin 2) (hdr : PtpHeader) (ann : Announce)
  | ptpDelayResponse (port : Fin 2) (hdr : PtpHeader) (peer : Bool) (t1 t2 t3 t4 : T96)
  | syncAlign (r : Requester)
  | syncAlignComplete (stamps : List T96)
  | syncinEdge (t : T96)
  | syncoutPulse (index : U64)
  -- RF sampling, conditioner and calibration (R162-R199).
  | overloadExcursion (c : Ch) (negative : Bool) (peak : Int) (first last : U64) (full : Option U64) (durationPs : Nat)
  | conditionerFrame (c : Ch) (samples : List RawSample)
  | converterRiserWarning (c : Ch)
  | converterRiserOverflow (c : Ch)
  | converterRiserResume (c : Ch) (slow : Option (Fin 17))
  | bgCalWindowStart (c : Ch)
  | bgCalWindowEnd (c : Ch) (pairs : List GatherPair) (level : Int)
  | bgCalEstimateApply (c : Ch)
  | fgCalStart (c : Ch)
  | fgCalSettled (c : Ch) (level : Int)
  | fgCalWindowEnd (c : Ch) (level : Int)
  | fgCalComplete (c : Ch) (cal : CalData)
  | fgCalResume (c : Ch)
  | calSetImport (r : Requester) (c : Ch) (image : List Byte)
  | sliceSpareTakeover (c : Ch)
  | comparatorSpareTakeover (c : Ch)
  -- DDCs (R200-R234).
  | ddcOutput (c : Ch) (k : DdcIx)
  | ddcSyncReset (c : Ch) (k : DdcIx)
  | ddcFadeStart (c : Ch) (k : DdcIx)
  | ddcFadeEnd (c : Ch) (k : DdcIx)
  | ddcBankWrite (r : Requester) (c : Ch) (k : DdcIx) (bank : Bool) (image : List Byte)
  -- Transform engine and cross-power (R235-R284).
  | mainFrame (c : Ch) (laneError : Option LaneError) (ecc : Ecc)
  | pass2Start (c : Ch) (laneError : Option LaneError)
  | twoPassFrameComplete (c : Ch) (laneError : Option LaneError)
  | sideFrame (c : Ch) (side : Side) (laneError : Option LaneError)
  | laneSpareTakeover (c : Ch)
  | twoPassStopped (c : Ch)
  | twoPassResume (c : Ch)
  | transformBankWrite (r : Requester) (bank : Bool) (image : List Byte)
  -- Triggers (R285-R316).
  | triggerEvaluation (u : UnitIx)
  | triggerQualifierResolved (u : UnitIx)
  | triggerSequenceResolved (u : UnitIx)
  | monPulseStart (n : Fin 4)
  | monPulseEnd (n : Fin 4)
  -- Density histograms and reductions (R317-R348).
  | densityAccumulate (c : Ch)
  | densityPeriodBoundary (c : Ch)
  | densityDrainComplete (c : Ch)
  | densityClear (r : Requester) (c : Ch)
  | densityRestart (c : Ch)
  | reductionFrame (c : Ch) (slot : Fin 6)
  -- Segmented capture (R349-R371).
  | captureArm (r : Requester) (c : Ch)
  | captureStop (r : Requester) (c : Ch)
  | captureAbort (r : Requester) (c : Ch)
  | captureForceTrigger (r : Requester) (c : Ch)
  | captureRelease (r : Requester) (c : Ch) (seg : U32)
  | captureDecision (c : Ch)
  | segmentClose (c : Ch)
  -- HBM and SRAM (R372-R396).
  | tableCycleStart
  | hbmBurst (slot : Nat) (chan : Fin 64) (ecc : Ecc)
  | hbmWriteRiserOverflow (q : Fin 4) (owner : Byte)
  | refreshDue (chan : Fin 64) (busy : Bool)
  | refreshReserveSlot
  | trainingWindowStart (d : Fin 16) (tempMoved : Bool)
  | trainingWindowEnd (d : Fin 16)
  | patrolScrubRead (addr : BitVec 37) (ecc : Ecc)
  | hbmFreqStepRequest (up : Bool)
  | hbmFreqSwitch
  | hbmFreqStepComplete
  | sramWake (group : SramGroup)
  -- The ladle array (R397-R436).
  | arbiterGrant (g : Fin 16) (res : Fin 18) (moved : Nat) (collision : Bool)
  | ladleRequestWithdraw (l : LadleIx) (res : Fin 18)
  | freezeMaskWrite (r : Requester) (g : Fin 16) (mask : U32)
  | lockWatchdogExpiry (l : LadleIx)
  | tapEntryDelivery (l : LadleIx) (port : Fin 4)
  | ladleImageWrite (r : Requester) (l : LadleIx) (image : List Byte)
  | ladleWatchdogExpiry (l : LadleIx)
  | ladleRestartComplete (l : LadleIx)
  | ladlePause (l : LadleIx)
  -- Ladle instructions (R437-R464): the ladle, and the fields of R440.
  | nop (l : LadleIx)
  | add (l : LadleIx) (d s t : DReg)
  | sub (l : LadleIx) (d s t : DReg)
  | and (l : LadleIx) (d s t : DReg)
  | or (l : LadleIx) (d s t : DReg)
  | xor (l : LadleIx) (d s t : DReg)
  | shl (l : LadleIx) (d s t : DReg)
  | shr (l : LadleIx) (d s t : DReg)
  | sra (l : LadleIx) (d s t : DReg)
  | adds (l : LadleIx) (d s t : DReg)
  | subs (l : LadleIx) (d s t : DReg)
  | cmp (l : LadleIx) (s t : DReg)
  | mul (l : LadleIx) (d s t : DReg) (u hs ht : Bool)
  | addi (l : LadleIx) (d s : DReg) (imm : BitVec 18)
  | andi (l : LadleIx) (d s : DReg) (imm : BitVec 18)
  | ori (l : LadleIx) (d s : DReg) (imm : BitVec 18)
  | xori (l : LadleIx) (d s : DReg) (imm : BitVec 18)
  | shli (l : LadleIx) (d s : DReg) (imm : BitVec 5)
  | shri (l : LadleIx) (d s : DReg) (imm : BitVec 5)
  | srai (l : LadleIx) (d s : DReg) (imm : BitVec 5)
  | cmpi (l : LadleIx) (s : DReg) (imm : BitVec 18)
  | movi (l : LadleIx) (d : DReg) (imm : BitVec 18)
  | lih (l : LadleIx) (d : DReg) (imm : BitVec 16)
  | mova (l : LadleIx) (a : AReg) (s : DReg)
  | adda (l : LadleIx) (a : AReg) (imm : BitVec 18)
  | movd (l : LadleIx) (d : DReg) (a : AReg)
  | mfs (l : LadleIx) (d : DReg) (code : BitVec 6)
  | mts (l : LadleIx) (code : BitVec 6) (s : DReg)
  | mac (l : LadleIx) (k : Bool) (s t : DReg) (hs ht u f : Bool)
  | msu (l : LadleIx) (k : Bool) (s t : DReg) (hs ht u f : Bool)
  | mpa (l : LadleIx) (k : Bool) (s t : DReg) (hs ht u f : Bool)
  | clra (l : LadleIx) (k : Bool)
  | ext (l : LadleIx) (k : Bool) (d : DReg) (sh : BitVec 6) (r : Bool)
  | ld (l : LadleIx) (m : MemForm) (ecc : Ecc)
  | sd (l : LadleIx) (m : MemForm)
  | xf (l : LadleIx) (dir : Bool) (ad ac : AReg) (n : BitVec 6) (p : Bool) (ecc : List Ecc)
  | max (l : LadleIx) (s t : DReg) (u e : Bool)
  | min (l : LadleIx) (s t : DReg) (u e : Bool)
  | b (l : LadleIx) (cond : BitVec 4) (target : BitVec 13)
  | call (l : LadleIx) (target : BitVec 13)
  | jr (l : LadleIx) (s : DReg)
  | reti (l : LadleIx)
  | loop (l : LadleIx) (endIx count : BitVec 13)
  | loopr (l : LadleIx) (endIx : BitVec 13) (s : DReg)
  | endl (l : LadleIx)
  | wait (l : LadleIx) (d : DReg) (mask : BitVec 4)
  | waitWake (l : LadleIx)
  | kick (l : LadleIx)
  | lock (l : LadleIx) (r : BitVec 5)
  | unlk (l : LadleIx)
  | pub (l : LadleIx) (slot ap at' : Fin 8) (s : DReg)
  | mvh (l : LadleIx) (dir : Bool) (al : AReg) (sh sn : DReg)
  | mvwait (l : LadleIx)
  | trap (l : LadleIx) (imm : BitVec 16)
  | illegalInstruction (l : LadleIx)
  | inputInterrupt (l : LadleIx)
  | moverTransferComplete (l : LadleIx) (bad : Option Nat)
  -- The time-interval unit (R465-R495).
  | eventEdge (n : Fin 8) (falling : Bool) (coarse : U64) (fine : Fin 384)
  | gateEdge (rising : Bool) (coarse : U64) (fine : Fin 384)
  | gateWindowTimer (opening : Bool)
  | eventRiserOverflow (n : Fin 8)
  | stampRecordFlush (n : Fin 8)
  | muEventDecide (u : Fin 4)
  | interpCalStart (input : Fin 9)
  | interpCalComplete (input : Fin 9) (hits : List Nat)
  | calibrateNow (r : Requester) (mask : U16)
  -- Runners and DMA (R496-R534).
  | runnerCreateRecord (r : Requester) (image : List Byte)
  | runnerCreateDescriptor (r : Requester) (image : List Byte)
  | runnerDestroy (r : Requester) (image : List Byte)
  | runnerEnable (r : Requester) (runner : RunnerIx)
  | runnerStop (r : Requester) (runner : RunnerIx)
  | runnerAbort (r : Requester) (runner : RunnerIx)
  | recordWrite (runner : RunnerIx) (rec : Record) (spanEnd : T96)
  | recordForwarded (runner : RunnerIx) (bad : Bool)
  | hostRingRelease (runner : RunnerIx) (v : U32)
  | descriptorDoorbell (runner : RunnerIx) (v : U32)
  | descriptorFetch (runner : RunnerIx) (hostBytes : List Byte)
  | dmaBurst (runner : RunnerIx) (failed : List (Fin 32)) (residueError : Bool)
  | dmaReadCompletion (runner : RunnerIx) (data : List Byte) (status : BeatStatus) (failed : List (Fin 32))
  | descriptorComplete (runner : RunnerIx)
  | atsTranslationCompletion (runner : RunnerIx) (page : U64) (answer : AtsAnswer)
  | atsInvalidation (page : U64)
  | priPageResponse (runner : RunnerIx) (answer : PageResponse)
  | pageRequestTimeout (runner : RunnerIx)
  | msixModerationTimer (runner : RunnerIx)
  | msixUnmask (vector : BitVec 11)
  -- The recording store (R535-R561).
  | storeFormat (r : Requester) (mask : Byte)
  | storLinkUp (d : Fin 8) (gen width : Byte)
  | driveEnumerated (d : Fin 8) (info : DriveInfo)
  | driveReadyTimeout (d : Fin 8)
  | storeRecoveryComplete (tails : List StreamTail) (badCatalogue : Bool)
  | chunkFlushTimer (s : Fin 32)
  | chunkAppend (s : Fin 32)
  | appendComplete (d : Fin 8) (lba : U64) (status : AppendStatus)
  | appendTimeout (d : Fin 8)
  | journalBlockAppend
  | journalBlockDurable
  | catalogueWrite
  | zoneStateReport (d : Fin 8) (zone : Nat) (rep : ZoneReport)
  | storLinkLoss (d : Fin 8)
  | wearPoll (d : Fin 8) (used spare spareThreshold : Byte) (mediaErrors : U64)
  | scrubChunkRead (d : Fin 8) (chunk : U64) (result : ScrubResult)
  | replayStart (r : Requester) (i : Fin 8)
  | replayStop (r : Requester) (i : Fin 8)
  | replayRecordDeliver (i : Fin 8) (read : ScrubResult)
  -- Network streaming and the host port (R562-R592).
  | modulePoll (p : Fin 2) (module' : ModuleState) (temperature power : BitVec 16)
  | ethLinkUp (p : Fin 2)
  | ethLinkLoss (p : Fin 2)
  | ethFrameReceived (p : Fin 2) (rx : EthRx) (bytes : Nat) (fcsBad : Bool)
  | pauseReceived (p : Fin 2) (pfc : Bool) (mask : Byte)
  | pauseExpiry (p : Fin 2) (mask : Byte)
  | addressResolutionRetry (t : Fin 32)
  | addressResolved (t : Fin 32) (mac : U64)
  | streamPacketSend (t : Fin 32)
  | vdifFrameSend (t : Fin 32)
  | vitaDataPacket (t : Fin 32)
  | functionLevelReset
  | hostLinkLoss
  -- Health, power shedding and faults (R593-R631).
  | monitorStateChange (m : Fin 16) (v : Int)
  | monitorLatchClear (r : Requester) (m : Fin 16)
  | alertAcknowledge (r : Requester)
  | hkGroupStart (r : Requester) (mask : Byte)
  | hkReferenceSettled
  | hkLowpowerWake (group : Fin 4)
  | hkResult (k : Fin 12) (v : Int)
  | sentinelWindowEnd (rates : List Nat)
  | supplyComparatorCrossing (die : Fin 2) (mv : Nat)
  | quenchSettleExpiry
  | quenchStepInterval
  | controlledResetCondition (cond : ResetCondition)
  | controlledResetAssert (committed : Bool)
  | faultEvent (cls : FaultClass) (element : U64)
  -- Rows at the end of the table.
  | trimSlewStep (dt : T96)
  | interpolatorSwitchover (input : Fin 9)
  | lockfPwmPeriod
  | hostLinkUp (gen log2width : Byte) (flit : Bool)
  | completionTimeout (runner : RunnerIx)
  | absentEntryRead (r : Requester) (key : Key)
  | bar2InvalidAccess (write : Bool) (offset size : Nat) (v : U64)
  | periodicSnapshotUpdate (group : PeriodicGroup)
deriving DecidableEq, Repr

end Sys2Proof
end

