-- ==== Sys2Proof/Decode.lean ====
section
/-! DEFINITION. The commands that words spell. The table of operations gives no row bits, so no word of it spells a command; the
words that a ladle fetches from its instruction memory are those of R440-R442. -/

namespace Sys2Proof

/-- The command that the table's bits spell: none, since no row of spec/opcode_table.json gives bits. -/
def decodeTableWord (_nbits _w : Nat) : Option Instr := none

/-! ### Ladle instruction words (R440-R442) -/

/-- Format R: opcode, d, s, t and bits [13:0]. -/
def wordR (op d s t low : Nat) : Nat := op * 2 ^ 26 + d * 2 ^ 22 + s * 2 ^ 18 + t * 2 ^ 14 + low

/-- Format I: opcode, d, s and the immediate. -/
def wordI (op d s imm : Nat) : Nat := op * 2 ^ 26 + d * 2 ^ 22 + s * 2 ^ 18 + imm

/-- Format A: opcode, k, s, t, halves, U and F. -/
def wordA (op : Nat) (k : Bool) (s t : Nat) (hs ht u f : Bool) : Nat :=
  op * 2 ^ 26 + k.toNat * 2 ^ 25 + s * 2 ^ 21 + t * 2 ^ 17 + hs.toNat * 2 ^ 16 + ht.toNat * 2 ^ 15 + u.toNat * 2 ^ 14
    + f.toNat * 2 ^ 13

/-- Format M. -/
def wordM (op : Nat) (m : MemForm) : Nat :=
  op * 2 ^ 26 + m.r.val * 2 ^ 22 + m.a.val * 2 ^ 19 + m.size.val * 2 ^ 17 + m.x.toNat * 2 ^ 16 + m.p.toNat * 2 ^ 15 + m.m.toNat

/-- The word of a ladle instruction; none of a command that is no instruction. -/
def ladleWord : Instr → Option Nat
  | .nop _ => some (0)
  | .add _ d s t => some (wordR 1 d s t 0)
  | .sub _ d s t => some (wordR 2 d s t 0)
  | .and _ d s t => some (wordR 3 d s t 0)
  | .or _ d s t => some (wordR 4 d s t 0)
  | .xor _ d s t => some (wordR 5 d s t 0)
  | .shl _ d s t => some (wordR 6 d s t 0)
  | .shr _ d s t => some (wordR 7 d s t 0)
  | .sra _ d s t => some (wordR 8 d s t 0)
  | .adds _ d s t => some (wordR 9 d s t 0)
  | .subs _ d s t => some (wordR 10 d s t 0)
  | .cmp _ s t => some (wordR 11 0 s t 0)
  | .mul _ d s t u hs ht => some (wordR 12 d s t (u.toNat * 2 ^ 13 + hs.toNat * 2 ^ 11 + ht.toNat * 2 ^ 10))
  | .addi _ d s imm => some (wordI 16 d s imm.toNat)
  | .andi _ d s imm => some (wordI 17 d s imm.toNat)
  | .ori _ d s imm => some (wordI 18 d s imm.toNat)
  | .xori _ d s imm => some (wordI 19 d s imm.toNat)
  | .shli _ d s imm => some (wordI 20 d s imm.toNat)
  | .shri _ d s imm => some (wordI 21 d s imm.toNat)
  | .srai _ d s imm => some (wordI 22 d s imm.toNat)
  | .cmpi _ s imm => some (wordI 23 0 s imm.toNat)
  | .movi _ d imm => some (wordI 24 d 0 imm.toNat)
  | .lih _ d imm => some (wordI 25 d 0 imm.toNat)
  | .mova _ a s => some (wordI 26 (2 * a.val) s 0)
  | .adda _ a imm => some (wordI 27 (2 * a.val) 0 imm.toNat)
  | .movd _ d a => some (wordI 28 d (2 * a.val) 0)
  | .mfs _ d code => some (wordI 29 d 0 code.toNat)
  | .mts _ code s => some (wordI 30 0 s code.toNat)
  | .mac _ k s t hs ht u f => some (wordA 32 k s t hs ht u f)
  | .msu _ k s t hs ht u f => some (wordA 33 k s t hs ht u f)
  | .mpa _ k s t hs ht u f => some (wordA 34 k s t hs ht u f)
  | .clra _ k => some (35 * 2 ^ 26 + k.toNat * 2 ^ 25)
  | .ext _ k d sh r => some (36 * 2 ^ 26 + k.toNat * 2 ^ 25 + d.val * 2 ^ 21 + sh.toNat * 2 ^ 15 + r.toNat * 2 ^ 14)
  | .ld _ m _ => some (wordM 40 m)
  | .sd _ m => some (wordM 41 m)
  | .xf _ dir ad ac n p _ => some (42 * 2 ^ 26 + dir.toNat * 2 ^ 25 + ad.val * 2 ^ 22 + ac.val * 2 ^ 19 + n.toNat * 2 ^ 13 + p.toNat * 2 ^ 12)
  | .max _ s t u e => some (wordR 44 0 s t (u.toNat * 2 ^ 13 + e.toNat * 2 ^ 12))
  | .min _ s t u e => some (wordR 45 0 s t (u.toNat * 2 ^ 13 + e.toNat * 2 ^ 12))
  | .b _ cond target => some (48 * 2 ^ 26 + cond.toNat * 2 ^ 22 + target.toNat)
  | .call _ target => some (49 * 2 ^ 26 + target.toNat)
  | .jr _ s => some (wordR 50 0 s 0 0)
  | .reti _ => some (51 * 2 ^ 26)
  | .loop _ endIx count => some (52 * 2 ^ 26 + endIx.toNat * 2 ^ 13 + count.toNat)
  | .loopr _ endIx s => some (53 * 2 ^ 26 + endIx.toNat * 2 ^ 13 + s.val)
  | .endl _ => some (54 * 2 ^ 26)
  | .wait _ d mask => some (56 * 2 ^ 26 + d.val * 2 ^ 22 + mask.toNat)
  | .kick _ => some (57 * 2 ^ 26)
  | .lock _ r => some (58 * 2 ^ 26 + r.toNat)
  | .unlk _ => some (59 * 2 ^ 26)
  | .pub _ slot ap at' s => some (60 * 2 ^ 26 + slot.val * 2 ^ 23 + ap.val * 2 ^ 20 + at'.val * 2 ^ 17 + s.val * 2 ^ 13)
  | .mvh _ dir al sh sn => some (61 * 2 ^ 26 + dir.toNat * 2 ^ 25 + al.val * 2 ^ 22 + sh.val * 2 ^ 18 + sn.val * 2 ^ 14)
  | .mvwait _ => some (62 * 2 ^ 26)
  | .trap _ imm => some (63 * 2 ^ 26 + imm.toNat)
  | _ => none

/-- Bit i of a word. -/
def wbit (w i : Nat) : Bool := decide (w / 2 ^ i % 2 = 1)

/-- The legal operand values that the fields alone do not show: an even register for a pair, and a register number where the
modifier is a register (R440, R442). -/
def MemForm.legal (m : MemForm) : Bool :=
  (m.size != 3 || m.r.val % 2 == 0) && (!m.x || decide (m.m.toNat < 16))

/-- The fields of format M. -/
def memForm (w : Nat) : MemForm :=
  { r := Fin.ofNat 16 (w / 2 ^ 22), a := Fin.ofNat 8 (w / 2 ^ 19), size := Fin.ofNat 4 (w / 2 ^ 17), x := wbit w 16, p := wbit w 15
    m := BitVec.ofNat 15 w }

/-- The special codes of R438, and those that may be written (0x27 and 0x28 are read-only: a write of them is ignored). -/
def specialCode (code : BitVec 6) : Bool := decide (code.toNat ≤ 0x28)

/-- `i` where `c` holds: a non-zero reserved field makes a word illegal (R442). -/
def whenZero (c : Bool) (i : Instr) : Option Instr := if c then some i else none

/-- The instruction that ladle l reads from a word; none for an illegal one (R440-R442). -/
def ladleInstr (l : LadleIx) (w : Nat) : Option Instr :=
  let d : DReg := Fin.ofNat 16 (w / 2 ^ 22)
  let s : DReg := Fin.ofNat 16 (w / 2 ^ 18)
  let t : DReg := Fin.ofNat 16 (w / 2 ^ 14)
  let imm : BitVec 18 := BitVec.ofNat 18 w
  let ix : BitVec 13 := BitVec.ofNat 13 w
  let low := fun (k : Nat) => decide (w % 2 ^ k = 0)
  let noD := decide (w / 2 ^ 22 % 16 = 0)
  let noS := decide (w / 2 ^ 18 % 16 = 0)
  match w / 2 ^ 26 with
  | 0 => whenZero (low 26) (.nop l)
  | 1 => whenZero (low 14) (.add l d s t)
  | 2 => whenZero (low 14) (.sub l d s t)
  | 3 => whenZero (low 14) (.and l d s t)
  | 4 => whenZero (low 14) (.or l d s t)
  | 5 => whenZero (low 14) (.xor l d s t)
  | 6 => whenZero (low 14) (.shl l d s t)
  | 7 => whenZero (low 14) (.shr l d s t)
  | 8 => whenZero (low 14) (.sra l d s t)
  | 9 => whenZero (low 14) (.adds l d s t)
  | 10 => whenZero (low 14) (.subs l d s t)
  | 11 => whenZero (noD && low 14) (.cmp l s t)
  | 12 => whenZero (low 10 && !wbit w 12) (.mul l d s t (wbit w 13) (wbit w 11) (wbit w 10))
  | 16 => whenZero (true) (.addi l d s imm)
  | 17 => whenZero (true) (.andi l d s imm)
  | 18 => whenZero (true) (.ori l d s imm)
  | 19 => whenZero (true) (.xori l d s imm)
  | 20 => whenZero (decide (w / 2 ^ 5 % 2 ^ 13 = 0)) (.shli l d s (BitVec.ofNat 5 w))
  | 21 => whenZero (decide (w / 2 ^ 5 % 2 ^ 13 = 0)) (.shri l d s (BitVec.ofNat 5 w))
  | 22 => whenZero (decide (w / 2 ^ 5 % 2 ^ 13 = 0)) (.srai l d s (BitVec.ofNat 5 w))
  | 23 => whenZero (noD) (.cmpi l s imm)
  | 24 => whenZero (noS) (.movi l d imm)
  | 25 => whenZero (noS && decide (w / 2 ^ 16 % 4 = 0)) (.lih l d (BitVec.ofNat 16 w))
  | 26 => whenZero (!wbit w 22 && low 18) (.mova l (Fin.ofNat 8 (w / 2 ^ 23)) s)
  | 27 => whenZero (!wbit w 22 && noS) (.adda l (Fin.ofNat 8 (w / 2 ^ 23)) imm)
  | 28 => whenZero (!wbit w 18 && low 18) (.movd l d (Fin.ofNat 8 (w / 2 ^ 19)))
  | 29 => whenZero (noS && decide (w / 2 ^ 6 % 2 ^ 12 = 0) && specialCode (BitVec.ofNat 6 w)) (.mfs l d (BitVec.ofNat 6 w))
  | 30 => whenZero (noD && decide (w / 2 ^ 6 % 2 ^ 12 = 0) && specialCode (BitVec.ofNat 6 w)) (.mts l (BitVec.ofNat 6 w) s)
  | 32 => whenZero (low 13) (.mac l (wbit w 25) (Fin.ofNat 16 (w / 2 ^ 21)) (Fin.ofNat 16 (w / 2 ^ 17)) (wbit w 16) (wbit w 15) (wbit w 14) (wbit w 13))
  | 33 => whenZero (low 13) (.msu l (wbit w 25) (Fin.ofNat 16 (w / 2 ^ 21)) (Fin.ofNat 16 (w / 2 ^ 17)) (wbit w 16) (wbit w 15) (wbit w 14) (wbit w 13))
  | 34 => whenZero (low 13) (.mpa l (wbit w 25) (Fin.ofNat 16 (w / 2 ^ 21)) (Fin.ofNat 16 (w / 2 ^ 17)) (wbit w 16) (wbit w 15) (wbit w 14) (wbit w 13))
  | 35 => whenZero (low 25) (.clra l (wbit w 25))
  | 36 => whenZero (low 14 && decide (w / 2 ^ 15 % 64 ≤ 39)) (.ext l (wbit w 25) (Fin.ofNat 16 (w / 2 ^ 21)) (BitVec.ofNat 6 (w / 2 ^ 15)) (wbit w 14))
  | 40 => whenZero ((memForm w).legal) (.ld l (memForm w) .clean)
  | 41 => whenZero ((memForm w).legal) (.sd l (memForm w))
  | 42 => whenZero (low 12) (.xf l (wbit w 25) (Fin.ofNat 8 (w / 2 ^ 22)) (Fin.ofNat 8 (w / 2 ^ 19)) (BitVec.ofNat 6 (w / 2 ^ 13)) (wbit w 12) [])
  | 44 => whenZero (noD && low 12) (.max l s t (wbit w 13) (wbit w 12))
  | 45 => whenZero (noD && low 12) (.min l s t (wbit w 13) (wbit w 12))
  | 48 => whenZero (decide (w / 2 ^ 13 % 2 ^ 9 = 0)) (.b l (BitVec.ofNat 4 (w / 2 ^ 22)) ix)
  | 49 => whenZero (decide (w / 2 ^ 13 % 2 ^ 13 = 0)) (.call l ix)
  | 50 => whenZero (noD && low 18) (.jr l s)
  | 51 => whenZero (low 26) (.reti l)
  | 52 => whenZero (true) (.loop l (BitVec.ofNat 13 (w / 2 ^ 13)) ix)
  | 53 => whenZero (decide (w / 2 ^ 4 % 2 ^ 9 = 0)) (.loopr l (BitVec.ofNat 13 (w / 2 ^ 13)) (Fin.ofNat 16 w))
  | 54 => whenZero (low 26) (.endl l)
  | 56 => whenZero (decide (w / 2 ^ 4 % 2 ^ 18 = 0)) (.wait l d (BitVec.ofNat 4 w))
  | 57 => whenZero (low 26) (.kick l)
  | 58 => whenZero (decide (w / 2 ^ 5 % 2 ^ 21 = 0) && decide (w % 32 ≤ 17)) (.lock l (BitVec.ofNat 5 w))
  | 59 => whenZero (low 26) (.unlk l)
  | 60 => whenZero (low 13) (.pub l (Fin.ofNat 8 (w / 2 ^ 23)) (Fin.ofNat 8 (w / 2 ^ 20)) (Fin.ofNat 8 (w / 2 ^ 17)) (Fin.ofNat 16 (w / 2 ^ 13)))
  | 61 => whenZero (low 14) (.mvh l (wbit w 25) (Fin.ofNat 8 (w / 2 ^ 22)) s t)
  | 62 => whenZero (low 26) (.mvwait l)
  | 63 => whenZero (decide (w / 2 ^ 16 % 2 ^ 10 = 0)) (.trap l (BitVec.ofNat 16 w))
  | _ => none

end Sys2Proof
end

