-- ==== Sys2Proof/Config.lean ====
section
/-! DEFINITION. What the part fixes and the values the specification leaves open: opaque constants, of which nothing can
be proved but their type. -/

namespace Sys2Proof.Config

/-- 0x1009.00: the silicon revision (R97). -/
opaque hardwareVersion : List Byte
/-- 0x1018.03: silicon and package revision (R97). -/
opaque revision : U32
/-- 0x2000.03: four bits per die (R98). -/
opaque dieRevisions : U32
/-- 0x2000.04: the unique ID (R98). -/
opaque uniqueId : U64
/-- The ESI content that SII emulation answers from (R40). -/
opaque siiWord : U16 → U16
/-- The names of an index and of an entry, as SDO information returns them (R40). -/
opaque objectName : Nat → List Byte
opaque entryName : Nat → Nat → List Byte
/-- The IEEE 1149.1 IDCODE (R96). -/
opaque idcode : U32
/-- What boundary scan captures at the pins (R96). -/
opaque boundary : Nat → Nat
/-- What the bytes of a firmware image spell: R91 names the parts of an image, and lays none of them out. -/
opaque firmwareImage : List Byte → FwImage
/-- Whether an image's ECDSA P-384 signature verifies against the key it names (R91). -/
opaque signatureValid : FwImage → Bool
/-- Vendor keys revoked by fuse (R91). -/
opaque keyRevoked : Fin 4 → Bool
/-- Whether a reset pulse of this width in ns, from 100 ns to 10 µs, resets the device (R636). -/
opaque pulseResets : Nat → Bool
/-- The EtherCAT AL status code of an invalid state change; R98 leaves it to EtherCAT. -/
opaque alInvalidChange : U16
/-- The serial number that a drive's Identify data gives, 20 ASCII bytes (R538). -/
opaque driveSerial : Nat → List Byte
/-- The factory interleave elements and equaliser taps of a channel, in OTP (R190). -/
opaque factoryElement : Nat → Nat → Element
opaque factoryTap : Nat → Nat → Int
/-- The factory level of tone k of a channel's injector as the spare measures it, in L16 (R187). -/
opaque factoryTone : Nat → Nat → Int
/-- The codes in the delay line of a channel before the first sample of a start: channel, sample index (R168, R170). -/
opaque priorCode : Nat → Nat → BitVec 12
/-- The coefficient ROM: response index, tap, before its width of 20 bits (R202, R212). -/
opaque romTap : Nat → Nat → Int
/-- What the arithmetic of the butterflies and the unpack adds to bin k of a frame, per component and in units of 2^-40 LSB, before the
limit of R281: the specification names the stages, not their order (R248). -/
opaque binNoise : List Int → Nat → Int × Int
/-- What a level detector adds to the nearest L16 code of num / den (R228, R287). -/
opaque levelNoise : Nat → Nat → Int
/-- What the log average's conversion adds to 10 log10 P of a binary32, in 2^-64 dB, before its bound of 0.001 dB (R345). -/
opaque logNoise : U32 → Int
/-- The factory bin-width tables in OTP: the last code, and the width of a code in 1/16 fs, of an interpolator of an input (8 for
EVTGATE) (R469, R472). -/
opaque factoryLastCode : Nat → Nat → Fin 384
opaque factoryBin : Nat → Nat → Nat → Nat
/-- The crystal's offset against REFIN in 10^-12, at a count of the fault clock: what the measurement of 0x2102.05 gives then (R142). -/
opaque crystalOffset : Nat → Int
/-- The junction temperature of the I/O die in 0.1 °C at a count of the fault clock, as the crystal's correction takes it (R141). -/
opaque ioTemperature : Nat → Int
/-- The factory temperature correction of the crystal in OTP: in 10^-12, at a junction temperature in 0.1 °C (R141). -/
opaque crystalTemperature : Int → Int
/-- A value that the specification leaves open: the n-th one drawn. -/
opaque freeValue : Nat → Nat
/-- A signed value that the specification leaves open: the n-th one drawn. -/
opaque freeInt : Nat → Int

end Sys2Proof.Config
end

