-- ==== Sys2Proof/Machine/Dict.lean ====
section
/-! DEFINITION. The entry tables of the object dictionary, row by row as the chapters' entry tables give them (R97, R98,
R160, R198, R199, R233, R234, R283, R284, R315, R316, R346-R348, R370, R371, R390, R392, R396, R435, R436, R494, R495, R534,
R560, R561, R591, R592, R630, R631): index family, sub-index range, type, access code, default and range. A sub-index run
takes its defaults from the list in order, the last one repeating. -/

namespace Sys2Proof

/-- The dictionary types (R49). -/
inductive Ty where
  | bool | u8 | u16 | u32 | u64 | i16 | i32 | i64 | f32 | t96 | str | domain
deriving DecidableEq, Repr

/-- The access codes (R51). -/
inductive Acc where
  | const | ro | rw | rwp | rwc | wo
deriving DecidableEq, Repr

/-- One row of an entry table: indices base + 0x10 i + j with i < n1 and j < n2, sub-indices lo to hi. The range is a list
of (lowest, highest, step) pieces, for a STR or DOMAIN of its length in bytes; an empty list admits every value. -/
structure EntryRow where
  base : Nat
  n1   : Nat
  n2   : Nat
  lo   : Nat
  hi   : Nat
  ty   : Ty
  acc  : Acc
  dflt : List Nat
  rng  : List (Int × Int × Nat)
deriving DecidableEq, Repr

namespace Dict

/-- Entries of indices 0x1000-0x10ff. -/
def page10 : List EntryRow :=
  [
    ⟨0x1000, 1, 1, 0x00, 0x00, .u32, .const, [0], []⟩,
    ⟨0x1001, 1, 1, 0x00, 0x00, .u8, .ro, [0], []⟩,
    ⟨0x1008, 1, 1, 0x00, 0x00, .str, .const, [0], []⟩,
    ⟨0x1009, 1, 1, 0x00, 0x00, .str, .const, [0], []⟩,
    ⟨0x100a, 1, 1, 0x00, 0x00, .str, .ro, [0], []⟩,
    ⟨0x1018, 1, 1, 0x01, 0x01, .u32, .const, [2604], []⟩,
    ⟨0x1018, 1, 1, 0x02, 0x02, .u32, .const, [18464], []⟩,
    ⟨0x1018, 1, 1, 0x03, 0x03, .u32, .const, [0], []⟩,
    ⟨0x1018, 1, 1, 0x04, 0x04, .u32, .const, [0], []⟩
  ]

/-- Entries of indices 0x1600-0x16ff. -/
def page16 : List EntryRow :=
  [
    ⟨0x1600, 1, 4, 0x00, 0x00, .u8, .rwp, [0], [(0, 32, 1)]⟩,
    ⟨0x1600, 1, 4, 0x01, 0x20, .u32, .rwp, [0], []⟩
  ]

/-- Entries of indices 0x1a00-0x1aff. -/
def page1A : List EntryRow :=
  [
    ⟨0x1a00, 1, 8, 0x00, 0x00, .u8, .rwp, [0], [(0, 32, 1)]⟩,
    ⟨0x1a00, 1, 8, 0x01, 0x20, .u32, .rwp, [0], []⟩
  ]

/-- Entries of indices 0x1c00-0x1cff. -/
def page1C : List EntryRow :=
  [
    ⟨0x1c00, 1, 1, 0x01, 0x04, .u8, .const, [1, 2, 3, 4], []⟩,
    ⟨0x1c12, 1, 1, 0x00, 0x00, .u16, .rwp, [0], [(0, 4, 1)]⟩,
    ⟨0x1c12, 1, 1, 0x01, 0x04, .u16, .rwp, [0], [(0, 0, 1), (5632, 5635, 1)]⟩,
    ⟨0x1c13, 1, 1, 0x00, 0x00, .u16, .rwp, [0], [(0, 8, 1)]⟩,
    ⟨0x1c13, 1, 1, 0x01, 0x08, .u16, .rwp, [0], [(0, 0, 1), (6656, 6663, 1)]⟩,
    ⟨0x1c32, 1, 1, 0x01, 0x01, .u16, .rwp, [0], [(0, 2, 1)]⟩,
    ⟨0x1c33, 1, 1, 0x01, 0x01, .u16, .rwp, [0], [(0, 2, 1)]⟩,
    ⟨0x1c32, 1, 1, 0x02, 0x02, .u32, .rwp, [1000000], [(125000, 100000000, 1)]⟩,
    ⟨0x1c33, 1, 1, 0x02, 0x02, .u32, .rwp, [1000000], [(125000, 100000000, 1)]⟩
  ]

/-- Entries of indices 0x2000-0x20ff, part 0. -/
def page20part0 : List EntryRow :=
  [
    ⟨0x2000, 1, 1, 0x01, 0x01, .str, .const, [0], []⟩,
    ⟨0x2000, 1, 1, 0x02, 0x02, .u32, .ro, [0], []⟩,
    ⟨0x2000, 1, 1, 0x03, 0x03, .u32, .const, [0], []⟩,
    ⟨0x2000, 1, 1, 0x04, 0x04, .u64, .const, [0], []⟩,
    ⟨0x2001, 1, 1, 0x01, 0x01, .u8, .ro, [1], []⟩,
    ⟨0x2001, 1, 1, 0x02, 0x02, .u8, .rw, [1], [(1, 1, 1), (2, 2, 1), (3, 3, 1), (4, 4, 1), (8, 8, 1)]⟩,
    ⟨0x2001, 1, 1, 0x03, 0x03, .u8, .rw, [0], [(0, 2, 1)]⟩,
    ⟨0x2001, 1, 1, 0x04, 0x04, .u8, .ro, [0], []⟩,
    ⟨0x2001, 1, 1, 0x05, 0x05, .u16, .ro, [0], []⟩,
    ⟨0x2001, 1, 1, 0x06, 0x06, .bool, .ro, [0], []⟩,
    ⟨0x2001, 1, 1, 0x07, 0x07, .u8, .ro, [0], []⟩,
    ⟨0x2002, 1, 1, 0x01, 0x01, .u32, .ro, [0], []⟩,
    ⟨0x2002, 1, 1, 0x02, 0x02, .u32, .ro, [0], []⟩,
    ⟨0x2002, 1, 1, 0x03, 0x03, .u32, .ro, [0], []⟩,
    ⟨0x2002, 1, 1, 0x04, 0x04, .u8, .ro, [0], []⟩,
    ⟨0x2002, 1, 1, 0x05, 0x05, .u32, .ro, [0], []⟩,
    ⟨0x2002, 1, 1, 0x06, 0x06, .u8, .wo, [0], [(1, 1, 1)]⟩,
    ⟨0x2010, 1, 1, 0x01, 0x01, .u16, .ro, [0], []⟩,
    ⟨0x2010, 1, 1, 0x02, 0x02, .u16, .const, [4096], []⟩,
    ⟨0x2010, 1, 1, 0x03, 0x03, .u8, .wo, [0], [(1, 1, 1)]⟩,
    ⟨0x2010, 1, 1, 0x04, 0x04, .u32, .rw, [0], []⟩,
    ⟨0x2010, 1, 1, 0x05, 0x05, .u8, .ro, [0], []⟩,
    ⟨0x2010, 1, 1, 0x06, 0x06, .u64, .ro, [0], []⟩,
    ⟨0x2010, 1, 1, 0x07, 0x07, .u32, .ro, [0], []⟩,
    ⟨0x2010, 1, 1, 0x08, 0x08, .u8, .ro, [0], []⟩,
    ⟨0x2011, 1, 1, 0x01, 0x01, .t96, .rw, [0], []⟩,
    ⟨0x2011, 1, 1, 0x03, 0x03, .u8, .rw, [0], [(0, 1, 1)]⟩,
    ⟨0x2011, 1, 1, 0x04, 0x04, .u8, .wo, [0], [(1, 1, 1)]⟩,
    ⟨0x2011, 1, 1, 0x05, 0x05, .u8, .rw, [0], []⟩,
    ⟨0x2012, 1, 1, 0x01, 0x01, .u32, .ro, [0], []⟩,
    ⟨0x2012, 1, 1, 0x02, 0x02, .u8, .ro, [0], []⟩,
    ⟨0x2012, 1, 1, 0x03, 0x03, .u32, .ro, [0], []⟩,
    ⟨0x2012, 1, 1, 0x04, 0x04, .t96, .ro, [0], []⟩,
    ⟨0x2012, 1, 1, 0x06, 0x06, .t96, .ro, [0], []⟩,
    ⟨0x2012, 1, 1, 0x08, 0x08, .u32, .ro, [0], []⟩,
    ⟨0x2012, 1, 1, 0x09, 0x09, .u16, .ro, [0], []⟩,
    ⟨0x2012, 1, 1, 0x0a, 0x0a, .u8, .ro, [0], []⟩,
    ⟨0x2013, 1, 1, 0x01, 0x01, .u32, .ro, [0], []⟩,
    ⟨0x2013, 1, 1, 0x02, 0x02, .u32, .ro, [0], []⟩,
    ⟨0x2013, 1, 1, 0x03, 0x03, .u32, .ro, [0], []⟩
  ]

/-- Entries of indices 0x2000-0x20ff, part 1. -/
def page20part1 : List EntryRow :=
  [
    ⟨0x2013, 1, 1, 0x04, 0x04, .u8, .ro, [0], []⟩,
    ⟨0x2014, 1, 1, 0x01, 0x14, .u32, .ro, [0], []⟩,
    ⟨0x2020, 1, 1, 0x01, 0x01, .domain, .wo, [0], [(1, 2097152, 1)]⟩,
    ⟨0x2020, 1, 1, 0x02, 0x02, .u8, .ro, [0], []⟩,
    ⟨0x2020, 1, 1, 0x03, 0x03, .u32, .ro, [0], []⟩,
    ⟨0x2020, 1, 1, 0x04, 0x04, .u32, .ro, [0], []⟩,
    ⟨0x2020, 1, 1, 0x05, 0x05, .u8, .ro, [0], []⟩,
    ⟨0x2020, 1, 1, 0x06, 0x06, .u8, .ro, [0], []⟩,
    ⟨0x2080, 1, 1, 0x01, 0x80, .u64, .rw, [0], []⟩,
    ⟨0x2081, 1, 1, 0x01, 0x80, .u64, .ro, [0], []⟩,
    ⟨0x2082, 1, 1, 0x01, 0x01, .u8, .wo, [0], [(1, 1, 1)]⟩,
    ⟨0x2082, 1, 1, 0x02, 0x02, .bool, .ro, [0], []⟩,
    ⟨0x2082, 1, 1, 0x03, 0x03, .u32, .ro, [0], []⟩,
    ⟨0x2083, 1, 1, 0x01, 0x01, .u8, .ro, [0], []⟩,
    ⟨0x2083, 1, 1, 0x02, 0x02, .u64, .ro, [0], []⟩,
    ⟨0x2083, 1, 1, 0x03, 0x03, .u32, .ro, [0], []⟩,
    ⟨0x2083, 1, 1, 0x04, 0x04, .u32, .ro, [0], []⟩
  ]

/-- Entries of indices 0x2000-0x20ff. -/
def page20 : List EntryRow := page20part0 ++ page20part1

/-- Entries of indices 0x2100-0x21ff, part 0. -/
def page21part0 : List EntryRow :=
  [
    ⟨0x2100, 1, 1, 0x01, 0x01, .u64, .rwc, [20480000000], [(10240000000, 20480000000, 1)]⟩,
    ⟨0x2100, 1, 1, 0x02, 0x02, .i32, .rw, [0], [(-200000000, 200000000, 1)]⟩,
    ⟨0x2100, 1, 1, 0x03, 0x03, .i32, .ro, [0], []⟩,
    ⟨0x2100, 1, 1, 0x04, 0x04, .u8, .ro, [1], []⟩,
    ⟨0x2100, 1, 1, 0x05, 0x05, .u8, .ro, [0], []⟩,
    ⟨0x2100, 1, 1, 0x06, 0x06, .u32, .ro, [0], []⟩,
    ⟨0x2100, 1, 1, 0x07, 0x07, .bool, .ro, [0], []⟩,
    ⟨0x2101, 1, 1, 0x01, 0x01, .u8, .ro, [1], []⟩,
    ⟨0x2101, 1, 1, 0x02, 0x02, .u8, .ro, [0], []⟩,
    ⟨0x2101, 1, 1, 0x03, 0x03, .u32, .ro, [0], []⟩,
    ⟨0x2102, 1, 1, 0x01, 0x01, .u8, .rwp, [0], [(0, 4, 1)]⟩,
    ⟨0x2102, 1, 1, 0x02, 0x02, .u8, .ro, [0], []⟩,
    ⟨0x2102, 1, 1, 0x03, 0x03, .u8, .ro, [0], []⟩,
    ⟨0x2102, 1, 1, 0x04, 0x04, .u16, .rw, [10], [(1, 1000, 1)]⟩,
    ⟨0x2102, 1, 1, 0x05, 0x05, .i32, .ro, [0], []⟩,
    ⟨0x2102, 1, 1, 0x06, 0x06, .u8, .rw, [0], [(0, 1, 1)]⟩,
    ⟨0x2102, 1, 1, 0x07, 0x07, .u8, .wo, [0], [(1, 1, 1)]⟩,
    ⟨0x2110, 1, 4, 0x01, 0x01, .bool, .rw, [0], []⟩,
    ⟨0x2110, 1, 4, 0x02, 0x02, .u8, .rwc, [1], [(0, 1, 1)]⟩,
    ⟨0x2110, 1, 4, 0x03, 0x03, .u16, .rwc, [16], [(1, 4096, 1)]⟩,
    ⟨0x2110, 1, 4, 0x04, 0x04, .u16, .rwc, [0], [(0, 4095, 1)]⟩,
    ⟨0x2110, 1, 4, 0x05, 0x05, .bool, .rwc, [0], []⟩,
    ⟨0x2110, 1, 4, 0x06, 0x06, .u8, .ro, [0], []⟩,
    ⟨0x2120, 1, 1, 0x01, 0x01, .u32, .ro, [0], []⟩,
    ⟨0x2120, 1, 1, 0x02, 0x02, .u8, .ro, [0], []⟩,
    ⟨0x2120, 1, 1, 0x03, 0x03, .u8, .ro, [0], []⟩,
    ⟨0x2120, 1, 1, 0x04, 0x04, .t96, .ro, [0], []⟩,
    ⟨0x2120, 1, 1, 0x06, 0x06, .u32, .ro, [4294967295], []⟩,
    ⟨0x2120, 1, 1, 0x07, 0x07, .u32, .ro, [0], []⟩,
    ⟨0x2121, 1, 1, 0x01, 0x04, .u8, .rwp, [1, 2, 0, 0], [(0, 5, 1)]⟩,
    ⟨0x2121, 1, 1, 0x05, 0x05, .u32, .rw, [10000], [(100, 1000000000, 1)]⟩,
    ⟨0x2121, 1, 1, 0x06, 0x06, .u32, .rw, [100000000], [(1000, 200000000, 1)]⟩,
    ⟨0x2121, 1, 1, 0x07, 0x07, .t96, .wo, [0], []⟩,
    ⟨0x2121, 1, 1, 0x09, 0x09, .u64, .wo, [0], [(0, 281474976710655, 1)]⟩,
    ⟨0x2122, 1, 1, 0x01, 0x01, .u8, .rwp, [0], [(0, 1, 1)]⟩,
    ⟨0x2122, 1, 1, 0x02, 0x02, .i32, .rw, [0], []⟩,
    ⟨0x2122, 1, 1, 0x03, 0x03, .i32, .ro, [0], []⟩,
    ⟨0x2122, 1, 1, 0x04, 0x04, .u8, .ro, [0], []⟩,
    ⟨0x2122, 1, 1, 0x05, 0x05, .u8, .ro, [0], []⟩,
    ⟨0x2122, 1, 1, 0x06, 0x06, .u32, .ro, [0], []⟩
  ]

/-- Entries of indices 0x2100-0x21ff, part 1. -/
def page21part1 : List EntryRow :=
  [
    ⟨0x2123, 1, 1, 0x01, 0x01, .u8, .rwp, [0], [(0, 3, 1)]⟩,
    ⟨0x2123, 1, 1, 0x02, 0x02, .u8, .rwp, [0], [(0, 127, 1)]⟩,
    ⟨0x2123, 1, 1, 0x03, 0x03, .u8, .rwp, [0], [(0, 1, 1)]⟩,
    ⟨0x2123, 1, 1, 0x04, 0x04, .u8, .rwp, [1], [(0, 2, 1)]⟩,
    ⟨0x2123, 1, 1, 0x05, 0x05, .i32, .rw, [0], []⟩,
    ⟨0x2123, 1, 1, 0x06, 0x06, .i64, .ro, [0], []⟩,
    ⟨0x2123, 1, 1, 0x07, 0x07, .u64, .ro, [0], []⟩,
    ⟨0x2124, 1, 1, 0x01, 0x01, .i64, .rwp, [0], []⟩,
    ⟨0x2124, 1, 1, 0x02, 0x02, .u8, .ro, [0], []⟩,
    ⟨0x2125, 1, 1, 0x01, 0x01, .u32, .rw, [1000], [(10, 86400, 1)]⟩,
    ⟨0x2125, 1, 1, 0x02, 0x02, .i32, .rw, [0], []⟩,
    ⟨0x2125, 1, 1, 0x03, 0x03, .u32, .rw, [86400], [(60, 2592000, 1)]⟩,
    ⟨0x2125, 1, 1, 0x04, 0x04, .i32, .ro, [0], []⟩,
    ⟨0x2125, 1, 1, 0x05, 0x05, .i32, .ro, [0], []⟩,
    ⟨0x2130, 1, 1, 0x01, 0x01, .u8, .rwp, [0], [(0, 3, 1)]⟩,
    ⟨0x2130, 1, 1, 0x02, 0x02, .u8, .rwp, [20], [(16, 30, 1)]⟩,
    ⟨0x2130, 1, 1, 0x03, 0x03, .i32, .rwp, [0], []⟩,
    ⟨0x2130, 1, 1, 0x04, 0x04, .u8, .wo, [0], [(1, 1, 1)]⟩,
    ⟨0x2130, 1, 1, 0x05, 0x05, .u8, .ro, [0], []⟩,
    ⟨0x2130, 1, 1, 0x06, 0x06, .i32, .ro, [0], []⟩,
    ⟨0x2130, 1, 1, 0x07, 0x07, .u32, .ro, [0], []⟩,
    ⟨0x2180, 4, 1, 0x01, 0x01, .u32, .ro, [0], []⟩,
    ⟨0x2180, 4, 1, 0x02, 0x02, .u64, .ro, [0], []⟩,
    ⟨0x2180, 4, 1, 0x03, 0x03, .t96, .ro, [0], []⟩,
    ⟨0x2180, 4, 1, 0x05, 0x05, .u8, .ro, [0], []⟩,
    ⟨0x2181, 4, 1, 0x01, 0x01, .u8, .rwp, [1], [(1, 1, 1), (2, 2, 1)]⟩,
    ⟨0x2181, 4, 1, 0x02, 0x02, .i16, .rwc, [0], [(-2000, 2000, 1)]⟩,
    ⟨0x2181, 4, 1, 0x03, 0x03, .u16, .ro, [0], []⟩
  ]

/-- Entries of indices 0x2100-0x21ff. -/
def page21 : List EntryRow := page21part0 ++ page21part1

/-- Entries of indices 0x2200-0x22ff. -/
def page22 : List EntryRow :=
  [
    ⟨0x2200, 4, 1, 0x01, 0x01, .bool, .rwp, [1], []⟩,
    ⟨0x2200, 4, 1, 0x02, 0x02, .u8, .rwc, [0], [(0, 1, 1)]⟩,
    ⟨0x2200, 4, 1, 0x03, 0x03, .u16, .rwc, [0], [(0, 1023, 1)]⟩,
    ⟨0x2200, 4, 1, 0x04, 0x04, .u16, .rwc, [16384], []⟩,
    ⟨0x2200, 4, 1, 0x05, 0x05, .i16, .rwc, [0], []⟩,
    ⟨0x2200, 4, 1, 0x06, 0x06, .u8, .rwc, [1], [(0, 2, 1)]⟩,
    ⟨0x2200, 4, 1, 0x07, 0x07, .i16, .rwc, [0], [(-60, 30, 1)]⟩,
    ⟨0x2200, 4, 1, 0x08, 0x08, .u32, .rwc, [4294967295], [(0, 65535, 1), (4294967295, 4294967295, 1)]⟩,
    ⟨0x2200, 4, 1, 0x09, 0x09, .u32, .rwc, [65536], [(4096, 65536, 4096)]⟩,
    ⟨0x2201, 4, 1, 0x01, 0x01, .u32, .ro, [0], []⟩,
    ⟨0x2201, 4, 1, 0x02, 0x02, .u64, .ro, [0], []⟩,
    ⟨0x2201, 4, 1, 0x03, 0x03, .u32, .ro, [0], []⟩,
    ⟨0x2201, 4, 1, 0x04, 0x04, .u32, .ro, [0], []⟩,
    ⟨0x2201, 4, 1, 0x05, 0x05, .u64, .ro, [0], []⟩,
    ⟨0x2201, 4, 1, 0x06, 0x06, .u8, .ro, [0], []⟩,
    ⟨0x2201, 4, 1, 0x07, 0x07, .u8, .ro, [1], []⟩,
    ⟨0x2201, 4, 1, 0x08, 0x08, .i16, .ro, [32768], []⟩,
    ⟨0x2202, 4, 1, 0x01, 0x21, .i32, .rwc, [0], [(-131072, 131071, 1)]⟩,
    ⟨0x2203, 4, 1, 0x01, 0x01, .u8, .ro, [0], []⟩,
    ⟨0x2203, 4, 1, 0x02, 0x02, .u8, .ro, [255], []⟩,
    ⟨0x2203, 4, 1, 0x03, 0x03, .u8, .ro, [255], []⟩,
    ⟨0x2203, 4, 1, 0x04, 0x04, .u32, .ro, [0], []⟩,
    ⟨0x2203, 4, 1, 0x05, 0x05, .u32, .ro, [0], []⟩,
    ⟨0x2203, 4, 1, 0x06, 0x06, .u32, .ro, [0], []⟩,
    ⟨0x2203, 4, 1, 0x07, 0x07, .u8, .ro, [0], []⟩,
    ⟨0x2204, 4, 1, 0x00, 0x00, .domain, .ro, [0], []⟩
  ]

/-- Entries of indices 0x2300-0x23ff. -/
def page23 : List EntryRow :=
  [
    ⟨0x2300, 4, 8, 0x01, 0x01, .bool, .rwc, [0], []⟩,
    ⟨0x2300, 4, 8, 0x02, 0x02, .u8, .rwc, [1], [(0, 4, 1)]⟩,
    ⟨0x2300, 4, 8, 0x03, 0x03, .u8, .rwc, [8], [(1, 20, 1)]⟩,
    ⟨0x2300, 4, 8, 0x04, 0x04, .u64, .rwc, [0], [(0, 281474976710655, 1)]⟩,
    ⟨0x2300, 4, 8, 0x05, 0x05, .u16, .rwc, [0], []⟩,
    ⟨0x2300, 4, 8, 0x06, 0x06, .u8, .rwc, [0], [(0, 1, 1)]⟩,
    ⟨0x2300, 4, 8, 0x07, 0x07, .u8, .rwc, [0], [(0, 3, 1)]⟩,
    ⟨0x2300, 4, 8, 0x08, 0x08, .u8, .rwc, [24], [(0, 63, 1)]⟩,
    ⟨0x2300, 4, 8, 0x09, 0x09, .u32, .rwc, [256], [(16, 65536, 1)]⟩,
    ⟨0x2300, 4, 8, 0x0a, 0x0a, .u8, .rwc, [0], [(0, 1, 1)]⟩,
    ⟨0x2300, 4, 8, 0x0b, 0x0b, .u8, .rwc, [0], [(0, 8, 1)]⟩,
    ⟨0x2300, 4, 8, 0x0c, 0x0c, .u32, .rwc, [4096], [(256, 65536, 1)]⟩,
    ⟨0x2300, 4, 8, 0x0d, 0x0d, .u32, .rwc, [4294967295], [(0, 65535, 1), (4294967295, 4294967295, 1)]⟩,
    ⟨0x2300, 4, 8, 0x0e, 0x0e, .bool, .rwc, [0], []⟩,
    ⟨0x2300, 4, 8, 0x0f, 0x0f, .i16, .rwc, [64256], []⟩,
    ⟨0x2300, 4, 8, 0x10, 0x10, .i16, .rwc, [64000], []⟩,
    ⟨0x2300, 4, 8, 0x11, 0x11, .u32, .rwc, [0], [(0, 16777216, 1)]⟩,
    ⟨0x2300, 4, 8, 0x12, 0x12, .u32, .rwc, [4294967295], [(0, 65535, 1), (4294967295, 4294967295, 1)]⟩,
    ⟨0x2308, 4, 1, 0x01, 0x01, .u32, .ro, [0], []⟩,
    ⟨0x2308, 4, 1, 0x02, 0x09, .u8, .ro, [0], []⟩,
    ⟨0x2308, 4, 1, 0x0a, 0x11, .u64, .ro, [0], []⟩,
    ⟨0x2308, 4, 1, 0x12, 0x19, .u32, .ro, [0], []⟩,
    ⟨0x2308, 4, 1, 0x1a, 0x21, .u32, .ro, [0], []⟩,
    ⟨0x2309, 4, 1, 0x01, 0x08, .domain, .rw, [0], [(12, 516, 1)]⟩,
    ⟨0x230a, 4, 1, 0x01, 0x08, .domain, .rw, [0], [(12, 516, 1)]⟩,
    ⟨0x2380, 1, 1, 0x01, 0x01, .u8, .rwc, [0], [(0, 15, 1)]⟩,
    ⟨0x2381, 1, 1, 0x01, 0x01, .u32, .ro, [0], []⟩,
    ⟨0x2381, 1, 1, 0x02, 0x02, .u32, .ro, [0], []⟩,
    ⟨0x2381, 1, 1, 0x03, 0x03, .t96, .ro, [0], []⟩
  ]

/-- Entries of indices 0x2400-0x24ff. -/
def page24 : List EntryRow :=
  [
    ⟨0x2400, 4, 1, 0x01, 0x01, .bool, .rwc, [0], []⟩,
    ⟨0x2400, 4, 1, 0x02, 0x02, .u8, .rwc, [16], [(8, 24, 1)]⟩,
    ⟨0x2400, 4, 1, 0x03, 0x03, .u8, .rwc, [0], [(0, 1, 1)]⟩,
    ⟨0x2400, 4, 1, 0x04, 0x04, .u8, .rwc, [0], [(0, 1, 1)]⟩,
    ⟨0x2400, 4, 1, 0x05, 0x05, .u8, .rwc, [3], [(0, 6, 1)]⟩,
    ⟨0x2400, 4, 1, 0x06, 0x06, .u8, .rwc, [8], [(4, 4, 1), (8, 8, 1)]⟩,
    ⟨0x2400, 4, 1, 0x07, 0x07, .u16, .rwc, [1000], [(900, 1100, 1)]⟩,
    ⟨0x2400, 4, 1, 0x08, 0x08, .u8, .rwc, [1], [(1, 1, 1), (2, 2, 1)]⟩,
    ⟨0x2400, 4, 1, 0x09, 0x09, .u8, .rwc, [2], [(0, 2, 1)]⟩,
    ⟨0x2400, 4, 1, 0x0a, 0x0a, .u32, .rwc, [0], [(0, 8388592, 1)]⟩,
    ⟨0x2400, 4, 1, 0x0b, 0x0b, .u32, .rwc, [0], [(0, 8388608, 16)]⟩,
    ⟨0x2400, 4, 1, 0x0c, 0x0c, .u32, .rwc, [0], [(0, 0, 1), (64, 64, 1), (128, 128, 1), (256, 256, 1), (512, 512, 1), (1024, 1024, 1), (2048, 2048, 1), (4096, 4096, 1), (8192, 8192, 1), (16384, 16384, 1), (32768, 32768, 1), (65536, 65536, 1), (131072, 131072, 1), (262144, 262144, 1), (524288, 524288, 1), (1048576, 1048576, 1)]⟩,
    ⟨0x2400, 4, 1, 0x0d, 0x0d, .u32, .rwc, [4294967295], [(0, 65535, 1), (4294967295, 4294967295, 1)]⟩,
    ⟨0x2400, 4, 1, 0x0e, 0x0e, .u8, .rwc, [16], [(8, 16, 1)]⟩,
    ⟨0x2401, 4, 1, 0x01, 0x01, .bool, .rwc, [0], []⟩,
    ⟨0x2401, 4, 1, 0x02, 0x02, .u8, .rwc, [12], [(8, 13, 1)]⟩,
    ⟨0x2401, 4, 1, 0x03, 0x03, .u8, .rwc, [1], [(0, 1, 1)]⟩,
    ⟨0x2401, 4, 1, 0x04, 0x04, .u8, .rwc, [3], [(0, 4, 1)]⟩,
    ⟨0x2401, 4, 1, 0x05, 0x05, .bool, .rwc, [0], []⟩,
    ⟨0x2401, 4, 1, 0x06, 0x06, .u8, .rwc, [12], [(8, 13, 1)]⟩,
    ⟨0x2401, 4, 1, 0x07, 0x07, .u8, .rwc, [1], [(0, 1, 1)]⟩,
    ⟨0x2401, 4, 1, 0x08, 0x08, .u8, .rwc, [3], [(0, 4, 1)]⟩,
    ⟨0x2403, 4, 1, 0x01, 0x01, .u32, .ro, [0], []⟩,
    ⟨0x2403, 4, 1, 0x02, 0x02, .u64, .ro, [0], []⟩,
    ⟨0x2403, 4, 1, 0x03, 0x03, .u32, .ro, [0], []⟩,
    ⟨0x2403, 4, 1, 0x04, 0x04, .u8, .ro, [0], []⟩,
    ⟨0x2403, 4, 1, 0x05, 0x05, .u8, .ro, [255], []⟩,
    ⟨0x2403, 4, 1, 0x06, 0x06, .u32, .ro, [0], []⟩,
    ⟨0x2403, 4, 1, 0x07, 0x07, .u8, .ro, [0], []⟩,
    ⟨0x2403, 4, 1, 0x08, 0x08, .u64, .ro, [0], []⟩,
    ⟨0x2403, 4, 1, 0x09, 0x09, .u32, .ro, [0], []⟩,
    ⟨0x2403, 4, 1, 0x0a, 0x0a, .u32, .ro, [0], []⟩,
    ⟨0x2404, 4, 1, 0x00, 0x00, .domain, .rwc, [0], [(0, 1024, 1)]⟩,
    ⟨0x2480, 1, 1, 0x01, 0x01, .u8, .rwc, [0], [(0, 63, 1)]⟩,
    ⟨0x2480, 1, 1, 0x02, 0x02, .u8, .rwc, [0], [(0, 15, 1)]⟩,
    ⟨0x2480, 1, 1, 0x03, 0x03, .u8, .rwc, [0], [(0, 1, 1)]⟩,
    ⟨0x2480, 1, 1, 0x04, 0x09, .u32, .rwc, [4294967295], [(0, 65535, 1), (4294967295, 4294967295, 1)]⟩,
    ⟨0x2480, 1, 1, 0x0a, 0x0d, .u32, .rwc, [4294967295], [(0, 65535, 1), (4294967295, 4294967295, 1)]⟩,
    ⟨0x2481, 1, 1, 0x01, 0x01, .domain, .rw, [0], [(1032, 2097160, 1)]⟩,
    ⟨0x2481, 1, 1, 0x02, 0x02, .domain, .rw, [0], [(1032, 2097160, 1)]⟩
  ]

/-- Entries of indices 0x2500-0x25ff. -/
def page25 : List EntryRow :=
  [
    ⟨0x2500, 4, 4, 0x01, 0x01, .u8, .rwc, [0], [(0, 6, 1)]⟩,
    ⟨0x2500, 4, 4, 0x02, 0x02, .u8, .rwc, [0], [(0, 7, 1)]⟩,
    ⟨0x2500, 4, 4, 0x03, 0x03, .u8, .rwc, [0], [(0, 2, 1)]⟩,
    ⟨0x2500, 4, 4, 0x04, 0x04, .u16, .rwc, [1], [(1, 4096, 1)]⟩,
    ⟨0x2500, 4, 4, 0x05, 0x05, .u16, .rwc, [0], [(0, 4095, 1)]⟩,
    ⟨0x2500, 4, 4, 0x06, 0x06, .u16, .rwc, [4095], [(0, 4095, 1)]⟩,
    ⟨0x2500, 4, 4, 0x07, 0x07, .i16, .rwc, [55296], []⟩,
    ⟨0x2500, 4, 4, 0x08, 0x08, .i16, .rwc, [32767], []⟩,
    ⟨0x2500, 4, 4, 0x09, 0x09, .u16, .rwc, [64], [(1, 4096, 1)]⟩,
    ⟨0x2500, 4, 4, 0x0a, 0x0a, .u32, .rwc, [1], [(1, 16777216, 1)]⟩,
    ⟨0x2500, 4, 4, 0x0b, 0x0b, .i16, .rwc, [0], []⟩,
    ⟨0x2500, 4, 4, 0x0c, 0x0c, .u16, .rwc, [0], [(0, 4096, 1)]⟩,
    ⟨0x2500, 4, 4, 0x0d, 0x0d, .u8, .rwc, [0], [(0, 1, 1)]⟩,
    ⟨0x2500, 4, 4, 0x0e, 0x0e, .u8, .rwc, [8], [(0, 20, 1)]⟩,
    ⟨0x2500, 4, 4, 0x0f, 0x0f, .u8, .rwc, [0], [(0, 3, 1)]⟩,
    ⟨0x2500, 4, 4, 0x10, 0x10, .u64, .rwc, [0], [(0, 1099511627776, 1)]⟩,
    ⟨0x2500, 4, 4, 0x11, 0x11, .u64, .rwc, [0], [(0, 1099511627776, 1)]⟩,
    ⟨0x2500, 4, 4, 0x12, 0x12, .u64, .rwc, [0], [(0, 1099511627776, 1)]⟩,
    ⟨0x2500, 4, 4, 0x13, 0x13, .u8, .rwc, [0], [(0, 16, 1)]⟩,
    ⟨0x2500, 4, 4, 0x14, 0x14, .u8, .rwc, [0], [(0, 1, 1)]⟩,
    ⟨0x2500, 4, 4, 0x15, 0x15, .u8, .rwc, [0], [(0, 15, 1)]⟩,
    ⟨0x2500, 4, 4, 0x16, 0x16, .u64, .rwc, [0], [(0, 10000000000000, 1)]⟩,
    ⟨0x2500, 4, 4, 0x17, 0x17, .u64, .rwc, [18446744073709551615], [(1, 10000000000000, 1), (18446744073709551615, 18446744073709551615, 1)]⟩,
    ⟨0x2500, 4, 4, 0x18, 0x18, .u8, .rwc, [0], [(0, 1, 1)]⟩,
    ⟨0x2500, 4, 4, 0x19, 0x19, .u8, .rwc, [1], [(0, 3, 1)]⟩,
    ⟨0x2500, 4, 4, 0x1a, 0x1a, .u32, .rwc, [4294967295], [(0, 65535, 1), (4294967295, 4294967295, 1)]⟩,
    ⟨0x2500, 4, 4, 0x1c, 0x1c, .domain, .rwc, [0], [(520, 16392, 1)]⟩,
    ⟨0x2508, 4, 1, 0x01, 0x01, .u32, .ro, [0], []⟩,
    ⟨0x2508, 4, 1, 0x02, 0x05, .u64, .ro, [0], []⟩,
    ⟨0x2508, 4, 1, 0x06, 0x09, .u32, .ro, [0], []⟩,
    ⟨0x2508, 4, 1, 0x0a, 0x0d, .u32, .ro, [0], []⟩,
    ⟨0x2508, 4, 1, 0x0e, 0x11, .u8, .ro, [0], []⟩,
    ⟨0x2508, 4, 1, 0x12, 0x15, .u64, .ro, [0], []⟩,
    ⟨0x2580, 1, 1, 0x01, 0x04, .u8, .rwc, [0], [(0, 16, 1)]⟩,
    ⟨0x2580, 1, 1, 0x05, 0x08, .u16, .rwc, [10], [(1, 65535, 1)]⟩,
    ⟨0x2580, 1, 1, 0x09, 0x09, .u8, .rwc, [0], [(0, 15, 1)]⟩
  ]

/-- Entries of indices 0x2600-0x26ff, part 0. -/
def page26part0 : List EntryRow :=
  [
    ⟨0x2600, 4, 1, 0x01, 0x01, .bool, .rwc, [0], []⟩,
    ⟨0x2600, 4, 1, 0x02, 0x02, .u64, .rwc, [100000000], [(1000000, 60000000000, 1)]⟩,
    ⟨0x2600, 4, 1, 0x03, 0x03, .u16, .rwc, [1024], [(256, 256, 1), (512, 512, 1), (1024, 1024, 1)]⟩,
    ⟨0x2600, 4, 1, 0x04, 0x04, .i16, .rwc, [50176], []⟩,
    ⟨0x2600, 4, 1, 0x05, 0x05, .u16, .rwc, [16], [(1, 1024, 1)]⟩,
    ⟨0x2600, 4, 1, 0x06, 0x06, .u16, .rwc, [1], [(1, 256, 1)]⟩,
    ⟨0x2600, 4, 1, 0x07, 0x07, .u16, .rwc, [0], [(0, 256, 1)]⟩,
    ⟨0x2600, 4, 1, 0x08, 0x08, .u8, .rwc, [0], [(0, 15, 1)]⟩,
    ⟨0x2600, 4, 1, 0x09, 0x09, .u16, .rwc, [4096], [(1, 1, 1), (2, 2, 1), (4, 4, 1), (8, 8, 1), (16, 16, 1), (32, 32, 1), (64, 64, 1), (128, 128, 1), (256, 256, 1), (512, 512, 1), (1024, 1024, 1), (2048, 2048, 1), (4096, 4096, 1)]⟩,
    ⟨0x2600, 4, 1, 0x0a, 0x0a, .u16, .rwc, [0], [(0, 1023, 1)]⟩,
    ⟨0x2600, 4, 1, 0x0b, 0x0b, .u16, .rwc, [1023], [(0, 1023, 1)]⟩,
    ⟨0x2600, 4, 1, 0x0c, 0x0c, .u32, .rwc, [4294967295], [(0, 65535, 1), (4294967295, 4294967295, 1)]⟩,
    ⟨0x2600, 4, 1, 0x0d, 0x0d, .u8, .wo, [0], [(1, 1, 1)]⟩,
    ⟨0x2601, 4, 1, 0x01, 0x01, .u32, .ro, [0], []⟩,
    ⟨0x2601, 4, 1, 0x02, 0x02, .u64, .ro, [0], []⟩,
    ⟨0x2601, 4, 1, 0x03, 0x03, .u8, .ro, [0], []⟩,
    ⟨0x2601, 4, 1, 0x04, 0x04, .u32, .ro, [0], []⟩,
    ⟨0x2601, 4, 1, 0x05, 0x05, .u32, .ro, [0], []⟩,
    ⟨0x2601, 4, 1, 0x06, 0x06, .u32, .ro, [0], []⟩,
    ⟨0x2601, 4, 1, 0x07, 0x07, .u32, .ro, [0], []⟩,
    ⟨0x2601, 4, 1, 0x08, 0x08, .u32, .ro, [0], []⟩,
    ⟨0x2602, 4, 6, 0x01, 0x01, .bool, .rwc, [0], []⟩,
    ⟨0x2602, 4, 6, 0x02, 0x02, .u8, .rwc, [4], [(0, 6, 1)]⟩,
    ⟨0x2602, 4, 6, 0x03, 0x03, .u8, .rwc, [0], [(0, 4, 1)]⟩,
    ⟨0x2602, 4, 6, 0x04, 0x04, .u32, .rwc, [100], [(1, 16777216, 1)]⟩,
    ⟨0x2602, 4, 6, 0x05, 0x05, .u32, .rwc, [0], [(0, 8388607, 1)]⟩,
    ⟨0x2602, 4, 6, 0x06, 0x06, .u32, .rwc, [0], [(0, 8388608, 1)]⟩,
    ⟨0x2602, 4, 6, 0x07, 0x07, .u8, .rwc, [2], [(0, 2, 1)]⟩,
    ⟨0x2602, 4, 6, 0x08, 0x08, .u32, .rwc, [0], [(0, 0, 1), (64, 64, 1), (128, 128, 1), (256, 256, 1), (512, 512, 1), (1024, 1024, 1), (2048, 2048, 1), (4096, 4096, 1), (8192, 8192, 1), (16384, 16384, 1), (32768, 32768, 1), (65536, 65536, 1), (131072, 131072, 1), (262144, 262144, 1), (524288, 524288, 1), (1048576, 1048576, 1)]⟩,
    ⟨0x2602, 4, 6, 0x09, 0x09, .u32, .rwc, [4294967295], [(0, 65535, 1), (4294967295, 4294967295, 1)]⟩,
    ⟨0x2602, 4, 6, 0x0a, 0x0a, .bool, .rwc, [0], []⟩,
    ⟨0x2602, 4, 6, 0x0b, 0x0b, .f32, .rwc, [1063675494], [(0, 1120403456, 1), (2147483648, 2147483648, 1)]⟩,
    ⟨0x2602, 4, 6, 0x0c, 0x0c, .f32, .rwc, [1066192077], [(0, 1120403456, 1), (2147483648, 2147483648, 1)]⟩,
    ⟨0x2608, 4, 1, 0x01, 0x01, .u32, .ro, [0], []⟩,
    ⟨0x2608, 4, 1, 0x02, 0x07, .u32, .ro, [0], []⟩,
    ⟨0x2608, 4, 1, 0x08, 0x0d, .u32, .ro, [0], []⟩,
    ⟨0x2608, 4, 1, 0x0e, 0x0e, .u32, .ro, [0], []⟩,
    ⟨0x2609, 4, 1, 0x01, 0x01, .bool, .rwc, [0], []⟩,
    ⟨0x2609, 4, 1, 0x05, 0x05, .bool, .rwc, [0], []⟩,
    ⟨0x2609, 4, 1, 0x02, 0x02, .u8, .rwc, [10], [(4, 20, 1)]⟩
  ]

/-- Entries of indices 0x2600-0x26ff, part 1. -/
def page26part1 : List EntryRow :=
  [
    ⟨0x2609, 4, 1, 0x06, 0x06, .u8, .rwc, [10], [(4, 20, 1)]⟩,
    ⟨0x2609, 4, 1, 0x03, 0x03, .u32, .rwc, [4096], [(64, 65536, 1)]⟩,
    ⟨0x2609, 4, 1, 0x07, 0x07, .u32, .rwc, [4096], [(64, 65536, 1)]⟩,
    ⟨0x2609, 4, 1, 0x04, 0x04, .u32, .rwc, [4294967295], [(0, 65535, 1), (4294967295, 4294967295, 1)]⟩,
    ⟨0x2609, 4, 1, 0x08, 0x08, .u32, .rwc, [4294967295], [(0, 65535, 1), (4294967295, 4294967295, 1)]⟩
  ]

/-- Entries of indices 0x2600-0x26ff. -/
def page26 : List EntryRow := page26part0 ++ page26part1

/-- Entries of indices 0x2700-0x27ff. -/
def page27 : List EntryRow :=
  [
    ⟨0x2700, 4, 1, 0x01, 0x01, .u8, .rwc, [0], [(0, 3, 1)]⟩,
    ⟨0x2700, 4, 1, 0x02, 0x02, .u32, .rwc, [65536], [(4096, 1073741824, 4096)]⟩,
    ⟨0x2700, 4, 1, 0x03, 0x03, .u32, .rwc, [0], [(0, 67108864, 128)]⟩,
    ⟨0x2700, 4, 1, 0x04, 0x04, .u32, .rwc, [1024], [(1, 4194304, 1)]⟩,
    ⟨0x2700, 4, 1, 0x05, 0x05, .u64, .rwc, [0], [(0, 18446744073709551615, 131072)]⟩,
    ⟨0x2700, 4, 1, 0x06, 0x06, .u64, .rwc, [0], [(0, 18446744073709551615, 131072)]⟩,
    ⟨0x2700, 4, 1, 0x07, 0x07, .u16, .rwc, [0], []⟩,
    ⟨0x2700, 4, 1, 0x08, 0x08, .u8, .rwc, [255], [(0, 3, 1), (255, 255, 1)]⟩,
    ⟨0x2700, 4, 1, 0x09, 0x09, .u8, .rwc, [0], [(0, 1, 1)]⟩,
    ⟨0x2700, 4, 1, 0x0a, 0x0a, .u32, .rwc, [4294967295], [(0, 65535, 1), (4294967295, 4294967295, 1)]⟩,
    ⟨0x2700, 4, 1, 0x0b, 0x0b, .u8, .wo, [0], [(1, 1, 1)]⟩,
    ⟨0x2700, 4, 1, 0x0c, 0x0c, .u8, .wo, [0], [(1, 1, 1)]⟩,
    ⟨0x2700, 4, 1, 0x0d, 0x0d, .u8, .wo, [0], [(1, 1, 1)]⟩,
    ⟨0x2700, 4, 1, 0x0e, 0x0e, .u8, .wo, [0], [(1, 1, 1)]⟩,
    ⟨0x2700, 4, 1, 0x0f, 0x0f, .u32, .rw, [0], []⟩,
    ⟨0x2701, 4, 1, 0x01, 0x01, .u32, .ro, [0], []⟩,
    ⟨0x2701, 4, 1, 0x02, 0x02, .u8, .ro, [0], []⟩,
    ⟨0x2701, 4, 1, 0x03, 0x03, .u32, .ro, [0], []⟩,
    ⟨0x2701, 4, 1, 0x04, 0x04, .u64, .ro, [0], []⟩,
    ⟨0x2701, 4, 1, 0x05, 0x05, .u32, .ro, [0], []⟩,
    ⟨0x2701, 4, 1, 0x06, 0x06, .u64, .ro, [0], []⟩,
    ⟨0x2701, 4, 1, 0x07, 0x07, .u32, .ro, [0], []⟩,
    ⟨0x2701, 4, 1, 0x08, 0x08, .u32, .ro, [0], []⟩,
    ⟨0x2701, 4, 1, 0x09, 0x09, .u32, .ro, [0], []⟩,
    ⟨0x2701, 4, 1, 0x0a, 0x0a, .u64, .ro, [0], []⟩
  ]

/-- Entries of indices 0x2800-0x28ff. -/
def page28 : List EntryRow :=
  [
    ⟨0x2800, 1, 1, 0x01, 0x01, .domain, .rwc, [0], [(136, 2056, 1)]⟩,
    ⟨0x2800, 1, 1, 0x02, 0x02, .u32, .rw, [10000], [(1000, 1000000, 1)]⟩,
    ⟨0x2800, 1, 1, 0x03, 0x03, .u32, .rw, [1000], [(100, 60000, 1)]⟩,
    ⟨0x2800, 1, 1, 0x04, 0x04, .u32, .rw, [86400], [(3600, 604800, 1)]⟩,
    ⟨0x2800, 1, 1, 0x05, 0x05, .u8, .rw, [2], [(0, 3, 1)]⟩,
    ⟨0x2800, 1, 1, 0x06, 0x06, .u8, .rw, [1], [(0, 3, 1)]⟩,
    ⟨0x2800, 1, 1, 0x07, 0x07, .u8, .rw, [3], [(0, 3, 1)]⟩,
    ⟨0x2801, 1, 1, 0x01, 0x01, .u32, .ro, [0], []⟩,
    ⟨0x2801, 1, 1, 0x02, 0x02, .u8, .ro, [0], []⟩,
    ⟨0x2801, 1, 1, 0x03, 0x03, .u64, .ro, [0], []⟩,
    ⟨0x2801, 1, 1, 0x04, 0x04, .u16, .ro, [1024], []⟩,
    ⟨0x2801, 1, 1, 0x05, 0x05, .u16, .ro, [0], []⟩,
    ⟨0x2801, 1, 1, 0x06, 0x06, .bool, .ro, [1], []⟩,
    ⟨0x2801, 1, 1, 0x07, 0x07, .bool, .ro, [1], []⟩,
    ⟨0x2801, 1, 1, 0x08, 0x08, .u8, .ro, [0], []⟩,
    ⟨0x2801, 1, 1, 0x09, 0x09, .u32, .ro, [0], []⟩,
    ⟨0x2801, 1, 1, 0x0a, 0x0a, .u64, .ro, [0], []⟩,
    ⟨0x2802, 1, 1, 0x01, 0x01, .u32, .ro, [0], []⟩,
    ⟨0x2802, 1, 1, 0x02, 0x02, .u64, .ro, [0], []⟩,
    ⟨0x2802, 1, 1, 0x03, 0x03, .u32, .ro, [0], []⟩,
    ⟨0x2802, 1, 1, 0x04, 0x04, .u64, .ro, [0], []⟩,
    ⟨0x2802, 1, 1, 0x05, 0x05, .u8, .ro, [0], []⟩,
    ⟨0x2802, 1, 1, 0x06, 0x06, .u8, .ro, [0], []⟩,
    ⟨0x2802, 1, 1, 0x07, 0x07, .u16, .ro, [0], []⟩,
    ⟨0x2802, 1, 1, 0x08, 0x08, .u32, .ro, [0], []⟩,
    ⟨0x2802, 1, 1, 0x09, 0x09, .u32, .ro, [0], []⟩,
    ⟨0x2810, 1, 1, 0x01, 0x01, .u32, .ro, [0], []⟩,
    ⟨0x2810, 1, 1, 0x02, 0x02, .u64, .ro, [0], []⟩,
    ⟨0x2810, 1, 1, 0x03, 0x03, .u32, .ro, [0], []⟩,
    ⟨0x2810, 1, 1, 0x04, 0x04, .u32, .ro, [0], []⟩,
    ⟨0x2810, 1, 1, 0x05, 0x05, .u8, .ro, [0], []⟩,
    ⟨0x2810, 1, 1, 0x06, 0x06, .u16, .const, [4000], []⟩
  ]

/-- Entries of indices 0x2900-0x29ff. -/
def page29 : List EntryRow :=
  [
    ⟨0x2900, 16, 1, 0x01, 0x10, .u8, .rwc, [0], [(0, 1, 1)]⟩,
    ⟨0x2901, 16, 1, 0x01, 0x10, .u8, .rwc, [2], [(1, 3, 1)]⟩,
    ⟨0x2902, 16, 1, 0x01, 0x10, .u8, .rwc, [50], [(1, 150, 1)]⟩,
    ⟨0x2903, 16, 4, 0x01, 0x10, .u64, .rwc, [0], []⟩,
    ⟨0x2907, 16, 1, 0x01, 0x80, .u32, .rwc, [4294967295], [(0, 65535, 1), (4294967295, 4294967295, 1)]⟩,
    ⟨0x2908, 16, 1, 0x01, 0x01, .u32, .ro, [0], []⟩,
    ⟨0x2908, 16, 1, 0x02, 0x11, .u8, .ro, [0], []⟩,
    ⟨0x2908, 16, 1, 0x12, 0x21, .u32, .ro, [0], []⟩,
    ⟨0x2909, 16, 1, 0x01, 0x01, .u32, .rw, [0], [(0, 262143, 1)]⟩,
    ⟨0x2909, 16, 1, 0x02, 0x02, .u32, .ro, [0], []⟩,
    ⟨0x2909, 16, 1, 0x03, 0x03, .u64, .ro, [0], []⟩,
    ⟨0x2909, 16, 1, 0x04, 0x04, .u64, .ro, [0], []⟩,
    ⟨0x2909, 16, 1, 0x05, 0x05, .u32, .ro, [0], []⟩,
    ⟨0x2909, 16, 1, 0x06, 0x06, .u32, .ro, [0], []⟩,
    ⟨0x290a, 16, 1, 0x01, 0x01, .u32, .ro, [0], []⟩,
    ⟨0x290a, 16, 1, 0x02, 0x11, .u32, .ro, [0], []⟩,
    ⟨0x290a, 16, 1, 0x12, 0x21, .u32, .ro, [0], []⟩,
    ⟨0x290a, 16, 1, 0x22, 0x31, .u32, .ro, [0], []⟩,
    ⟨0x290b, 16, 1, 0x01, 0x10, .u8, .ro, [0], []⟩,
    ⟨0x290b, 16, 1, 0x11, 0x11, .u8, .ro, [0], []⟩
  ]

/-- Entries of indices 0x2a00-0x2aff, part 0. -/
def page2Apart0 : List EntryRow :=
  [
    ⟨0x2a00, 8, 1, 0x01, 0x01, .bool, .rwc, [0], []⟩,
    ⟨0x2a00, 8, 1, 0x02, 0x02, .u8, .rwc, [0], [(0, 1, 1)]⟩,
    ⟨0x2a00, 8, 1, 0x03, 0x03, .u16, .rwc, [1], [(1, 256, 1)]⟩,
    ⟨0x2a00, 8, 1, 0x04, 0x04, .bool, .rwc, [0], []⟩,
    ⟨0x2a00, 8, 1, 0x05, 0x05, .i32, .rwc, [0], []⟩,
    ⟨0x2a00, 8, 1, 0x06, 0x06, .u16, .rwc, [256], [(1, 4096, 1)]⟩,
    ⟨0x2a00, 8, 1, 0x07, 0x07, .u32, .rwc, [10000], [(100, 1000000, 1)]⟩,
    ⟨0x2a00, 8, 1, 0x08, 0x08, .u32, .rwc, [4294967295], [(0, 65535, 1), (4294967295, 4294967295, 1)]⟩,
    ⟨0x2a01, 8, 1, 0x01, 0x01, .u32, .ro, [0], []⟩,
    ⟨0x2a01, 8, 1, 0x02, 0x02, .u64, .ro, [0], []⟩,
    ⟨0x2a01, 8, 1, 0x03, 0x03, .u32, .ro, [0], []⟩,
    ⟨0x2a01, 8, 1, 0x04, 0x04, .u32, .ro, [0], []⟩,
    ⟨0x2a01, 8, 1, 0x05, 0x05, .u32, .ro, [0], []⟩,
    ⟨0x2a01, 8, 1, 0x06, 0x06, .u8, .ro, [0], []⟩,
    ⟨0x2a01, 8, 1, 0x07, 0x07, .u8, .ro, [0], []⟩,
    ⟨0x2a01, 8, 1, 0x08, 0x08, .u32, .ro, [0], []⟩,
    ⟨0x2a02, 8, 1, 0x01, 0x01, .domain, .ro, [0], []⟩,
    ⟨0x2a02, 8, 1, 0x02, 0x02, .domain, .ro, [0], []⟩,
    ⟨0x2a80, 1, 1, 0x01, 0x01, .u8, .rwc, [0], [(0, 3, 1)]⟩,
    ⟨0x2a80, 1, 1, 0x02, 0x02, .u8, .rwc, [0], [(0, 1, 1)]⟩,
    ⟨0x2a80, 1, 1, 0x03, 0x03, .u64, .rwc, [1000000], [(2500, 1000000000000000, 1)]⟩,
    ⟨0x2a80, 1, 1, 0x04, 0x04, .t96, .rwc, [0], []⟩,
    ⟨0x2a80, 1, 1, 0x06, 0x06, .u64, .rwc, [0], [(0, 0, 1), (2500, 1000000000000000, 1)]⟩,
    ⟨0x2a80, 1, 1, 0x07, 0x07, .u32, .rwc, [4294967295], [(0, 65535, 1), (4294967295, 4294967295, 1)]⟩,
    ⟨0x2a80, 1, 1, 0x08, 0x08, .i32, .rwc, [0], []⟩,
    ⟨0x2a81, 1, 1, 0x01, 0x01, .u32, .ro, [0], []⟩,
    ⟨0x2a81, 1, 1, 0x02, 0x02, .u32, .ro, [0], []⟩,
    ⟨0x2a81, 1, 1, 0x03, 0x03, .u8, .ro, [0], []⟩,
    ⟨0x2a81, 1, 1, 0x04, 0x04, .t96, .ro, [0], []⟩,
    ⟨0x2a81, 1, 1, 0x06, 0x06, .t96, .ro, [0], []⟩,
    ⟨0x2a81, 1, 1, 0x08, 0x08, .u32, .ro, [0], []⟩,
    ⟨0x2a90, 1, 4, 0x01, 0x01, .bool, .rwc, [0], []⟩,
    ⟨0x2a90, 1, 4, 0x02, 0x02, .u8, .rwc, [0], [(0, 7, 1)]⟩,
    ⟨0x2a90, 1, 4, 0x03, 0x03, .u8, .rwc, [1], [(0, 7, 1)]⟩,
    ⟨0x2a90, 1, 4, 0x04, 0x04, .bool, .rwc, [0], []⟩,
    ⟨0x2a90, 1, 4, 0x05, 0x05, .bool, .rwc, [0], []⟩,
    ⟨0x2a90, 1, 4, 0x06, 0x06, .u32, .rwc, [1000], [(1, 16777216, 1)]⟩,
    ⟨0x2a90, 1, 4, 0x07, 0x07, .bool, .rwc, [0], []⟩,
    ⟨0x2a90, 1, 4, 0x08, 0x08, .u32, .rwc, [4294967295], [(0, 65535, 1), (4294967295, 4294967295, 1)]⟩,
    ⟨0x2a90, 1, 4, 0x09, 0x09, .u32, .rwc, [4294967295], [(0, 65535, 1), (4294967295, 4294967295, 1)]⟩
  ]

/-- Entries of indices 0x2a00-0x2aff, part 1. -/
def page2Apart1 : List EntryRow :=
  [
    ⟨0x2a90, 1, 4, 0x0a, 0x0a, .u16, .rwc, [256], [(1, 1024, 1)]⟩,
    ⟨0x2aa0, 1, 4, 0x01, 0x01, .u32, .ro, [0], []⟩,
    ⟨0x2aa0, 1, 4, 0x02, 0x02, .u64, .ro, [0], []⟩,
    ⟨0x2aa0, 1, 4, 0x03, 0x03, .u32, .ro, [0], []⟩,
    ⟨0x2aa0, 1, 4, 0x04, 0x04, .i64, .ro, [0], []⟩,
    ⟨0x2aa0, 1, 4, 0x05, 0x05, .f32, .ro, [0], []⟩,
    ⟨0x2aa0, 1, 4, 0x06, 0x06, .i64, .ro, [0], []⟩,
    ⟨0x2aa0, 1, 4, 0x07, 0x07, .i64, .ro, [0], []⟩,
    ⟨0x2aa0, 1, 4, 0x08, 0x08, .t96, .ro, [0], []⟩,
    ⟨0x2aa0, 1, 4, 0x0a, 0x0e, .u32, .ro, [0], []⟩,
    ⟨0x2aa0, 1, 4, 0x0f, 0x0f, .u8, .ro, [0], []⟩,
    ⟨0x2aa0, 1, 4, 0x10, 0x10, .u32, .ro, [0], []⟩,
    ⟨0x2af0, 1, 1, 0x01, 0x01, .bool, .rw, [1], []⟩,
    ⟨0x2af0, 1, 1, 0x02, 0x02, .u32, .rw, [600], [(10, 86400, 1)]⟩,
    ⟨0x2af0, 1, 1, 0x03, 0x03, .u8, .rw, [20], [(5, 100, 1)]⟩,
    ⟨0x2af0, 1, 1, 0x04, 0x04, .u16, .wo, [0], [(0, 511, 1)]⟩
  ]

/-- Entries of indices 0x2a00-0x2aff. -/
def page2A : List EntryRow := page2Apart0 ++ page2Apart1

/-- Entries of indices 0x2b00-0x2bff. -/
def page2B : List EntryRow :=
  [
    ⟨0x2b00, 1, 1, 0x01, 0x01, .u32, .rw, [100], [(10, 10000, 1)]⟩,
    ⟨0x2b00, 1, 1, 0x02, 0x02, .u32, .ro, [0], []⟩,
    ⟨0x2b02, 1, 1, 0x00, 0x00, .domain, .wo, [0], [(64, 64, 1)]⟩,
    ⟨0x2b03, 1, 1, 0x01, 0x01, .u16, .rw, [0], [(0, 65535, 1)]⟩,
    ⟨0x2b04, 1, 1, 0x01, 0x01, .u32, .ro, [0], []⟩,
    ⟨0x2b04, 1, 1, 0x02, 0x02, .u8, .ro, [0], []⟩,
    ⟨0x2b04, 1, 1, 0x03, 0x03, .u32, .ro, [0], []⟩,
    ⟨0x2b04, 1, 1, 0x04, 0x04, .u32, .ro, [0], []⟩,
    ⟨0x2b04, 1, 1, 0x05, 0x05, .u32, .ro, [0], []⟩,
    ⟨0x2b04, 1, 1, 0x06, 0x06, .u32, .ro, [0], []⟩,
    ⟨0x2b04, 1, 1, 0x07, 0x07, .u64, .ro, [0], []⟩,
    ⟨0x2b04, 1, 1, 0x08, 0x08, .u64, .ro, [0], []⟩,
    ⟨0x2b04, 1, 1, 0x09, 0x09, .u64, .ro, [0], []⟩,
    ⟨0x2b04, 1, 1, 0x0a, 0x0a, .u64, .ro, [0], []⟩,
    ⟨0x2b04, 1, 1, 0x0b, 0x0b, .u8, .ro, [0], []⟩,
    ⟨0x2b04, 1, 1, 0x0c, 0x0c, .u8, .ro, [255], []⟩,
    ⟨0x2b05, 1, 1, 0x00, 0x00, .domain, .ro, [0], []⟩,
    ⟨0x2b06, 1, 1, 0x01, 0x01, .u32, .wo, [0], []⟩,
    ⟨0x2b08, 1, 1, 0x01, 0x01, .u32, .ro, [0], []⟩,
    ⟨0x2b08, 1, 1, 0x02, 0x02, .u16, .ro, [0], []⟩,
    ⟨0x2b08, 1, 1, 0x03, 0x03, .u16, .ro, [0], []⟩,
    ⟨0x2b08, 1, 1, 0x04, 0x04, .u64, .ro, [0], []⟩,
    ⟨0x2b08, 1, 1, 0x05, 0x05, .u32, .ro, [0], []⟩,
    ⟨0x2b08, 1, 1, 0x06, 0x06, .u32, .ro, [0], []⟩,
    ⟨0x2b08, 1, 1, 0x07, 0x07, .u8, .ro, [64], []⟩,
    ⟨0x2b08, 1, 1, 0x08, 0x08, .u16, .ro, [0], []⟩,
    ⟨0x2b08, 1, 1, 0x09, 0x09, .u32, .ro, [0], []⟩,
    ⟨0x2b09, 1, 1, 0x01, 0x40, .u8, .ro, [0], []⟩,
    ⟨0x2b20, 1, 16, 0x01, 0x01, .u32, .rwc, [0], [(0, 2621440, 1)]⟩,
    ⟨0x2b20, 1, 16, 0x02, 0x02, .u32, .rwc, [0], [(0, 2621440, 1)]⟩,
    ⟨0x2b20, 1, 16, 0x03, 0x03, .u8, .rwc, [0], [(0, 2, 1)]⟩
  ]

/-- Entries of indices 0x2c00-0x2cff, part 0. -/
def page2Cpart0 : List EntryRow :=
  [
    ⟨0x2c00, 1, 1, 0x01, 0x01, .u8, .ro, [0], []⟩,
    ⟨0x2c00, 1, 1, 0x02, 0x02, .u8, .wo, [0], []⟩,
    ⟨0x2c00, 1, 1, 0x03, 0x03, .u32, .rw, [50], [(10, 1000, 1)]⟩,
    ⟨0x2c00, 1, 1, 0x04, 0x04, .u32, .rw, [604800], [(86400, 31536000, 1)]⟩,
    ⟨0x2c00, 1, 1, 0x05, 0x05, .u16, .rw, [365], [(1, 3650, 1)]⟩,
    ⟨0x2c00, 1, 1, 0x06, 0x06, .u32, .rwc, [500], [(0, 4000, 1)]⟩,
    ⟨0x2c00, 1, 1, 0x07, 0x07, .u8, .rw, [90], [(1, 255, 1)]⟩,
    ⟨0x2c00, 1, 1, 0x08, 0x08, .u8, .rw, [100], [(1, 255, 1)]⟩,
    ⟨0x2c00, 1, 1, 0x09, 0x09, .u32, .rw, [60], [(10, 3600, 1)]⟩,
    ⟨0x2c01, 1, 1, 0x01, 0x01, .u32, .ro, [0], []⟩,
    ⟨0x2c01, 1, 1, 0x02, 0x02, .u8, .ro, [0], []⟩,
    ⟨0x2c01, 1, 1, 0x03, 0x03, .u8, .ro, [0], []⟩,
    ⟨0x2c01, 1, 1, 0x04, 0x04, .u64, .ro, [0], []⟩,
    ⟨0x2c01, 1, 1, 0x05, 0x05, .u64, .ro, [0], []⟩,
    ⟨0x2c01, 1, 1, 0x06, 0x06, .u32, .ro, [0], []⟩,
    ⟨0x2c01, 1, 1, 0x07, 0x07, .u32, .ro, [0], []⟩,
    ⟨0x2c01, 1, 1, 0x08, 0x08, .u32, .ro, [0], []⟩,
    ⟨0x2c01, 1, 1, 0x09, 0x09, .u32, .ro, [0], []⟩,
    ⟨0x2c01, 1, 1, 0x0a, 0x0a, .u8, .ro, [0], []⟩,
    ⟨0x2c02, 1, 1, 0x01, 0x08, .u32, .rwc, [0], [(0, 20000, 1)]⟩,
    ⟨0x2c08, 1, 8, 0x01, 0x01, .u32, .ro, [0], []⟩,
    ⟨0x2c08, 1, 8, 0x02, 0x02, .u8, .ro, [0], []⟩,
    ⟨0x2c08, 1, 8, 0x03, 0x03, .u8, .ro, [0], []⟩,
    ⟨0x2c08, 1, 8, 0x04, 0x04, .u64, .ro, [0], []⟩,
    ⟨0x2c08, 1, 8, 0x05, 0x05, .u8, .ro, [0], []⟩,
    ⟨0x2c08, 1, 8, 0x06, 0x06, .u8, .ro, [0], []⟩,
    ⟨0x2c08, 1, 8, 0x07, 0x07, .u64, .ro, [0], []⟩,
    ⟨0x2c08, 1, 8, 0x08, 0x08, .u64, .ro, [0], []⟩,
    ⟨0x2c08, 1, 8, 0x09, 0x09, .u32, .ro, [0], []⟩,
    ⟨0x2c08, 1, 8, 0x0a, 0x0a, .u32, .ro, [0], []⟩,
    ⟨0x2c20, 1, 32, 0x01, 0x01, .u8, .rwc, [0], [(0, 2, 1)]⟩,
    ⟨0x2c20, 1, 32, 0x02, 0x02, .u8, .rwc, [255], [(0, 3, 1), (255, 255, 1)]⟩,
    ⟨0x2c20, 1, 32, 0x03, 0x03, .u8, .rwc, [255], []⟩,
    ⟨0x2c20, 1, 32, 0x04, 0x04, .u32, .rwc, [0], [(0, 160000, 1)]⟩,
    ⟨0x2c20, 1, 32, 0x05, 0x05, .u8, .rwc, [0], [(0, 1, 1)]⟩,
    ⟨0x2c20, 1, 32, 0x06, 0x06, .u32, .rwc, [1000], [(10, 100000, 1)]⟩,
    ⟨0x2c40, 1, 32, 0x01, 0x01, .u32, .ro, [0], []⟩,
    ⟨0x2c40, 1, 32, 0x02, 0x02, .u8, .ro, [0], []⟩,
    ⟨0x2c40, 1, 32, 0x03, 0x03, .u32, .ro, [0], []⟩,
    ⟨0x2c40, 1, 32, 0x04, 0x04, .u64, .ro, [0], []⟩
  ]

/-- Entries of indices 0x2c00-0x2cff, part 1. -/
def page2Cpart1 : List EntryRow :=
  [
    ⟨0x2c40, 1, 32, 0x05, 0x05, .u64, .ro, [0], []⟩,
    ⟨0x2c40, 1, 32, 0x06, 0x06, .u64, .ro, [0], []⟩,
    ⟨0x2c40, 1, 32, 0x07, 0x07, .t96, .ro, [0], []⟩,
    ⟨0x2c40, 1, 32, 0x09, 0x09, .t96, .ro, [0], []⟩,
    ⟨0x2c60, 1, 8, 0x01, 0x01, .u8, .rw, [0], [(0, 31, 1)]⟩,
    ⟨0x2c60, 1, 8, 0x02, 0x02, .u8, .rw, [0], [(0, 1, 1)]⟩,
    ⟨0x2c60, 1, 8, 0x03, 0x03, .u32, .rw, [0], []⟩,
    ⟨0x2c60, 1, 8, 0x04, 0x04, .u64, .rw, [0], []⟩,
    ⟨0x2c60, 1, 8, 0x05, 0x05, .t96, .rw, [0], []⟩,
    ⟨0x2c60, 1, 8, 0x07, 0x07, .u64, .rw, [0], []⟩,
    ⟨0x2c60, 1, 8, 0x08, 0x08, .u32, .rw, [4294967295], [(0, 65535, 1)]⟩,
    ⟨0x2c60, 1, 8, 0x09, 0x09, .u32, .rwc, [0], [(0, 20000, 1)]⟩,
    ⟨0x2c60, 1, 8, 0x0a, 0x0a, .u8, .wo, [0], [(1, 1, 1), (2, 2, 1)]⟩,
    ⟨0x2c68, 1, 8, 0x01, 0x01, .u32, .ro, [0], []⟩,
    ⟨0x2c68, 1, 8, 0x02, 0x02, .u8, .ro, [0], []⟩,
    ⟨0x2c68, 1, 8, 0x03, 0x03, .u64, .ro, [0], []⟩,
    ⟨0x2c68, 1, 8, 0x04, 0x04, .u32, .ro, [0], []⟩,
    ⟨0x2c68, 1, 8, 0x05, 0x05, .u64, .ro, [0], []⟩
  ]

/-- Entries of indices 0x2c00-0x2cff. -/
def page2C : List EntryRow := page2Cpart0 ++ page2Cpart1

/-- Entries of indices 0x2d00-0x2dff, part 0. -/
def page2Dpart0 : List EntryRow :=
  [
    ⟨0x2d00, 1, 2, 0x01, 0x01, .u8, .rwp, [1], [(0, 3, 1)]⟩,
    ⟨0x2d00, 1, 2, 0x02, 0x02, .u64, .rwp, [0], [(0, 281474976710655, 1)]⟩,
    ⟨0x2d00, 1, 2, 0x03, 0x03, .u32, .rwp, [0], []⟩,
    ⟨0x2d00, 1, 2, 0x04, 0x04, .u8, .rwp, [24], [(0, 32, 1)]⟩,
    ⟨0x2d00, 1, 2, 0x05, 0x05, .u32, .rwp, [0], []⟩,
    ⟨0x2d00, 1, 2, 0x06, 0x06, .u64, .rwp, [0], []⟩,
    ⟨0x2d00, 1, 2, 0x07, 0x07, .u64, .rwp, [0], []⟩,
    ⟨0x2d00, 1, 2, 0x08, 0x08, .u8, .rwp, [64], [(0, 128, 1)]⟩,
    ⟨0x2d00, 1, 2, 0x09, 0x09, .u64, .rwp, [0], []⟩,
    ⟨0x2d00, 1, 2, 0x0a, 0x0a, .u64, .rwp, [0], []⟩,
    ⟨0x2d00, 1, 2, 0x0b, 0x0b, .u16, .rwp, [9000], [(1280, 9000, 1)]⟩,
    ⟨0x2d00, 1, 2, 0x0c, 0x0c, .u8, .rwp, [255], []⟩,
    ⟨0x2d00, 1, 2, 0x0d, 0x0d, .bool, .rwp, [1], []⟩,
    ⟨0x2d02, 1, 2, 0x01, 0x01, .u32, .ro, [0], []⟩,
    ⟨0x2d02, 1, 2, 0x02, 0x02, .u8, .ro, [0], []⟩,
    ⟨0x2d02, 1, 2, 0x03, 0x03, .u64, .ro, [0], []⟩,
    ⟨0x2d02, 1, 2, 0x04, 0x04, .u64, .ro, [0], []⟩,
    ⟨0x2d02, 1, 2, 0x05, 0x05, .u64, .ro, [0], []⟩,
    ⟨0x2d02, 1, 2, 0x06, 0x06, .u32, .ro, [0], []⟩,
    ⟨0x2d02, 1, 2, 0x07, 0x07, .u32, .ro, [0], []⟩,
    ⟨0x2d02, 1, 2, 0x08, 0x08, .u64, .ro, [0], []⟩,
    ⟨0x2d02, 1, 2, 0x09, 0x09, .u32, .ro, [0], []⟩,
    ⟨0x2d10, 1, 32, 0x01, 0x01, .u8, .rwc, [0], [(0, 1, 1)]⟩,
    ⟨0x2d10, 1, 32, 0x02, 0x02, .u8, .rwc, [0], [(0, 2, 1)]⟩,
    ⟨0x2d10, 1, 32, 0x03, 0x03, .u8, .rwc, [4], [(4, 4, 1), (6, 6, 1)]⟩,
    ⟨0x2d10, 1, 32, 0x04, 0x04, .u64, .rwc, [0], []⟩,
    ⟨0x2d10, 1, 32, 0x05, 0x05, .u64, .rwc, [0], []⟩,
    ⟨0x2d10, 1, 32, 0x06, 0x06, .u64, .rwc, [0], [(0, 281474976710655, 1)]⟩,
    ⟨0x2d10, 1, 32, 0x07, 0x07, .u16, .rwc, [49152], []⟩,
    ⟨0x2d10, 1, 32, 0x08, 0x08, .u16, .rwc, [49152], []⟩,
    ⟨0x2d10, 1, 32, 0x09, 0x09, .u16, .rwc, [65535], []⟩,
    ⟨0x2d10, 1, 32, 0x0a, 0x0a, .u8, .rwc, [0], []⟩,
    ⟨0x2d10, 1, 32, 0x0b, 0x0b, .u8, .rwc, [64], [(1, 255, 1)]⟩,
    ⟨0x2d10, 1, 32, 0x0c, 0x0c, .u32, .rwc, [0], [(0, 50000, 1)]⟩,
    ⟨0x2d10, 1, 32, 0x0d, 0x0d, .u16, .rwc, [0], []⟩,
    ⟨0x2d10, 1, 32, 0x0e, 0x0e, .u16, .rwc, [0], [(0, 1023, 1)]⟩,
    ⟨0x2d10, 1, 32, 0x0f, 0x0f, .u8, .rwc, [0], [(0, 63, 1)]⟩,
    ⟨0x2d10, 1, 32, 0x10, 0x10, .u16, .rwc, [8000], [(8, 8952, 1)]⟩,
    ⟨0x2d10, 1, 32, 0x11, 0x11, .bool, .rwc, [0], []⟩,
    ⟨0x2d10, 1, 32, 0x12, 0x12, .u32, .rwc, [0], []⟩
  ]

/-- Entries of indices 0x2d00-0x2dff, part 1. -/
def page2Dpart1 : List EntryRow :=
  [
    ⟨0x2d10, 1, 32, 0x13, 0x13, .u32, .rwc, [0], [(0, 16777215, 1)]⟩,
    ⟨0x2d10, 1, 32, 0x14, 0x14, .u8, .rwc, [0], [(0, 1, 1)]⟩,
    ⟨0x2d10, 1, 32, 0x15, 0x15, .u32, .rwc, [1000], [(1, 1000000, 1)]⟩,
    ⟨0x2d30, 1, 32, 0x01, 0x01, .u32, .ro, [0], []⟩,
    ⟨0x2d30, 1, 32, 0x02, 0x02, .u8, .ro, [0], []⟩,
    ⟨0x2d30, 1, 32, 0x03, 0x03, .u64, .ro, [0], []⟩,
    ⟨0x2d30, 1, 32, 0x04, 0x04, .u64, .ro, [0], []⟩,
    ⟨0x2d30, 1, 32, 0x05, 0x05, .u32, .ro, [0], []⟩,
    ⟨0x2d30, 1, 32, 0x06, 0x06, .u32, .ro, [0], []⟩,
    ⟨0x2d30, 1, 32, 0x07, 0x07, .u32, .ro, [0], []⟩,
    ⟨0x2d60, 1, 1, 0x01, 0x01, .i16, .rwc, [37], []⟩,
    ⟨0x2d80, 1, 1, 0x01, 0x01, .u32, .ro, [0], []⟩,
    ⟨0x2d80, 1, 1, 0x02, 0x02, .u8, .ro, [0], []⟩,
    ⟨0x2d80, 1, 1, 0x03, 0x03, .bool, .ro, [0], []⟩,
    ⟨0x2d80, 1, 1, 0x04, 0x04, .u32, .ro, [0], []⟩,
    ⟨0x2d80, 1, 1, 0x05, 0x05, .u32, .ro, [0], []⟩,
    ⟨0x2d80, 1, 1, 0x06, 0x06, .u32, .ro, [0], []⟩,
    ⟨0x2d80, 1, 1, 0x07, 0x07, .u32, .ro, [0], []⟩,
    ⟨0x2d80, 1, 1, 0x08, 0x08, .u64, .ro, [0], []⟩
  ]

/-- Entries of indices 0x2d00-0x2dff. -/
def page2D : List EntryRow := page2Dpart0 ++ page2Dpart1

/-- Entries of indices 0x2e00-0x2eff, part 0. -/
def page2Epart0 : List EntryRow :=
  [
    ⟨0x2e00, 1, 16, 0x01, 0x01, .u8, .rwc, [1], [(0, 2, 1)]⟩,
    ⟨0x2e00, 1, 16, 0x02, 0x02, .u8, .rwc, [0], []⟩,
    ⟨0x2e00, 1, 16, 0x03, 0x03, .i16, .rwc, [0], []⟩,
    ⟨0x2e00, 1, 16, 0x04, 0x04, .i16, .rwc, [0], []⟩,
    ⟨0x2e00, 1, 16, 0x05, 0x05, .u16, .rwc, [0], []⟩,
    ⟨0x2e00, 1, 16, 0x06, 0x06, .u8, .rwc, [3], [(1, 1, 1), (3, 3, 1), (5, 5, 1), (7, 7, 1)]⟩,
    ⟨0x2e00, 1, 16, 0x07, 0x07, .u8, .rwc, [1], [(0, 15, 1)]⟩,
    ⟨0x2e00, 1, 16, 0x08, 0x08, .u8, .rwc, [0], [(0, 6, 1)]⟩,
    ⟨0x2e00, 1, 16, 0x09, 0x09, .u8, .rwc, [0], [(0, 3, 1)]⟩,
    ⟨0x2e00, 1, 16, 0x0a, 0x0a, .u8, .rwc, [2], [(0, 4, 1)]⟩,
    ⟨0x2e00, 1, 16, 0x0b, 0x0b, .u8, .wo, [0], [(1, 1, 1)]⟩,
    ⟨0x2e10, 1, 16, 0x01, 0x01, .u32, .ro, [0], []⟩,
    ⟨0x2e10, 1, 16, 0x02, 0x02, .u8, .ro, [0], []⟩,
    ⟨0x2e10, 1, 16, 0x03, 0x03, .u8, .ro, [0], []⟩,
    ⟨0x2e10, 1, 16, 0x04, 0x04, .t96, .ro, [0], []⟩,
    ⟨0x2e10, 1, 16, 0x06, 0x06, .u32, .ro, [0], []⟩,
    ⟨0x2e20, 1, 1, 0x01, 0x01, .u16, .rw, [10], [(1, 1000, 1)]⟩,
    ⟨0x2e20, 1, 1, 0x02, 0x02, .u32, .rw, [1000], [(100, 100000, 1)]⟩,
    ⟨0x2e20, 1, 1, 0x03, 0x03, .u8, .rw, [1], [(1, 7, 1)]⟩,
    ⟨0x2e20, 1, 1, 0x04, 0x04, .u8, .wo, [0], [(1, 1, 1)]⟩,
    ⟨0x2e21, 1, 1, 0x01, 0x01, .u32, .ro, [0], []⟩,
    ⟨0x2e21, 1, 1, 0x02, 0x02, .u8, .ro, [0], []⟩,
    ⟨0x2e21, 1, 1, 0x03, 0x03, .u8, .ro, [0], []⟩,
    ⟨0x2e21, 1, 1, 0x04, 0x04, .u8, .ro, [0], []⟩,
    ⟨0x2e21, 1, 1, 0x05, 0x05, .u8, .ro, [0], []⟩,
    ⟨0x2e21, 1, 1, 0x06, 0x06, .u8, .ro, [0], []⟩,
    ⟨0x2e21, 1, 1, 0x07, 0x07, .u8, .ro, [0], []⟩,
    ⟨0x2e21, 1, 1, 0x08, 0x08, .u32, .ro, [0], []⟩,
    ⟨0x2e21, 1, 1, 0x09, 0x09, .u8, .ro, [0], []⟩,
    ⟨0x2e21, 1, 1, 0x0a, 0x0a, .t96, .ro, [0], []⟩,
    ⟨0x2e22, 1, 1, 0x01, 0x04, .u8, .rwc, [0, 1, 2, 3], [(0, 3, 1)]⟩,
    ⟨0x2e23, 1, 1, 0x01, 0x04, .u32, .rwc, [0], [(0, 262143, 1)]⟩,
    ⟨0x2e30, 1, 1, 0x01, 0x01, .u8, .rwp, [0], [(0, 1, 1)]⟩,
    ⟨0x2e30, 1, 1, 0x02, 0x02, .u8, .wo, [0], [(0, 15, 1)]⟩,
    ⟨0x2e30, 1, 1, 0x03, 0x03, .u8, .ro, [0], []⟩,
    ⟨0x2e40, 1, 12, 0x01, 0x01, .u8, .rwc, [0], [(0, 3, 1)]⟩,
    ⟨0x2e40, 1, 12, 0x02, 0x02, .u8, .rwc, [0], []⟩,
    ⟨0x2e40, 1, 12, 0x03, 0x03, .u8, .rwc, [10], [(6, 12, 1)]⟩,
    ⟨0x2e40, 1, 12, 0x04, 0x04, .u8, .rwc, [0], [(0, 3, 1)]⟩,
    ⟨0x2e40, 1, 12, 0x05, 0x05, .u16, .rwc, [1], [(1, 65535, 1)]⟩
  ]

/-- Entries of indices 0x2e00-0x2eff, part 1. -/
def page2Epart1 : List EntryRow :=
  [
    ⟨0x2e40, 1, 12, 0x06, 0x06, .u64, .rwc, [0], [(0, 103079215103, 64)]⟩,
    ⟨0x2e40, 1, 12, 0x07, 0x07, .u32, .rwc, [4096], [(4096, 16777216, 64)]⟩,
    ⟨0x2e50, 1, 12, 0x01, 0x01, .u32, .ro, [0], []⟩,
    ⟨0x2e50, 1, 12, 0x02, 0x02, .i32, .ro, [0], []⟩,
    ⟨0x2e50, 1, 12, 0x03, 0x03, .t96, .ro, [0], []⟩,
    ⟨0x2e50, 1, 12, 0x05, 0x05, .u64, .ro, [0], []⟩,
    ⟨0x2e50, 1, 12, 0x06, 0x06, .u32, .ro, [0], []⟩,
    ⟨0x2e60, 1, 1, 0x01, 0x01, .u32, .ro, [0], []⟩,
    ⟨0x2e60, 1, 1, 0x02, 0x02, .i32, .ro, [0], []⟩,
    ⟨0x2e60, 1, 1, 0x03, 0x03, .i32, .ro, [0], []⟩,
    ⟨0x2e60, 1, 1, 0x04, 0x04, .u8, .ro, [0], []⟩,
    ⟨0x2e60, 1, 1, 0x05, 0x05, .u8, .ro, [0], []⟩,
    ⟨0x2e60, 1, 1, 0x06, 0x06, .u64, .ro, [0], []⟩,
    ⟨0x2e61, 1, 1, 0x01, 0x40, .u32, .ro, [0], []⟩
  ]

/-- Entries of indices 0x2e00-0x2eff. -/
def page2E : List EntryRow := page2Epart0 ++ page2Epart1

/-- Entries of indices 0x2f00-0x2fff. -/
def page2F : List EntryRow :=
  [
    ⟨0x2f00, 4, 1, 0x01, 0x01, .u8, .ro, [0], []⟩,
    ⟨0x2f00, 4, 1, 0x02, 0x09, .u64, .ro, [0], []⟩,
    ⟨0x2f00, 4, 1, 0x0a, 0x0a, .u8, .ro, [15], []⟩,
    ⟨0x2f00, 4, 1, 0x0b, 0x0b, .u8, .ro, [0], []⟩,
    ⟨0x2f00, 4, 1, 0x0c, 0x0c, .t96, .ro, [0], []⟩,
    ⟨0x2f00, 4, 1, 0x0e, 0x0e, .domain, .rwp, [0], [(668, 668, 1)]⟩,
    ⟨0x2f80, 1, 1, 0x01, 0x01, .u8, .rwc, [0], [(0, 15, 1)]⟩,
    ⟨0x2f80, 1, 1, 0x02, 0x02, .u8, .rwp, [1], [(0, 2, 1)]⟩,
    ⟨0x2f80, 1, 1, 0x03, 0x03, .bool, .rw, [1], []⟩,
    ⟨0x2f80, 1, 1, 0x04, 0x04, .u16, .rw, [2000], [(1000, 4000, 1)]⟩,
    ⟨0x2f80, 1, 1, 0x05, 0x05, .u16, .rw, [16], [(5, 1000, 1)]⟩,
    ⟨0x2f80, 1, 1, 0x06, 0x06, .u8, .ro, [0], []⟩,
    ⟨0x2f80, 1, 1, 0x07, 0x07, .u32, .ro, [0], []⟩,
    ⟨0x2f80, 1, 1, 0x08, 0x08, .u32, .ro, [0], []⟩
  ]

/-- Entries of indices 0x3000-0x30ff. -/
def page30 : List EntryRow :=
  [
    ⟨0x3000, 1, 1, 0x01, 0x01, .u32, .ro, [0], []⟩,
    ⟨0x3000, 1, 1, 0x02, 0x02, .u32, .ro, [0], []⟩,
    ⟨0x3000, 1, 1, 0x03, 0x03, .u64, .ro, [0], []⟩,
    ⟨0x3000, 1, 1, 0x04, 0x04, .u16, .ro, [0], []⟩,
    ⟨0x3000, 1, 1, 0x05, 0x05, .u64, .ro, [0], []⟩,
    ⟨0x3000, 1, 1, 0x06, 0x06, .u8, .rw, [0], [(0, 1, 1)]⟩,
    ⟨0x3000, 1, 1, 0x07, 0x07, .u64, .rw, [0], []⟩,
    ⟨0x3000, 1, 1, 0x08, 0x08, .u16, .rw, [16], [(1, 1024, 1)]⟩,
    ⟨0x3001, 1, 1, 0x00, 0x00, .domain, .ro, [0], []⟩,
    ⟨0x3010, 1, 11, 0x01, 0x01, .u8, .rw, [4], [(1, 255, 1)]⟩,
    ⟨0x3010, 1, 11, 0x02, 0x02, .u32, .rw, [10000], [(1, 86400000, 1)]⟩,
    ⟨0x3010, 1, 11, 0x03, 0x03, .u32, .ro, [0], []⟩,
    ⟨0x3010, 1, 11, 0x04, 0x04, .u32, .ro, [0], []⟩
  ]

/-- Entries of indices 0x4000-0x40ff. -/
def page40 : List EntryRow :=
  [
    ⟨0x4000, 1, 256, 0x00, 0x00, .domain, .rw, [0], [(20, 163856, 1)]⟩
  ]

/-- Entries of indices 0x6800-0x68ff. -/
def page68 : List EntryRow :=
  [
    ⟨0x6800, 1, 256, 0x01, 0x10, .u32, .ro, [0], []⟩
  ]

/-- The table page of an index: its high byte selects it. -/
def page (index : Nat) : List EntryRow :=
  match index / 256 with
  | 0x10 => page10
  | 0x16 => page16
  | 0x1a => page1A
  | 0x1c => page1C
  | 0x20 => page20
  | 0x21 => page21
  | 0x22 => page22
  | 0x23 => page23
  | 0x24 => page24
  | 0x25 => page25
  | 0x26 => page26
  | 0x27 => page27
  | 0x28 => page28
  | 0x29 => page29
  | 0x2a => page2A
  | 0x2b => page2B
  | 0x2c => page2C
  | 0x2d => page2D
  | 0x2e => page2E
  | 0x2f => page2F
  | 0x30 => page30
  | 0x40 => page40
  | 0x68 => page68
  | _ => []

end Dict

end Sys2Proof
end

