-- ==== Sys2Proof/Tab.lean ====
section
/-! DEFINITION. A finite map from natural numbers in ONE canonical form: a list of (key, value) pairs whose keys
rise strictly and in which no value equals what an unlisted key reads as. Memories, the object dictionary's
store and every family of like things (channels, runners, ladles, drives) are such maps. -/

namespace Sys2Proof

/-- A sparse map: pairs in strictly rising key order. -/
abbrev Tab (α : Type) := List (Nat × α)

namespace Tab

variable {α : Type}

/-- The value at `k`; an unlisted key reads as `d k`. -/
def get (d : Nat → α) : Tab α → Nat → α
  | [], k => d k
  | (j, v) :: t, k => if k = j then v else get d t k

/-- The list with every pair at `k` removed. -/
def erase : Tab α → Nat → Tab α
  | [], _ => []
  | (j, v) :: t, k => if k = j then erase t k else (j, v) :: erase t k

/-- The list with the pair (k, v) put in its place. -/
def put : Tab α → Nat → α → Tab α
  | [], k, v => [(k, v)]
  | (j, w) :: t, k, v =>
    if k = j then (k, v) :: t else if k < j then (k, v) :: (j, w) :: t else (j, w) :: put t k v

/-- The map with `v` at `k`: a value that equals what an unlisted key reads as removes the entry. -/
def set [DecidableEq α] (d : Nat → α) (t : Tab α) (k : Nat) (v : α) : Tab α :=
  if v = d k then erase t k else put t k v

/-- The map with `f` applied to the value at `k`. -/
def modify [DecidableEq α] (d : Nat → α) (t : Tab α) (k : Nat) (f : α → α) : Tab α :=
  set d t k (f (get d t k))

/-- Keys rise strictly, and all lie above `lo` when one is given. -/
def sorted : Option Nat → Tab α → Bool
  | _, [] => true
  | none, (j, _) :: t => sorted (some j) t
  | some lo, (j, _) :: t => decide (lo < j) && sorted (some j) t

/-- The canonical form: strictly rising keys, and no value that an unlisted key reads as. -/
def wf [DecidableEq α] (d : Nat → α) (t : Tab α) : Bool :=
  sorted none t && t.all (fun p => decide (p.2 ≠ d p.1))

end Tab

end Sys2Proof
end

