-- ==== Sys2Proof/Machine/State.lean ====
section
/-! DEFINITION. The state of the block as plain data: the object dictionary's store, the configuration history, and one
structure per subsystem; the reasons a command can stop; and the state after reset. -/

namespace Sys2Proof.Machine

/-- Why a command stops the machine. -/
inductive Fault where
  /-- Raised by a command whose operands the surroundings of the block cannot deliver (a conditioner frame of
  more samples than 4,096 and its lookahead, a sentinel window that has not 64 rates): `Instr.wellFormed` refuses it. Safe: the hardware has no such
  event. -/
  | malformedOperands
deriving DecidableEq, Repr

/-- Why a command has no meaning. -/
inductive Refusal where
  /-- A row that has no meaning yet. Raised by no meaning, only by an arm of `exec`. Safe. -/
  | notModelled (mnemonic : String)
deriving DecidableEq, Repr

/-- What a command answers. -/
abbrev Out (σ : Type) := Host.Outcome σ Fault Refusal

/-- What the block gives to its surroundings; State keeps the list, newest first. -/
inductive Output where
  /-- An MSI-X message of a vector. -/
  | msix (vector : Nat)
  /-- The data of a read, to a requester (as 0x2002.04: 1 host, 2 EtherCAT, 0x10 + g cluster g). -/
  | answer (requester : Nat) (v : Val)
  /-- A CoE abort code, to a requester. -/
  | abort (requester : Nat) (code : Nat)
  /-- A state change's answer, with the AL status code. -/
  | alStatus (state : Nat) (code : Nat)
  /-- Process data to SM3. -/
  | txpdo (data : List Byte)
  /-- An SII read's answer; none stands for busy. -/
  | sii (word : Option U16)
  /-- A configuration request's answer: true for Retry Status. -/
  | configAnswer (retry : Bool)
  /-- A mailbox frame that carries an emergency message to SM1. -/
  | ecatEmergency (message : U64)
  /-- What JTAG shifts out. -/
  | jtag (bits : Nat)
  /-- A write to host memory. -/
  | hostWrite (addr : U64) (data : List Byte)
  /-- A read request to host memory. -/
  | hostRead (addr : U64) (len : Nat)
  /-- A translation or page request, or an invalidation completion, of the host port. -/
  | atsRequest (page : U64)
  | pageRequest (page : U64)
  | invalidationDone (page : U64)
  /-- A record handed to a network stream or a recording stream. -/
  | toPort (destination : Nat) (handle : U32) (data : List Byte)
  /-- A frame sent on an Ethernet port. -/
  | frame (port : Nat) (data : List Byte)
  /-- A command to a drive. -/
  | drive (d : Nat) (opcode : Nat) (zone : Nat) (data : List Byte)
  /-- A pulse on SYNCOUT: its SYNA grid index and the phase of the sync align loop. -/
  | syncPulse (index : Nat) (phase : Nat)
  /-- A PTP message of the delay mechanism in force on a port: true for peer delay (R139). -/
  | ptp (port : Nat) (peer : Bool)
deriving DecidableEq, Repr

/-! ### Control (01, 02, 17) -/

/-- The device states of R41. -/
inductive DevState where
  | init | preop | boot | safeop | op
deriving DecidableEq, Repr

/-- Their codes (R41). -/
def DevState.code : DevState → Nat
  | .init => 1 | .preop => 2 | .boot => 3 | .safeop => 4 | .op => 8

/-- An accepted commit: its pour, its instant and the entries it changed (R77, R81). -/
structure Pour where
  number : U32
  tc     : T96
  delta  : Tab Val
deriving DecidableEq, Repr

/-- A submitted commit: its frozen set, mode and instant, and its requester as 0x2002.04 (R74). -/
structure Commit where
  delta     : Tab Val
  /-- The serial of the write that gave each entry its value (R76). -/
  stamps    : Tab Nat
  requester : Nat
  mode      : Nat
  instant   : T96
deriving DecidableEq, Repr

/-- A snapshot latch of a requester: the object's lowest key and the latched values by key (R61). -/
structure Latch where
  requester : Nat
  lowest    : Nat
  values    : List (Nat × Val)
deriving DecidableEq, Repr

/-- A staged part of a wide object: the requester, the object's lowest key, the first bit of the part, its width (R65). -/
structure Staged where
  requester : Nat
  lowest    : Nat
  bit       : Nat
  width     : Nat
  value     : Nat
deriving DecidableEq, Repr

/-- A firmware slot that holds a valid image (R92, R95). -/
structure Slot where
  version  : U32
  security : Nat
deriving DecidableEq, Repr

/-- A segmented SDO of the host mailbox (R40, R71): its direction, its entry, whether it has complete access, the bytes still to be
given or taken so far, the bytes in all, and the toggle of the next segment. -/
structure SdoSeg where
  upload   : Bool
  index    : Nat
  sub      : Nat
  complete : Bool
  data     : List Byte
  total    : Nat
  toggle   : Bool
deriving DecidableEq, Repr

/-- Control: device state, start-up progress, commits, latches, queues and firmware. -/
structure Ctl where
  /-- nPORST or nRESET is low: the whole device is held in reset (R636). -/
  held       : Bool
  /-- Steps of R641 that have happened. -/
  released   : Bool
  crystal    : Bool
  /-- The crystal oscillator runs: from the first release after a power-on reset on, through every other reset (R638, R641 step 1). -/
  oscillates : Bool
  firmware   : Bool
  hbmReady   : Bool
  dev        : DevState
  owner      : Option Master
  /-- A PREOP→SAFEOP transition that has been accepted and has not completed (R43). -/
  starting   : Bool
  /-- The data path runs. -/
  running    : Bool
  /-- T96 with 32 further fraction bits (R131). -/
  time       : BitVec 128
  /-- Ticks of the timebase clock since reset. -/
  ticks      : Nat
  /-- Sixteenths of a crystal period since reset: the fault clock (R620). -/
  crystalCount : Nat
  pendingSet : Tab Val
  /-- The serial of the write that gave each pending entry its value, and the writes so far (R76). -/
  stamps     : Tab Nat
  writes     : Nat
  validating : Option Commit
  waiting    : Option Commit
  /-- Accepted commits since the last entry to INIT, newest first. -/
  pours      : List Pour
  currentPour : U32
  highestPour : U32
  /-- The pour of each block's configuration, by `BlockId` number; an unlisted block has the default configuration. -/
  blockPour  : Tab U32
  /-- The RWP values applied at the last PREOP→SAFEOP (R51). -/
  applied    : Tab Val
  latches    : List Latch
  staged     : List Staged
  hostEmg    : List U64
  ecatEmg    : List U64
  /-- The firmware image received and not yet verified (R93). -/
  image      : Option FwImage
  rxpdo      : List Byte
  /-- The host mailbox: the request taken at the doorbell and not served yet, the frames of its response that are still to be
  given, and a segmented SDO in progress (R68-R71). -/
  mbxRequest : Option (List Byte)
  mbxAnswers : List (List Byte)
  sdoSeg     : Option SdoSeg
  /-- Free values drawn so far (the model's own). -/
  drawn      : Nat
deriving DecidableEq, Repr

/-! ### Faults and the journal (16) -/

/-- A journal entry (R623). -/
structure JEntry where
  number   : U64
  time     : T96
  severity : Nat
  subsys   : Nat
  kind     : Nat
  cls      : Nat
  element  : Nat
  runner   : Nat
  entries  : Nat
  first    : Nat
  last     : Nat
  event    : Nat
  count    : Nat
  notes    : Nat
  detail   : Nat
deriving DecidableEq, Repr

/-- A fault element's window: its start on the fault clock, its count, its N and W (R620). -/
structure FaultWin where
  start : Nat
  count : Nat
  n     : Nat
  w     : Nat
deriving DecidableEq, Repr

/-- The fault manager and its journal (R620-R627), with what survives a reset (R639). -/
structure Flt where
  /-- The volatile journal, newest first, 65,536 entries at most. -/
  journal   : List JEntry
  /-- The non-volatile area, newest first, 15,360 entries at most. -/
  nv        : List JEntry
  bootCount : Nat
  written   : Nat
  events    : Nat
  /-- Entries written when 0x2E20.04 last acknowledged (R601). -/
  acked     : Nat
  /-- Open windows, by fault element. -/
  windows   : Tab FaultWin
  /-- Lasting elements, by fault element. -/
  lasting   : Tab Bool
  /-- HBM rows awaiting repair (R388). -/
  rows      : List Nat
  slotA     : Option Slot
  slotB     : Option Slot
  runningB  : Bool
  rollback  : Nat
  /-- A controlled reset's condition that is writing its cause entry (R619). -/
  resetCond : Option ResetCondition
  /-- The cause entry of the last reset, to be journalled at step 13 (R641, R649). -/
  cause     : Nat
  causeIncomplete : Bool
deriving DecidableEq, Repr

/-! ### Runners and DMA (13) -/

/-- The states of 0x2B04.02 of an existing runner. -/
inductive RunState where
  | stopped | active | stalled | waitingPage | stopping
deriving DecidableEq, Repr

/-- Their codes. -/
def RunState.code : RunState → Nat
  | .stopped => 1 | .active => 2 | .stalled => 3 | .waitingPage => 4 | .stopping => 5

/-- A span of missing input and its cause (R21). -/
structure GapSpan where
  start : T96
  stop  : T96
  cause : Nat
deriving DecidableEq, Repr

/-- Records dropped and not yet reported: the first missing number and their span (R18, R22). -/
structure Dropped where
  first : U64
  span  : GapSpan
deriving DecidableEq, Repr

/-- A descriptor's transfer in an engine (R514-R530). -/
structure Xfer where
  opcode   : Nat
  control  : Nat
  count    : Nat
  src      : Nat
  dst      : Nat
  tag      : Nat
  /-- Total bytes (records for opcode 4). -/
  total    : Nat
  /-- Bytes (or records) issued. -/
  done     : Nat
  descending : Bool
  pageReqs : Bool
  /-- The page a parked transfer waits for. -/
  parked   : Option Nat
  /-- A host translation granted for the next page. -/
  status   : Option Nat
  /-- Address of the first failed beat or untranslated page. -/
  failed   : Option Nat
  /-- Bytes written to the destination, zeros too, by rising offset: what the CRC is taken over (R523). -/
  written  : List (Nat × Byte)
  /-- Host read requests issued and not completed: (source address, offset, length), oldest first. -/
  reads    : List (Nat × Nat × Nat)
  /-- Elements of a gather: address and length. -/
  elements : List (Nat × Nat)
  /-- The fill pattern. -/
  pattern  : List Byte
  waitingAts : Option Nat
  /-- The descriptor, while its gather list or fill pattern in host memory has yet to be read (R524). -/
  unread   : Option (List Byte)
deriving DecidableEq, Repr

/-- A runner (R496-R502). -/
structure Runner where
  kind     : Nat
  prio     : Nat
  engine   : Nat
  group    : Nat
  dest     : Nat
  base     : Nat
  e        : Nat
  z        : Nat
  hostE    : Nat
  handle   : U32
  hostBase : Nat
  vector   : Nat
  modCount : Nat
  modTime  : Nat
  wbAddr   : Nat
  image    : List Byte
  engineNow : Nat
  state    : RunState
  w        : U32
  rd       : U32
  wh       : U32
  rdh      : U32
  nextSeq  : U64
  drops    : U64
  gaps     : U64
  completions : U64
  lastStatus : Nat
  dropped  : Option Dropped
  /-- A stop of the producer that is over and not yet reported (R23). -/
  stopGap  : Option GapSpan
  /-- A stop of the producer in force: its start and the cause of the stop that began first, and whether any part of it
  was a fault recovery. -/
  stopped  : Option GapSpan
  faultStop : Bool
  /-- The next data record carries the resumed flag (R23). -/
  resumed  : Bool
  /-- The channel byte of the producer's data records and the pour of its configuration, as gap records need them (R508). -/
  chanByte : Nat
  cfgPour  : U32
  unsignalled : Nat
  firstUnsignalled : Option T96
  xfer     : Option Xfer
  /-- Bytes of the record in progress issued to the host, and the address of a page it waits for. -/
  fwdDone  : Nat
  fwdParked : Option Nat
  /-- When its page request was made (R526). -/
  parkedAt : Option T96
deriving DecidableEq, Repr

/-- What an unlisted runner number reads as: no runner. -/
def Runner.none : Runner :=
  { kind := 0, prio := 0, engine := 0, group := 0, dest := 0, base := 0, e := 0, z := 0, hostE := 0, handle := 0,
    hostBase := 0, vector := 0xFFFF, modCount := 1, modTime := 0, wbAddr := 0, image := [], engineNow := 0,
    state := .stopped, w := 0, rd := 0, wh := 0, rdh := 0, nextSeq := 0, drops := 0, gaps := 0, completions := 0,
    lastStatus := 0xFF, dropped := Option.none, stopGap := Option.none, stopped := Option.none, faultStop := false,
    resumed := false, chanByte := 255, cfgPour := 0, unsignalled := 0, firstUnsignalled := Option.none, xfer := Option.none, fwdDone := 0,
    fwdParked := Option.none, parkedAt := Option.none }

/-- Runners, engines, the translation cache and MSI-X (R496-R534, R588). -/
structure Dma where
  runners : Tab Runner
  /-- Engine states as 0x2B09 shows them, and engines retired. -/
  engines : Tab Nat
  retired : Tab Bool
  /-- The runner that each engine served last, for its round robin (R517). -/
  turn    : Tab Nat
  /-- Pages with a valid translation, newest first, 4,096 at most (R524). -/
  atc     : List Nat
  /-- Invalidations whose completion waits for outstanding reads. -/
  invalidating : List Nat
  inFlight : Nat
  peak    : Nat
  /-- Page requests, failures, timeouts and engine fault events, as 0x2B08 shows them. -/
  pageReqs : Nat
  pageFails : Nat
  pageTimeouts : Nat
  faultEvents : Nat
  /-- MSI-X vectors that the host has unmasked, and those with a pending message (R588). -/
  unmasked : Tab Bool
  msixPending : Tab Bool
deriving DecidableEq, Repr

/-! ### Clocks and the timebase (03) -/

/-- A reference-event sequence in progress (R117): its cause (0 SYNA lock, 1 SYNB lock, 2 loss of reference, 3 switch of
reference), the instant of the cause, and what its journal entries show of the fault behind it (R116, R621, R623). -/
structure ClkEvent where
  cause    : Nat
  start    : T96
  severity : Nat := 2
  kind     : Nat := 6
  cls      : Nat := 0xFF
  element  : Nat := 0
  count    : Nat := 0
  notes    : Nat := 0
deriving DecidableEq, Repr

/-- A PTP port's client state (R134, R139). -/
structure PtpPort where
  good      : Nat
  qualified : Bool
  master    : Option Announce
  delay     : Int
deriving DecidableEq, Repr

/-- A PTP port that has heard nothing. -/
def PtpPort.idle : PtpPort := { good := 0, qualified := false, master := Option.none, delay := 0 }

/-- The phase of a loop after reset: a channel's in the middle of its range, so that every offset of R155 has room. -/
def loopHome (k : Nat) : Nat := if k < 4 then 2048 else 0

/-- Clocks, synthesis and the timebase; the registers of 0x2100-0x2130 stand in the dictionary's store. -/
structure Clk where
  /-- REFIN is the reference of SYNA and SYNB (R102, R103). -/
  refin     : Bool
  event     : Option ClkEvent
  /-- A retune that has gated the converters (R109): its start and the new nominal rate. -/
  retune    : Option (T96 × Nat)
  /-- The nominal SYNA rate in force, and the pour that it was taken from (R138). -/
  rate      : Nat
  ratePour  : U32
  /-- Measured crystal offsets, newest first: the count of the fault clock and 10^-12 (R141, R142). -/
  offsets   : List (Nat × Int)
  /-- The count at which the crystal became the frequency reference, its averaged offset then, and the correction of SYNA, SYNB and
  the timebase increment in force, in 10^-12 (R141). -/
  crystalSince : Option Nat
  fh        : Int
  correction : Int
  /-- Align-loop phases and targets: loops 0-3 channels, 4-7 CLKOUTs, 8 sync (R122); an unlisted one reads as `loopHome`. -/
  phase     : Tab Nat
  target    : Tab Nat
  /-- Duty of LOCKF in eighths (R129). -/
  lockf     : Nat
  ppsLast   : Option T96
  ppsPred   : Option T96
  ppsGood   : Nat
  ppsBad    : Nat
  ppsQual   : Bool
  /-- The TAI second of the next PPSIN edge (R135). -/
  ppsLabel  : Option Nat
  ptp       : Tab PtpPort
  dcWritten : Bool
  dcQual    : Bool
  /-- The time written for free run, with the crystal count of that moment (R134). -/
  freeRun   : Option (T96 × Nat)
  everValid : Bool
  holdover  : Option T96
  /-- Steps of T96 so far; frames compare it (R137). -/
  steps     : Nat
  /-- An offset being slewed, in units of 2^-80 s (R136). -/
  slew      : Int
  aligning  : Bool
  aligned   : Bool
  slipRun   : Nat
  /-- CLKOUT outputs that a clock event has stopped (R128). -/
  clkoutHeld : List Nat
  /-- The SYNA grid index of the first rising edge of a grid-aligned output since it last started, plus one (R127). -/
  clkoutFirst : Tab Nat
  /-- Distances of the latest PPSIN stamps from their second in T96 units, newest first, 16 at most (R145). -/
  stamps    : List Int
  /-- The sync-determined phase of each channel's sample clock, in steps of 0.5 ps (R125, R145, R150). -/
  gridSteps : Tab Int
deriving DecidableEq, Repr

/-! ### RF channels and the conditioner (04) -/

/-- What a block's unit carries from its input: the header flags of R505 and the pour of R28, R29. -/
structure Mark where
  /-- Bits as R505: over-range 0, repaired 1, uncalibrated 2, degraded 3, time step 6, time quality 7. -/
  flags : Nat
  /-- The oldest pour among the tokens; none before the first token. -/
  pour  : Option U32
  mixed : Bool
  /-- The least and the greatest number of T96 steps before its samples: where they differ the unit spans a step (R137). -/
  steps : Option (Nat × Nat) := Option.none
deriving DecidableEq, Repr

/-- A unit that has taken no input. -/
def Mark.empty : Mark := { flags := 0, pour := Option.none, mixed := false }

/-- A conditioner frame as handed to the taps (R168-R176): its first index, that sample's T96, the Q12.4 outputs of stage
4, the raw-tap samples, and its status. -/
structure Frame where
  s0   : Nat
  t0   : T96
  q    : List Int
  raw  : List Int
  uncorrected : Bool
  /-- Offsets of the samples that were repaired (R193). -/
  repaired : List Nat
  mark : Mark
  /-- Its samples: fewer than 4,096 where a stop has cut it (R172). -/
  len  : Nat := 4096
deriving DecidableEq, Repr

/-- A calibration set (R189, R191). -/
structure CalSet where
  key      : Nat
  elements : List Element
  taps     : List Int
deriving DecidableEq, Repr

/-- A foreground calibration (R185): its start, windows done, result code once known (the channel then waits for its resumption), and
the set it made. -/
structure Fg where
  start   : T96
  settled : Bool
  windows : Nat
  result  : Nat
  made    : Option CalSet
  /-- Made by the PREOP→SAFEOP transition (R188). -/
  auto    : Bool
deriving DecidableEq, Repr

/-- A background estimate that waits for its frame boundary (R180). -/
structure BgEst where
  slot : Nat
  at'  : T96
  est  : Estimate
deriving DecidableEq, Repr

/-- An excursion beyond the overload threshold: its first and last sample, the last sample before codes are valid again, and its
polarity (R161-R163). -/
structure Excursion where
  first    : Nat
  last     : Nat
  clear    : Nat
  negative : Bool
deriving DecidableEq, Repr

/-- A channel: converter, conditioner and calibration; 0x2200-0x2204 and 0x2F00 stand in the dictionary's store. -/
structure Chan where
  /-- Enabled at PREOP→SAFEOP and not stopped by a state change. -/
  on       : Bool
  /-- The converters are gated by a clock event or a retune (R109, R117). -/
  gated    : Bool
  /-- The converter riser has overflowed and discards (R14). -/
  discard  : Bool
  /-- Stopped by a Q6 step (R618). -/
  shed     : Bool
  fg       : Option Fg
  /-- The isolation switch is open; the tone injector is on, and the number of the tone it gives (0: none) (R159, R185). -/
  isolated : Bool
  tone     : Option Nat
  /-- Index of the next sample; 0x2180 shows it modulo 2^64 (R144). -/
  counter  : Nat
  frames   : List Frame
  /-- The last converter samples taken before the next frame, newest first, as slice-corrected values need them. -/
  tail     : List RawSample
  /-- The output of the repair just before the window that the tail begins, and whether it was flagged (R193). -/
  prior    : Int × Bool
  /-- The active set: its elements and taps (none before one is activated: the factory set is active), whether it is the factory set,
  its position while stored, and its key (R190, R191). -/
  elements : List Element
  taps     : List Int
  factory  : Bool
  active   : Option Nat
  activeKey : Nat
  /-- Stored sets by position 0-7, each with its order of storing. -/
  sets     : Tab CalSet
  ages     : Tab Nat
  stored   : Nat
  shadow   : Option Nat
  nextSlot : Nat
  est      : Option BgEst
  /-- Excursions whose frames carry the overload flag (R162, R163). -/
  overSpans : List Excursion
  /-- The first and last repaired sample of each slot since its window of events opened (R194, R620). -/
  errSpan  : Tab (Nat × Nat)
  /-- A slot declared lasting, to pass to the spare at the next frame boundary, and the events that declared it (R194). -/
  takeover : Option Nat
  takeoverN : Nat
  cmpTakeover : Bool
  /-- Slots repaired continuously for lack of a spare (R196). -/
  degraded : List Nat
  /-- First sample index of the raw record in progress (R172). -/
  rawStart : Option Nat
  rawCount : Nat
  /-- The first sample that bears the time of each step, with the number of that step, newest first (R137). -/
  stepIx   : List (Nat × Nat)
  /-- A sample and its T96 as the timebase last measured it, moved by each step since: off the grid the counter goes on from it
  (R120, R146). -/
  anchor   : Option (Nat × T96)
  /-- The first index of the present placement on the grid: earlier samples keep the times of their frames (R144, R145). -/
  gridFrom : Nat
  /-- The latest pour whose foreground request has been handled (R184). -/
  fgPour   : U32
deriving DecidableEq, Repr

/-- A channel that is off. -/
def Chan.off : Chan :=
  { on := false, gated := false, discard := false, shed := false, fg := Option.none, isolated := false, tone := Option.none,
    counter := 0, frames := [], tail := [], prior := (0, false),
    elements := [], taps := [], factory := true, active := Option.none, activeKey := 20480000000, sets := [], ages := [], stored := 0,
    shadow := Option.none, nextSlot := 0, est := Option.none, overSpans := [], errSpan := [], takeover := Option.none, takeoverN := 0,
    cmpTakeover := false, degraded := [], rawStart := Option.none, rawCount := 65536, stepIx := [], anchor := Option.none, gridFrom := 0, fgPour := 0 }

/-! ### DDCs (05) -/

/-- A CFIR response: the source of R213 and, for the ROM, its index. -/
structure Resp where
  source : Nat
  index  : Nat
deriving DecidableEq, Repr

/-- A cross-fade (R223): its source and target, the outputs done, its length, and the two pours. -/
structure Fade where
  old  : Resp
  new  : Resp
  done : Nat
  len  : Nat
  oldPour : U32
  newPour : U32
deriving DecidableEq, Repr

/-- A DDC output (R207, R215, R220). -/
structure DdcOut where
  /-- Shown modulo 2^64: the first labels after a reset may lie before sample 0 (R215). -/
  label : Int
  i     : Int
  q     : Int
  valid : Bool
  level : Int
  /-- The threshold state after it (R229). -/
  above : Bool
  mark  : Mark
deriving DecidableEq, Repr

/-- A DDC (R202-R231). -/
structure Ddc where
  on       : Bool
  /-- Index of the last reset; outputs see no earlier input (R218). -/
  resetIx  : Nat
  /-- A reset that is due and its index, and later ones (R219). -/
  resetDue : Option Nat
  resetLater : List Nat
  /-- Where the channel resumed before a reset that is due: no output with an input from there on is delivered (R219). -/
  resumeIx : Option Nat
  /-- The pour that it was last reset under: its preset, decimation and format stay those until the next reset (R219). -/
  base     : U32
  /-- Its configurations, newest first: the first index whose outputs take a pour; one that a reset brings starts at the reset (R27,
  R219). -/
  pours    : List (Nat × U32)
  nextLabel : Int
  /-- NCO segments, newest first: first index, phase there, FTW, mode (R209, R210). -/
  nco      : List (Nat × Nat × Nat × Nat)
  resp     : Resp
  fade     : Option Fade
  /-- The pour whose response was last taken up: a fade's source carries it (R225). -/
  before   : U32
  /-- The pending slot: a response and its pour (R224). -/
  slot     : Option (Resp × U32)
  above    : Bool
  lastRise : Option Int
  recOuts  : List DdcOut
  /-- The configuration under which the record in progress is gathered (R231). -/
  recPour  : U32
  recFade  : Bool
  recMark  : Mark
  /-- The latest outputs, newest first, 4,096 at most, for trigger units. -/
  outs     : List DdcOut
deriving DecidableEq, Repr

/-- A DDC that is off. -/
def Ddc.off : Ddc :=
  { on := false, resetIx := 0, resetDue := Option.none, resetLater := [], resumeIx := Option.none, base := 0, pours := [], nextLabel := 0, nco := [], resp := { source := 0, index := 0 },
    fade := Option.none, before := 0, slot := Option.none, above := false, lastRise := Option.none, recOuts := [], recPour := 0, recFade := false,
    recMark := Mark.empty, outs := [] }

/-! ### Transforms (06) -/

/-- A main frame's Z[k] in binary32 (R250) with the block fields of R278. -/
structure ZFrame where
  s0    : Nat
  t0    : T96
  n     : Nat
  hopHalf : Bool
  mode  : Nat
  p     : Nat
  window : Nat
  zone  : Nat
  twoPass : Bool
  fallback : Bool
  bins  : List (U32 × U32)
  mark  : Mark
  pour  : U32
deriving DecidableEq, Repr

/-- A density or trigger frame in L16 (R266). -/
structure LFrame where
  s0     : Nat
  t0     : T96
  n      : Nat
  hop    : Nat
  levels : List Int
  valid  : Bool
  mark   : Mark
deriving DecidableEq, Repr

/-- A two-pass frame in pass 2 (R257): its first sample, its exponent, whether it has been lost, its pour, the corner-turn buffer that
holds its intermediate, and whether row groups of it wait for the spare lane (R276). -/
structure TwoPass where
  s0   : Nat
  n    : Nat
  lost : Bool
  pour : U32
  buffer : Bool
  held : Bool
deriving DecidableEq, Repr

/-- A configuration of a main transform: the first sample whose frame it governs, the sample index of the instant that asked for it, its
pour, and the exponent of its Q4 fallback frames, where it runs them (R239, R262, R264). -/
structure MainCfg where
  start : Nat
  asked : Nat
  pour  : U32
  fb    : Option Nat
deriving DecidableEq, Repr

/-- A channel's transform engine. -/
structure Xf where
  /-- First sample of the next main, density and trigger frame (R237). -/
  nextMain : Nat
  nextDens : Nat
  nextTrig : Nat
  /-- Configurations of the main transform, newest first (R239, R262, R264). -/
  cfgs     : List MainCfg
  /-- Those of the side transforms, and of the cross-power unit for this channel's frames, newest first: the first sample from which a
  frame takes a pour (R239). -/
  crossPours : List (Nat × U32)
  densPours : List (Nat × U32)
  trigPours : List (Nat × U32)
  pass2    : Option TwoPass
  /-- Whether the frame in pass 1 has passed a flagged token or lost a corner-turn write (R261, R275). -/
  pass1Lost : Bool
  /-- The corner-turn buffer that pass 1 fills (R258). -/
  buffer   : Bool
  /-- Q4 has released the transform at the sample index `tx`, and the first two-pass frame starts at `bx` (R264). -/
  tx       : Nat
  bx       : Option Nat
  /-- Two-pass stopped has been reported since the last entry to Q4 (R263). -/
  stoppedReport : Bool
  /-- A lasting lane to pass to the spare at the next frame boundary, and the lane it has replaced (R276). -/
  laneTakeover : Option Nat
  spareLane : Option Nat
  /-- Samples whose tokens a lane error has flagged, on the main and on the side datapath (R275), and the runners whose next records
  after the spare's takeover carry the resumed flag (R276). -/
  flagged  : List Nat
  sideFlagged : List Nat
  laneHit  : List Nat
  /-- Main frames that products wait for, each with the pairs whose other frame is to come, and the starts of frames not produced, for the
  cross-power unit (R269, R272). -/
  recent   : List (ZFrame × List Nat)
  lost     : List Nat
deriving DecidableEq, Repr

/-- An idle transform engine. -/
def Xf.idle : Xf :=
  { nextMain := 0, nextDens := 0, nextTrig := 0, cfgs := [], crossPours := [], densPours := [], trigPours := [],
    pass2 := Option.none, pass1Lost := false, buffer := false, tx := 0, bx := Option.none, stoppedReport := false,
    laneTakeover := Option.none, spareLane := Option.none, flagged := [], sideFlagged := [], laneHit := [], recent := [], lost := [] }

/-! ### Triggers (07) -/

/-- An input that waits for its evaluation (R286): a side frame, a run of conditioned samples, or a DDC output with its latest input and
its spacing in samples. -/
inductive TrigIn where
  | frame (f : LFrame)
  | samples (s0 : Nat) (t0 : T96) (q : List Int) (mark : Mark)
  | output (last spacing : Nat) (o : DdcOut) (t : T96)
deriving DecidableEq, Repr

/-- What a decision record says of its value (R311, R507). -/
structure TrigInfo where
  peak    : Int
  peakCol : Nat
  firstCol : Nat
  lastCol : Nat
  cols    : Nat
  hits    : Nat
  value   : Int
deriving DecidableEq, Repr

/-- A kind that uses none of the fields. -/
def TrigInfo.zero : TrigInfo :=
  { peak := 0, peakCol := 0, firstCol := 0, lastCol := 0, cols := 0, hits := 0, value := 0 }

/-- A candidate decision (R295, R297). -/
structure Cand where
  nT   : Nat
  t    : T96
  evalIx : Nat
  dur  : Nat
  info : TrigInfo
  mark : Mark
  /-- The qualifier's state at n_T is known and met (R298). -/
  qualified : Bool
  /-- The pour that the unit evaluated it under (R28). -/
  pour : U32
deriving DecidableEq, Repr

/-- A run of evaluations with the condition true (R295). -/
structure TrigRun where
  nT    : Nat
  t     : T96
  count : Nat
  info  : TrigInfo
  mark  : Mark
  done  : Bool
deriving DecidableEq, Repr

/-- A configuration that a unit takes with its first input from a sample on, and whether that input follows a stop (R313, R314). -/
structure TrigTurn where
  start : Nat
  pour  : U32
  stop  : Bool
deriving DecidableEq, Repr

/-- A trigger unit (R285-R304). -/
structure Trig where
  /-- The pour that it evaluates under, and those to come, in order (R313). -/
  pour   : U32
  next   : List TrigTurn
  queue  : List TrigIn
  cond   : Bool
  /-- The threshold state at the previous output (R293). -/
  prev   : Bool
  run    : Option TrigRun
  /-- Hits of the latest frames with their marks, newest first (R291, R311). -/
  hits   : List (Nat × Mark)
  /-- Squares in the power window with their marks, newest first (R287, R311). -/
  window : List (Nat × Mark)
  last   : Option Nat
  /-- Candidates that wait for their qualifier or for A, oldest first. -/
  cands  : List Cand
  /-- Delivered decisions, newest first: instant, n_T, number, and the sequence number of the record, if one was written (R20). -/
  made   : List (T96 × Nat × Nat × Option Nat)
  /-- The A decisions whose first B has been delivered: the unit and the number (R301). -/
  usedA  : List (Nat × Nat)
  /-- Input has been evaluated up to this instant (R302). -/
  upTo   : T96
deriving DecidableEq, Repr

/-- A unit that has evaluated nothing. -/
def Trig.idle : Trig :=
  { pour := 0, next := [], queue := [], cond := false, prev := false, run := Option.none, hits := [], window := [], last := Option.none, cands := [], made := [],
    usedA := [], upTo := 0 }

/-- A decision on its way to a capture controller (R310, R358): the unit (16 for a forced trigger), the number, index and
instant. -/
structure Decision where
  unit   : Nat
  number : Nat
  nT     : Nat
  t      : T96
deriving DecidableEq, Repr

/-- A MON pin that follows a trigger unit (R312): decisions that wait for their WM edge, and the pulse in force. -/
structure Mon where
  waiting : Nat
  pulse   : Bool
deriving DecidableEq, Repr

/-- A MON pin at rest. -/
def Mon.rest : Mon := { waiting := 0, pulse := false }

/-! ### Density and reductions (08) -/

/-- A period that is being drained (R323): its index, length, the Time of its records and its end, what its records state of it, the pour of its
configuration, its columns, the factor in 1/65,536 with which it seeds the active array (none: not at all), and the instant at
which the pass began. -/
structure Drain where
  k       : Nat
  ta      : Nat
  start   : T96
  stop    : T96
  frames  : Nat
  skipped : Nat
  expected : Nat
  flags   : Nat
  pour    : U32
  cols    : Nat
  mark    : Mark
  seed    : Option Nat
  begun   : T96
deriving DecidableEq, Repr

/-- A density engine (R318-R331). The counter of column j and level i stands at 1,024 j + i. -/
structure Dens where
  on      : Bool
  queue   : List LFrame
  active  : Tab Nat
  readout : Tab Nat
  /-- The present period: none before the first frame; its index, length, configuration's pour and columns. -/
  started : Bool
  k       : Nat
  ta      : Nat
  pour    : U32
  cols    : Nat
  /-- Its first instant in nanoseconds where it does not start on its grid. -/
  from'   : Option Nat
  frames  : Nat
  skipped : Nat
  flags   : Nat
  mark    : Mark
  drain   : Option Drain
  /-- A boundary has passed while the pass was running (R324). -/
  late    : Bool
  clear   : Bool
  /-- Stopped at this instant; true when retained in Q3 (R330). -/
  stop    : Option T96
  retained : Bool
  wakeAt  : Option T96
deriving DecidableEq, Repr

/-- A density engine that is off. -/
def Dens.off : Dens :=
  { on := false, queue := [], active := [], readout := [], started := false, k := 0, ta := 100000000, pour := 0, cols := 0,
    from' := Option.none, frames := 0, skipped := 0, flags := 0, mark := Mark.empty, drain := Option.none, late := false,
    clear := false, stop := Option.none, retained := false, wakeAt := Option.none }

/-- What a reduction slot takes in: a frame, its bins those of the slot's source, or one that was not produced, with the cause
that its gap records give. -/
inductive RedIn where
  | frame (z : ZFrame)
  | lost (z : ZFrame) (cause : Nat)
deriving DecidableEq, Repr

/-- A reduction slot (R332-R340): per-bin accumulators as the bits of binary64 or binary32 values. -/
structure Red where
  queue    : List RedIn
  started  : Bool
  /-- The pour of the interval's configuration (R339). -/
  pour     : U32
  /-- The start of the present interval, its end, and its index. -/
  start    : Nat
  stop     : Nat
  index    : Nat
  /-- The interval length I in samples: M hops of the source, since M was last taken (R336, R338, R339). -/
  len      : Nat
  m        : Nat
  s1       : List U64
  s2       : List U64
  /-- The geometry of the frames reduced, from the first of them. -/
  like     : Option ZFrame
  short    : Bool
  mark     : Mark
  lossCause : Nat
deriving DecidableEq, Repr

/-- A slot with no interval open. -/
def Red.idle : Red :=
  { queue := [], started := false, pour := 0, start := 0, stop := 0, index := 0, len := 1, m := 0, s1 := [], s2 := [],
    like := Option.none, short := false, mark := Mark.empty, lossCause := 3 }

/-- An envelope point (R342). -/
structure EnvPoint where
  lo  : Int
  hi  : Int
  mean : Int
  flags : Nat
deriving DecidableEq, Repr

/-- An envelope generator: its configuration's pour and the next one with its first sample; the open point's number, samples,
least, greatest and sum; and the open record's first sample, its T96, its raw tap source and its points, newest first (R342,
R343). -/
structure Env where
  pour   : U32
  next   : Option (Nat × U32)
  point  : Nat
  count  : Nat
  lo     : Int
  hi     : Int
  sum    : Int
  repaired : Bool
  first  : Nat
  t0     : T96
  uncorrected : Bool
  points : List EnvPoint
  mark   : Mark
deriving DecidableEq, Repr

/-- A generator with no record open. -/
def Env.idle : Env :=
  { pour := 0, next := Option.none, point := 0, count := 0, lo := 0, hi := 0, sum := 0, repaired := false, first := 0, t0 := 0,
    uncorrected := false, points := [], mark := Mark.empty }

/-! ### Capture and HBM (09) -/

/-- A segment that a decision or the fixed grid has opened (R360). -/
structure Seg where
  number : Nat
  s0     : Nat
  stop   : Nat
  nT     : Nat
  unit   : Nat
  /-- First index the slot holds, and one past the last. -/
  valid0 : Nat
  valid1 : Nat
  contiguous : Bool
  mark   : Mark
  uncorrected : Bool
  /-- Header flags of a segment closed early: input loss 3, shed 4, aborted 5. -/
  early  : Nat
  closing : Bool
deriving DecidableEq, Repr

/-- A capture channel: the entries taken at arming and re-arm, and its progress (R353-R369). -/
structure Cap where
  mode    : Nat
  len     : Nat
  count   : Nat
  base    : Nat
  byStore : Bool
  notice  : Nat
  mask    : Nat
  pre     : Nat
  follow  : Nat
  armed   : Bool
  stopping : Bool
  shed    : Bool
  armIx   : Nat
  w       : Nat
  /-- First index written into the present slot since it began filling. -/
  b       : Nat
  /-- Lowest acceptable n_T. -/
  m       : Nat
  next    : Nat
  lastEnd : Option Nat
  queue   : List Seg
  decisions : List Decision
  /-- The last segment number filled into each slot, plus one. -/
  filled  : Tab Nat
  released : Nat
  /-- The segment number after that of the last header. -/
  headed  : Nat
  /-- Samples that HBM did not get, newest first: the first of them and the first after them, none while the channel is stopped
  (R365). -/
  losses  : List (Nat × Option Nat)
  blocked : Bool
deriving DecidableEq, Repr

/-- A capture channel that is off. -/
def Cap.off : Cap :=
  { mode := 0, len := 65536, count := 1024, base := 0, byStore := false, notice := 0xFFFFFFFF, mask := 0, pre := 0,
    follow := 255, armed := false, stopping := false, shed := false, armIx := 0, w := 0, b := 0, m := 0, next := 0,
    lastEnd := Option.none, queue := [], decisions := [], filled := [], released := 0, headed := 0, losses := [],
    blocked := false }

/-- The owner of the bursts in which a training window gathers eye data, which move no word of HBM: no code of R373 (R381). -/
def trainingOwner : Nat := 0x100

/-- A burst that waits for its slot (R374, R378): owner code (0 best effort), class, channel, address, beats, age. -/
structure Burst where
  owner : Nat
  cls   : Nat
  chan  : Nat
  addr  : Nat
  beats : Nat
  born  : T96
  write : Bool
deriving DecidableEq, Repr

/-- Where a frequency step is: requested; the bus stopped; the clock moved; training at the new frequency (R382). -/
inductive StepPhase where
  | requested | stopped | moved | training
deriving DecidableEq, Repr

/-- The HBM controller and the SRAM groups (R372-R396); the contents of HBM stand in `State.mem`. -/
structure Hbm where
  /-- Owner codes of the active table. -/
  table   : List Nat
  q4      : Bool
  queue   : List Burst
  debt    : Tab Nat
  /-- Domains that gather eye data, and those whose new parameters wait for the reserved slot (R381). -/
  gathering : Tab Bool
  fresh   : Tab Bool
  /-- The parameter sets of the channels: that of channel n at 6.4 Gb/s under 2n, at 3.2 Gb/s under 2n + 1 (R380). -/
  params  : Tab Nat
  /-- A frequency step, true for up, and where it is (R382). -/
  step    : Option (Bool × StepPhase)
  slow    : Bool
  /-- Spans of words that the present pass of the patrol scrub has read (R386). -/
  scrubbed : List (Nat × Nat)
  /-- Groups in retention, and groups in their wake delay. -/
  retained : List SramGroup
  waking  : List (SramGroup × T96)
deriving DecidableEq, Repr

/-! ### The ladle array (10, 11) -/

/-- The states of a ladle as 0x29g8 codes them (R436). -/
inductive LState where
  | stopped | running | waiting | paused | restarting | failed
deriving DecidableEq, Repr

/-- Their codes. -/
def LState.code : LState → Nat
  | .stopped => 0 | .running => 1 | .waiting => 2 | .paused => 3 | .restarting => 4 | .failed => 5

/-- A register, or the view of one, that a delayed write reaches (R459). -/
inductive LReg where
  | d (n : Fin 16) | a (n : Fin 8) | bs (n : Fin 8) | ln (n : Fin 8)
  | lps (n : Fin 3) | lpe (n : Fin 3) | lpc (n : Fin 3)
  /-- Accumulator k as EXT and MFS see it; its low and high parts in both views. -/
  | accE (k : Fin 2) | accLo (k : Fin 2) | accHi (k : Fin 2)
  /-- MXV and MXI in both views, and as MFS sees them. -/
  | mxv | mxi | mxvE | mxiE
  /-- ST but its loop depth and read-only fields; the loop depth; the loop depth less one; the sticky overflow bit of accumulator
  k. -/
  | st | ld | endl | av (k : Fin 2)
  | epc | est | ec | ea | ebt | vec | ien
deriving DecidableEq, Repr

/-- A write on its way: it lands when `left` further instructions have completed (R459). -/
structure PWrite where
  reg  : LReg
  val  : Nat
  left : Nat
deriving DecidableEq, Repr

/-- A mover transfer (R458): direction (true: local to HBM), local address, HBM address, bytes. -/
structure Mover where
  toHbm : Bool
  loc   : Nat
  hbm   : Nat
  len   : Nat
deriving DecidableEq, Repr

/-- An entry that waits at a tap port for delivery (R415): its bytes, pour, flags and span. -/
structure TapEntry where
  bytes : List Byte
  start : T96
  stop  : T96
deriving DecidableEq, Repr

/-- A tap port: its subscription and the pour of it, entries to deliver, and discards not yet reported by a gap entry (R416,
R424). -/
structure Port where
  cfg    : U64
  pour   : U32
  queue  : List TapEntry
  gapFirst : Option Nat
  gapSpan  : T96 × T96
deriving DecidableEq, Repr

/-- A port that subscribes to nothing. -/
def Port.none : Port := { cfg := 0, pour := 0, queue := [], gapFirst := Option.none, gapSpan := (0, 0) }

/-- An instruction that the ladle holds until a resource, a queue place or the mover's end lets it complete (R454-R458): the
instruction and the words of an XF that have moved. -/
structure Held where
  instr : Instr
  done  : Nat
deriving DecidableEq, Repr

/-- A logical ladle (R437, R439). -/
structure Ladle where
  run   : LState
  /-- The state a pause returns to. -/
  before : LState
  pc    : BitVec 13
  d     : Vector U32 16
  a     : Vector U32 8
  bs    : Vector U32 8
  ln    : Vector U32 8
  lps   : Vector (BitVec 13) 3
  lpe   : Vector (BitVec 13) 3
  lpc   : Vector U32 3
  /-- Accumulators as MAC sees them and as EXT sees them. -/
  accM  : Vector (BitVec 40) 2
  accE  : Vector (BitVec 40) 2
  st    : U32
  mxvM  : U32
  mxiM  : U32
  mxvE  : U32
  mxiE  : U32
  epc   : BitVec 13
  ebt   : BitVec 13
  est   : U32
  ec    : U32
  ea    : U32
  vec   : BitVec 13
  ien   : U32
  mve   : U32
  writes : List PWrite
  /-- A branch that is pending: its target and the delay slots left (R441). -/
  branch : Option (BitVec 13 × Nat)
  dm    : Tab Byte
  im    : Tab U32
  /-- The instruction that waits for a grant or for the mover. -/
  held  : Option Held
  /-- The locked resource; the watchdog has ended a locked sequence and cause 4 is due (R411). -/
  lock  : Option (Fin 18)
  lockLost : Option (Fin 18)
  /-- The fault clock when the locked sequence began (R411). -/
  lockedAt : Nat
  /-- The watchdog count (R427): while the ladle executes it is the fault clock less `kicked`; it stands from `idleAt` on while the ladle
  waits or is paused. -/
  kicked : Nat
  idleAt : Nat
  /-- The WAIT in progress: its register and mask (R455). -/
  waitOn : Option (Fin 16 × BitVec 4)
  movers : List Mover
  ports : Vector Port 4
  /-- The pour and flags of the entries released since the last publish, and of the last one (R420). -/
  acc   : Mark
  lastAcc : Mark
  /-- The physical ladle at its position in the cluster, 16 for the spare. -/
  phys  : Nat
  /-- Q2 has been entered and the ladle has not paused yet (R432). -/
  pauseDue : Bool
  /-- A pour that it takes at its next wait-for-input (R424). -/
  due   : Option U32
  /-- A restart on the spare is in progress (R428). -/
  toSpare : Bool
  /-- Watchdog events, entries discarded and publishes dropped (0x290A). -/
  events : Nat
  discards : Nat
  dropped : Nat
deriving DecidableEq, Repr

/-- A ladle at reset: every register at its reset value (R437). -/
def Ladle.reset (phys : Nat) : Ladle :=
  { run := .stopped, before := .running, pc := 0, d := Vector.replicate 16 0, a := Vector.replicate 8 0,
    bs := Vector.replicate 8 0, ln := Vector.replicate 8 0, lps := Vector.replicate 3 0, lpe := Vector.replicate 3 0,
    lpc := Vector.replicate 3 0, accM := Vector.replicate 2 0, accE := Vector.replicate 2 0, st := 0, mxvM := 0, mxiM := 0,
    mxvE := 0, mxiE := 0, epc := 0, ebt := 0, est := 0, ec := 0, ea := 0, vec := 0, ien := 0, mve := 0, writes := [],
    branch := Option.none, dm := [], im := [], held := Option.none, lock := Option.none, lockLost := Option.none, lockedAt := 0, kicked := 0, idleAt := 0,
    waitOn := Option.none, movers := [], ports := Vector.replicate 4 Port.none, acc := Mark.empty, lastAcc := Mark.empty, phys := phys,
    pauseDue := false, due := Option.none, toSpare := false, events := 0, discards := 0, dropped := 0 }

/-- A request at an arbiter (R402-R406): the ladle, its rank, words still to move, words moved, and whether it locks. -/
structure Req where
  ladle : Nat
  rank  : Nat
  words : Nat
  moved : Nat
  lock  : Bool
deriving DecidableEq, Repr

/-- An arbiter: its owner, its queue in order of arrival, and the last owner of each rank (R404). -/
structure Arb where
  owner : Option Req
  queue : List Req
  lastOf : Tab Nat
deriving DecidableEq, Repr

/-- An arbiter at rest. -/
def Arb.idle : Arb := { owner := Option.none, queue := [], lastOf := [] }

/-- A cluster: its memory by byte offset, its arbiters by resource number, and whether the spare is in service. -/
structure Cluster where
  mem  : Tab Byte
  arbs : Tab Arb
  spare : Bool
deriving DecidableEq, Repr

/-- A cluster at reset. -/
def Cluster.idle : Cluster := { mem := [], arbs := [], spare := false }

/-! ### The time-interval unit (12) -/

/-- A bin-width table: c_max and 384 widths in 1/16 fs (R469, R470). -/
structure BinTable where
  cmax   : Nat
  widths : List Nat
deriving DecidableEq, Repr

/-- A pair of interpolators (R470-R473): their tables (none: the factory table), the active one, the one that calibrates,
the one that waits to become active, and the retired ones. -/
structure Interp where
  i0      : Option BinTable
  i1      : Option BinTable
  active  : Nat
  calibrating : Option Nat
  /-- The cycle's second half is still to run. -/
  cycle   : Bool
  switchTo : Option Nat
  retired : List Nat
  /-- The cycle in progress was commanded (R472): Q1 does not abandon it. -/
  forced  : Bool
  /-- Tj in 0.1 °C at the last calibration of either of them (R473). -/
  calTemp : Option Int
  /-- The fault clock at that calibration (R471). -/
  calAt   : Option Nat
deriving DecidableEq, Repr

/-- Interpolators with factory tables. -/
def Interp.factory : Interp :=
  { i0 := Option.none, i1 := Option.none, active := 0, calibrating := Option.none, cycle := false, switchTo := Option.none,
    retired := [], forced := false, calTemp := Option.none, calAt := Option.none }

/-- A stamp (R480): its raw time, its T96, and what its record and its pairs state of it: bits 2 uncalibrated, 3 time quality and
4 stale of R479, its pour, and the steps of T96 before it. -/
structure Stamp where
  raw    : Int
  t      : T96
  falling : Bool
  interp : Nat
  err    : Bool
  count  : Nat
  status : Nat
  pour   : U32
  steps  : Nat
deriving DecidableEq, Repr

/-- An event input (R465-R482). -/
structure EvtIn where
  on       : Bool
  /-- Edges counted since the window opened (R465). -/
  count    : Nat
  lastStamp : Option Int
  /-- The stamps of the record in progress, newest first, and whether its window opened in it. -/
  record   : List Stamp
  opened   : Bool
  /-- Dead-time misses and discarded stamps since the previous record; stamps delivered before it. -/
  misses   : Nat
  discarded : Nat
  delivered : Nat
  /-- The event riser has overflowed: the gap's start (R481). -/
  overflow : Option T96
  /-- The totals that 0x2A01 shows. -/
  missAll  : Nat
  discAll  : Nat
  ignored  : Nat
  faults   : Nat
deriving DecidableEq, Repr

/-- An input that is off. -/
def EvtIn.off : EvtIn :=
  { on := false, count := 0, lastStamp := Option.none, record := [], opened := false, misses := 0, discarded := 0, delivered := 0,
    overflow := Option.none, missAll := 0, discAll := 0, ignored := 0, faults := 0 }

/-- What a measurement unit processes (R483): gate opening, with its window and T96, and closing, a stamp of an input, an input's
loss. -/
inductive MuEvent where
  | gateOpen (raw : Int) (window : Nat) (t : T96)
  | gateClose (raw : Int)
  | start (s : Stamp)
  | stop (s : Stamp)
  | lost (raw : Int)
deriving DecidableEq, Repr

/-- An interval result (R491): start time, code, interval in fs, edge count. -/
structure MuResult where
  t     : T96
  code  : Nat
  fs    : Int
  edges : Nat
deriving DecidableEq, Repr

/-- A statistics block in progress (R489-R491). -/
structure MuBlock where
  k        : Nat
  sum      : Int
  sumSq    : Nat
  lo       : Int
  hi       : Int
  firstStart : T96
  lastStop : T96
  unresolved : Nat
  noStop   : Nat
  lostN    : Nat
  orphans  : Nat
  extras   : Nat
  mark     : Mark
deriving DecidableEq, Repr

/-- A block that has taken nothing. -/
def MuBlock.empty : MuBlock :=
  { k := 0, sum := 0, sumSq := 0, lo := 0, hi := 0, firstStart := 0, lastStop := 0, unresolved := 0, noStop := 0, lostN := 0,
    orphans := 0, extras := 0, mark := Mark.empty }

/-- A measurement unit (R483-R491). -/
structure Mu where
  on       : Bool
  queue    : List MuEvent
  inside   : Bool
  window   : Nat
  started  : Option Stamp
  /-- The results of the record in progress, newest first; the flags of their stamps; results made before it. -/
  results  : List MuResult
  status   : Nat
  mark     : Mark
  done     : Nat
  /-- Steps of T96 at the latest stamp taken (R137). -/
  steps    : Nat
  block    : MuBlock
  blockNo  : Nat
deriving DecidableEq, Repr

/-- A unit that is off. -/
def Mu.off : Mu :=
  { on := false, queue := [], inside := false, window := 0, started := Option.none, results := [], status := 0, mark := Mark.empty,
    done := 0, steps := 0, block := MuBlock.empty, blockNo := 0 }

/-- The time-interval unit: inputs 0-7; interpolators 0-7 of the inputs and 8 of EVTGATE; the gate; the units. -/
structure Tiu where
  inputs  : Tab EvtIn
  interps : Tab Interp
  mus     : Tab Mu
  gateOn   : Bool
  gateOpen : Bool
  /-- Raw time and T96 of the latest opening, and of the closing that an open window of modes 2 and 3 will have. -/
  openRaw : Int
  openT   : T96
  closeRaw : Int
  closeT  : T96
  /-- T96 of the last closing; the window number; edges ignored (0x2A81). -/
  closedT : T96
  window  : U32
  ignored : Nat
  /-- The next window of mode 3. -/
  k       : Nat
  /-- The event domains are gated by a clock event (R119). -/
  gated   : Bool
deriving DecidableEq, Repr

/-! ### The recording store (14) -/

/-- A data zone of a drive (R537, R551): 0 empty, 1 open, 2 finished, 3 read only, 4 retired; its stream, the LBAs written
and what a catalogue states of it (R548). -/
structure Zone where
  cond     : Nat
  stream   : Nat
  written  : Nat
  firstChunk : Nat
  firstSeq : Nat
  firstTime : T96
  newest   : T96
  /-- A read of it needed a retry (R555). -/
  retry    : Bool
deriving DecidableEq, Repr

/-- An empty zone. -/
def Zone.empty : Zone :=
  { cond := 0, stream := 255, written := 0, firstChunk := 0, firstSeq := 0, firstTime := 0, newest := 0, retry := false }

/-- The states of a chunk: in the store buffer, appended but not committed, committed, recovered, lost, unavailable. -/
inductive ChunkState where
  | buffered | appending | appended | committed | recovered | lost | unavailable
deriving DecidableEq, Repr

/-- A chunk (R541, R542): its header fields, its place once it has one, and its series bytes. -/
structure Chunk where
  stream   : Nat
  number   : Nat
  session  : Nat
  flags    : Nat
  used     : Nat
  firstOff : Nat
  firstSeq : Nat
  firstTime : T96
  crc      : Nat
  data     : List Byte
  st       : ChunkState
  drive    : Nat
  zone     : Nat
  lba      : Nat
  /-- The entry number that commits it, once written (R545). -/
  entry    : Option Nat
  /-- Sequence and time of the last record that ends in it. -/
  lastEnd  : Option (Nat × T96)
  /-- When its append was issued (R551). -/
  sent     : T96
  /-- The fault clock when the scrub last read it (R555). -/
  scrubAt  : Option Nat
deriving DecidableEq, Repr

/-- A drive (R535-R543, R551-R554). -/
structure Drive where
  /-- 0x2C08 + d.02. -/
  st       : Nat
  link     : Nat
  info     : Option DriveInfo
  zones    : Tab Zone
  appended : Nat
  /-- Chunk keys of the appends outstanding, oldest first: 2^32 · stream + number. -/
  outstanding : List Nat
  /-- Retired since the last start-up (R551). -/
  retired  : Bool
  used     : Nat
  spare    : Nat
  media    : Nat
  /-- Fault events, as 0x2C08 + d.09 shows them. -/
  faults   : Nat
  /-- Blocks of the catalogue zones 2 and 3 and of the journal ring, newest first: zone and contents (R548). -/
  log      : List (Nat × List Byte)
  /-- The fault clock from which the scrub rate lets the scrub read on (R555). -/
  scrubFree : Nat
deriving DecidableEq, Repr

/-- An absent drive. -/
def Drive.absent : Drive :=
  { st := 0, link := 0, info := Option.none, zones := [], appended := 0, outstanding := [], retired := false, used := 0,
    spare := 0, media := 0, faults := 0, log := [], scrubFree := 0 }

/-- A recording stream (R540-R546): the open chunk's series bytes and record starts (offset, sequence, time). -/
structure RStream where
  st       : Nat
  session  : Nat
  next     : Nat
  series   : List Byte
  starts   : List (Nat × Nat × T96)
  firstIn  : Option T96
  /-- Sequence and time of a record that began in an earlier chunk and has not ended. -/
  carry    : Option (Nat × T96)
  firstOfSession : Bool
  /-- Chunks whose place is to be found, oldest first (R543, R552). -/
  waiting  : List Nat
  /-- The position of the drive that took the last chunk (R543). -/
  lastPos  : Nat
  /-- Sequence of the records that the store makes itself (R540). -/
  ownSeq   : Nat
  /-- Segments of a capture stream that wait for their release, each with the chunk that holds its last byte (R546). -/
  segs     : List (Nat × Nat)
  /-- Chunk numbers at which a stream's uncommitted tail was lost, with the session (R557). -/
  tails    : List (Nat × Nat)
  bytes    : Nat
  fullRaised : Bool
deriving DecidableEq, Repr

/-- A stream that is off. -/
def RStream.off : RStream :=
  { st := 0, session := 0, next := 0, series := [], starts := [], firstIn := Option.none, carry := Option.none,
    firstOfSession := true, waiting := [], lastPos := 7, ownSeq := 0, segs := [], tails := [], bytes := 0, fullRaised := false }

/-- A replay (R558, R559): the settings taken at its start and its progress. -/
structure Replay where
  st       : Nat
  stream   : Nat
  mode     : Nat
  session  : Nat
  seq      : Nat
  time     : T96
  limit    : Nat
  runner   : Nat
  /-- The stretch before the start point has been passed. -/
  found    : Bool
  delivered : Nat
  notices  : Nat
  chunk    : Nat
  offset   : Nat
  lastSession : Option Nat
  /-- The chunk before which an uncommitted tail has been noticed, and the end of the recovered stretch that has (R559). -/
  tailNoticed : Option Nat
  recoveredTo : Nat
  /-- The earliest instant of the next record under its rate limit. -/
  due      : T96
deriving DecidableEq, Repr

/-- A replay that has not been started. -/
def Replay.idle : Replay :=
  { st := 0, stream := 0, mode := 0, session := 0, seq := 0, time := 0, limit := 0, runner := 0xFFFFFFFF, found := false,
    delivered := 0, notices := 0, chunk := 0, offset := 0, lastSession := Option.none, tailNoticed := Option.none,
    recoveredTo := 0, due := 0 }

/-- The recording store. The contents of the drives survive every reset (R639). -/
structure Sto where
  /-- 0x2C00.01. -/
  st       : Nat
  drives   : Tab Drive
  streams  : Tab RStream
  /-- Chunks by 2^32 · stream + number. -/
  chunks   : List (Nat × Chunk)
  replays  : Tab Replay
  session  : Nat
  /-- Store ID and format generation of the store in service. -/
  storeId  : Nat
  generation : Nat
  /-- Entries of the open journal block, oldest first, blocks appended and not durable, and the next entry number. -/
  entries  : List (List Byte)
  blocks   : List (Nat × List Byte)
  entryNo  : Nat
  /-- Entry blocks in the present journal zone, that zone, and the catalogue zone written last (R548). -/
  ringZone : Nat
  ringUsed : Nat
  catZone  : Nat
  catalogueDue : Bool
  /-- When the last catalogue was written (R548). -/
  catalogueAt : T96
  lost     : Nat
  unavailable : Nat
  recovered : Nat
  retiredZones : Nat
  result   : Nat
deriving DecidableEq, Repr

/-- The store after reset, over drives whose contents stay. -/
def Sto.reset : Sto :=
  { st := 0, drives := [], streams := [], chunks := [], replays := [], session := 0, storeId := 0, generation := 0,
    entries := [], blocks := [], entryNo := 0, ringZone := 4, ringUsed := 0, catZone := 3, catalogueDue := false, catalogueAt := 0, lost := 0,
    unavailable := 0, recovered := 0, retiredZones := 0, result := 0 }

/-! ### The network and the host port (15) -/

/-- An Ethernet port (R562-R564, R579, R580). -/
structure EthPort where
  /-- 0x2D02 + p.02. -/
  link     : Nat
  module'  : Bool
  sent     : Nat
  bytes    : Nat
  /-- Queues that are paused, bit n for priority n, since when, and nanoseconds paused so far. -/
  paused   : Nat
  since    : Option T96
  pausedNs : Nat
  losses   : Nat
  discarded : Nat
  temperature : Nat
  power    : Nat
deriving DecidableEq, Repr

/-- A port whose link is down. -/
def EthPort.down : EthPort :=
  { link := 0, module' := false, sent := 0, bytes := 0, paused := 0, since := Option.none, pausedNs := 0, losses := 0,
    discarded := 0, temperature := 0, power := 0 }

/-- An output that waits in a VDIF stream (R571): its T96, and I and Q or none where it was not delivered. -/
structure VSample where
  t     : T96
  iq    : Option (Nat × Nat)
  bad   : Bool
deriving DecidableEq, Repr

/-- A network stream (R565-R581). -/
structure NStream where
  /-- Records that wait, oldest first: runner and bytes; the packets of one are all formed at once (R569). -/
  queue    : List (Nat × List Byte)
  seq      : Nat
  mac      : Option Nat
  packets  : Nat
  records  : Nat
  /-- VDIF: samples not yet framed, oldest first, each with its second and its number there; the last frame formed; frames
  sent invalid and not sent. -/
  samples  : List (Nat × Nat × VSample)
  lastFrame : Option (Nat × Nat)
  vseq     : Nat
  badFrames : Nat
  unsent   : Nat
  /-- VITA: packet counts, data packets since the last context, what the last data packet showed, and runners with a gap. -/
  vcount   : Nat
  ccount   : Nat
  sinceCtx : Nat
  lastSeen : Option (Nat × Nat × List Byte)
  gapIn    : List Nat
  contexts : Nat
  /-- Fragments of the oldest record that are sent (R570), and the packets of the last 10 µs: fault clock and frame bytes (R581). -/
  fragments : Nat
  spacing  : List (Nat × Nat)
  /-- When its address was asked for (R567), and the pour that it takes once the record or frame in progress is sent (R569). -/
  asked    : Option T96
  next     : Option U32
deriving DecidableEq, Repr

/-- A stream that has sent nothing. -/
def NStream.idle : NStream :=
  { queue := [], seq := 0, mac := Option.none, packets := 0, records := 0,
    samples := [], lastFrame := Option.none, vseq := 0, badFrames := 0, unsent := 0, vcount := 0, ccount := 0, sinceCtx := 0,
    lastSeen := Option.none, gapIn := [], contexts := 0, fragments := 0, spacing := [], asked := Option.none, next := Option.none }

/-- The network and the host port. -/
structure Net where
  ports    : Tab EthPort
  streams  : Tab NStream
  /-- 0x2D80.02-.08. -/
  hostUp   : Bool
  hostLink : Nat
  flit     : Bool
  flrs     : Nat
  hostLosses : Nat
  timeouts : Nat
  urca     : Nat
  invalidations : Nat
deriving DecidableEq, Repr

/-! ### Health and quench (16) -/

/-- A window monitor (R593-R599): its state as 0x2E10 + m.02 while on, and its latch. -/
structure Wm where
  st       : Nat
  latch    : Nat
  latchT   : T96
  changes  : Nat
  /-- What the last seven samples counted as, newest first (R595). -/
  hist     : List Nat
deriving DecidableEq, Repr

/-- A monitor that starts inside, its filter history preloaded with inside samples (R596). -/
def Wm.start : Wm := { st := 0, latch := 0, latchT := 0, changes := 0, hist := List.replicate 7 0 }

/-- A housekeeping converter (R602-R608): results still to come of the present start (none: idle; mode 1 has no end). -/
structure Hk where
  running  : Bool
  left     : Nat
  /-- A start that waits for the reference (R606) or for the wake-up (R607). -/
  waiting  : Bool
  byMonitor : Bool
  first    : Bool
  written  : Nat
  missed   : Nat
  mode     : Nat
  /-- The fault clock at which its next result is due, or the start that waits for the wake-up (R603, R607). -/
  due      : Nat
deriving DecidableEq, Repr

/-- A converter that is off. -/
def Hk.off : Hk :=
  { running := false, left := 0, waiting := false, byMonitor := false, first := true, written := 0, missed := 0, mode := 0,
    due := 0 }

/-- Health: monitors, converters, sentinels and the quench controller. -/
structure Hea where
  wms      : Tab Wm
  hks      : Tab Hk
  /-- 0x2E30.03, and the fault clock when it took that value. -/
  refState : Nat
  refAt    : Nat
  /-- Consecutive windows a sentinel has differed, and sentinels excluded and lasting (R611). -/
  far      : Tab Nat
  excluded : Tab Bool
  noSpare  : Tab Bool
  /-- Die margins in 0.01 %, once a window has ended. -/
  margin   : Tab (Option Int)
  /-- VDD_CORE at the compute dies in mV, as the supply comparators last saw it. -/
  vdd      : Tab (Option Nat)
  demand   : Tab Nat
  level    : Nat
  /-- Captures shed and channels stopped, the latest first (R616). -/
  shedCaps : List Nat
  shedChans : List Nat
  /-- The fault clock at the last step of Q5 or Q6 (R616). -/
  lastStep : Option Nat
  /-- The fault clock from which the exit conditions of the present level hold, and at the last exit (R615). -/
  exitSince : Option Nat
  lastExit : Option Nat
  /-- The fault clock from which the entry condition of Q5 or Q6 has held (R616). -/
  entrySince : Option Nat
deriving DecidableEq, Repr

/-- Health after reset. -/
def Hea.reset : Hea :=
  { wms := [], hks := [], refState := 0, refAt := 0, far := [], excluded := [], noSpare := [], margin := [], vdd := [], demand := [],
    level := 0, shedCaps := [], shedChans := [], lastStep := Option.none, exitSince := Option.none, lastExit := Option.none,
    entrySince := Option.none }

/-! ### The state -/

/-- The machine. -/
structure State where
  /-- The commands that wait, first in, first out (the model's own). -/
  pending  : List Instr
  /-- The dictionary's store, by index · 256 + sub: an unlisted entry reads as its default. -/
  od       : Tab Val
  /-- Entries of the snapshot groups that are updated at stated instants, as they stand now; an update copies them into the store
  (R64). -/
  live     : Tab Val
  /-- The contents of HBM by byte address; an unlisted byte reads 0 (R639). -/
  mem      : Tab Byte
  /-- What the block has given to its surroundings, newest first. -/
  out      : List Output
  ctl      : Ctl
  flt      : Flt
  clk      : Clk
  dma      : Dma
  chans    : Tab Chan
  /-- By 8 c + k. -/
  ddcs     : Tab Ddc
  xfs      : Tab Xf
  trigs    : Tab Trig
  mons     : Tab Mon
  dens     : Tab Dens
  /-- By 6 c + r. -/
  reds     : Tab Red
  /-- By 2 c + g. -/
  envs     : Tab Env
  caps     : Tab Cap
  hbm      : Hbm
  ladles   : Tab Ladle
  clusters : Tab Cluster
  /-- Entries that each tap has offered so far (R415). -/
  tapSeq   : Tab Nat
  tiu      : Tiu
  sto      : Sto
  net      : Net
  hea      : Hea
deriving DecidableEq, Repr

/-! ### Reset -/

/-- Control after reset: held in reset by nPORST. -/
def Ctl.reset : Ctl :=
  { held := true, released := false, crystal := false, oscillates := false, firmware := false, hbmReady := false,
    dev := .init, owner := none, starting := false, running := false, time := 0, ticks := 0, crystalCount := 0,
    pendingSet := [], stamps := [], writes := 0, validating := none, waiting := none, pours := [], currentPour := 0, highestPour := 0, blockPour := [],
    applied := [], latches := [], staged := [], hostEmg := [], ecatEmg := [], image := none, rxpdo := [], mbxRequest := none,
    mbxAnswers := [], sdoSeg := none, drawn := 0 }

/-- The fault manager of a part that has never journalled, with a factory image in slot A. -/
def Flt.reset : Flt :=
  { journal := [], nv := [], bootCount := 0, written := 0, events := 0, acked := 0, windows := [], lasting := [], rows := [],
    slotA := some { version := 0x01000000, security := 0 }, slotB := none, runningB := false, rollback := 0,
    resetCond := none, cause := 1, causeIncomplete := false }

/-- Runners, engines and MSI-X after reset. -/
def Dma.reset : Dma :=
  { runners := [], engines := [], retired := [], turn := [], atc := [], invalidating := [], inFlight := 0, peak := 0, pageReqs := 0, pageFails := 0,
    pageTimeouts := 0, faultEvents := 0, unmasked := [],
    msixPending := [] }

/-- Clocks after reset: the default sample rate, the crystal as reference, time INVALID. -/
def Clk.reset : Clk :=
  { refin := false, event := none, retune := none, rate := 20480000000, ratePour := 0, offsets := [],
    crystalSince := none, fh := 0, correction := 0, phase := [], target := [], lockf := 0,
    ppsLast := none, ppsPred := none, ppsGood := 0, ppsBad := 0, ppsQual := false, ppsLabel := none, ptp := [],
    dcWritten := false, dcQual := false, freeRun := none, everValid := false, holdover := none, steps := 0, slew := 0,
    aligning := false, aligned := false, slipRun := 0, clkoutHeld := [], clkoutFirst := [], stamps := [],
    gridSteps := [] }

/-- The HBM controller after reset: the default table, which names best effort for every slot (R392). -/
def Hbm.reset : Hbm :=
  { table := [], q4 := false, queue := [], debt := [], gathering := [], fresh := [], params := [], step := none, scrubbed := [],
    slow := false, retained := [], waking := [] }

/-- The time-interval unit after reset: factory tables, the gate closed. -/
def Tiu.reset : Tiu :=
  { inputs := [], interps := [], mus := [], gateOn := false, gateOpen := false, openRaw := 0, openT := 0, closeRaw := 0, closeT := 0,
    closedT := 0, window := 0, ignored := 0, k := 0, gated := false }

/-- The network and the host port after reset. -/
def Net.reset : Net :=
  { ports := [], streams := [], hostUp := false, hostLink := 0, flit := false, flrs := 0, hostLosses := 0, timeouts := 0,
    urca := 0, invalidations := 0 }

/-- The machine right after a power-on reset of a new part, nPORST still low (R636, R639). -/
def State.reset : State :=
  { pending := [], od := [], live := [], mem := [], out := [], ctl := Ctl.reset, flt := Flt.reset, clk := Clk.reset, dma := Dma.reset,
    chans := [], ddcs := [], xfs := [], trigs := [], mons := [], dens := [], reds := [], envs := [], caps := [],
    hbm := Hbm.reset, ladles := [], clusters := [], tapSeq := [], tiu := Tiu.reset, sto := Sto.reset, net := Net.reset,
    hea := Hea.reset }

end Sys2Proof.Machine
end

