-- ==== Sys2Proof/Machine/Ops.lean ====
section
/-! DEFINITION. The shared operations: the dictionary's entries, the configuration of a pour, time, outputs, the journal and
its emergency messages, memory and CRC-32C. -/

namespace Sys2Proof

/-! ### Entries of the dictionary -/

/-- The width of a type in bits; 0 for STR and DOMAIN (R49). -/
def Ty.width : Ty → Nat
  | .bool => 1 | .u8 => 8 | .u16 => 16 | .u32 => 32 | .u64 => 64
  | .i16 => 16 | .i32 => 32 | .i64 => 64 | .f32 => 32 | .t96 => 96 | .str => 0 | .domain => 0

/-- The size of a type in an SDO, in bytes; 0 for STR and DOMAIN (R49). -/
def Ty.bytes : Ty → Nat
  | .bool => 1
  | t => t.width / 8

/-- The CoE data type of a type (R49). -/
def Ty.coe : Ty → Nat
  | .bool => 0x0001 | .u8 => 0x0005 | .u16 => 0x0006 | .u32 => 0x0007 | .u64 => 0x001B
  | .i16 => 0x0003 | .i32 => 0x0004 | .i64 => 0x0015 | .f32 => 0x0008 | .t96 => 0x0040 | .str => 0x0009 | .domain => 0x000F

/-- Whether a type is signed (R49). -/
def Ty.signed : Ty → Bool
  | .i16 | .i32 | .i64 => true
  | _ => false

/-- Whether values of a type are byte strings (R49). -/
def Ty.string : Ty → Bool
  | .str | .domain => true
  | _ => false

/-- Whether the indices of a row include this one. -/
def EntryRow.hasIndex (r : EntryRow) (index : Nat) : Bool :=
  decide (r.base ≤ index) &&
    (if r.n1 = 1 then decide (index - r.base < r.n2)
     else decide ((index - r.base) / 16 < r.n1) && decide ((index - r.base) % 16 < r.n2))

/-- Whether a row describes entry index.sub. -/
def EntryRow.has (r : EntryRow) (index sub : Nat) : Bool :=
  r.hasIndex index && decide (r.lo ≤ sub) && decide (sub ≤ r.hi)

/-- The row of entry index.sub. The sub-index after a T96 entry is no entry (R59). -/
def Dict.row (index sub : Nat) : Option EntryRow :=
  (Dict.page index).find? (fun r => r.has index sub)

/-- Whether an index exists (R53). -/
def Dict.indexExists (index : Nat) : Bool := (Dict.page index).any (fun r => r.hasIndex index)

/-- A store's key of index.sub, and back. -/
def keyOf (index sub : Nat) : Nat := index * 256 + sub

/-- A number as the value of an entry. -/
def Val.ofNat (n : Nat) : Val := .bits (BitVec.ofNat 96 n)

/-- A value's number; of a byte string, its length (R49). -/
def Val.nat : Val → Nat
  | .bits v => v.toNat
  | .bytes b => b.length

/-- A value's bytes; none of a number. -/
def Val.data : Val → List Byte
  | .bits _ => []
  | .bytes b => b

/-- The ASCII bytes of a device name (R97). -/
def deviceName : List Byte := [0x51, 0x4e, 0x34, 0x38, 0x32, 0x30]

/-- CRC-32C (Castagnoli), one bit of the reflected register. -/
def crcBit (c : U32) : U32 := if c.getLsbD 0 then (c >>> 1) ^^^ 0x82F63B78 else c >>> 1

/-- CRC-32C, one byte. -/
def crcByte (c : U32) (b : Byte) : U32 :=
  let x := c ^^^ b.setWidth 32
  crcBit (crcBit (crcBit (crcBit (crcBit (crcBit (crcBit (crcBit x)))))))

/-- CRC-32C of a byte string (R504 and the other tables that name it). -/
def crc32c (bs : List Byte) : U32 := bs.foldl crcByte 0xFFFFFFFF ^^^ 0xFFFFFFFF

/-- The owner code of slot i in a table that gives every slot to best effort but the refresh slots (R373, R390). -/
def defaultSlot (i : Nat) : Byte := if i % 128 = 127 then 0xFF else 0

/-- The default slot table: its size S = 1,024, the CRC and the owner codes (R373, R375). -/
def defaultSlotTable : List Byte :=
  let codes := (List.range 1024).map defaultSlot
  leBytes 4 1024 ++ leBytes 4 (crc32c codes).toNat ++ codes

/-- The range of a health source in its unit (R593); the whole I16 range for a code that names no source. -/
def sourceRange (code : Nat) : Int × Int :=
  if 0x01 ≤ code ∧ code ≤ 0x03 then (0, 1200)
  else if 0x04 ≤ code ∧ code ≤ 0x0A then (0, 4000)
  else if 0x10 ≤ code ∧ code ≤ 0x16 then (-400, 1500)
  else if 0x20 ≤ code ∧ code ≤ 0x27 then (0, 1200)
  else if 0x30 ≤ code ∧ code ≤ 0x33 then (-400, 60)
  else (-32768, 32767)

/-- The default source of window monitor m (R630). -/
def monitorSource (m : Nat) : Nat :=
  if m ≤ 7 then 0x30 + m / 2
  else [0x01, 0x02, 0x03, 0x14, 0x15, 0x16, 0x20, 0x21].getD (m - 8) 0

/-- The default source of housekeeping converter k (R630). -/
def converterSource (k : Nat) : Nat :=
  if k ≤ 6 then 0x10 + k else [0x01, 0x02, 0x03, 0x04, 0x07].getD (k - 7) 0

/-- The default that a row lists for a sub-index. -/
def EntryRow.default (r : EntryRow) (sub : Nat) : Nat := r.dflt.getD (sub - r.lo) (r.dflt.getLastD 0)

/-- The default of an entry whose default is no number of its table (R97, R98, R234, R390, R495, R592, R630). -/
def specialDefault (index sub : Nat) : Option Val :=
  if index = 0x1008 ∨ (index = 0x2000 ∧ sub = 1) then some (.bytes deviceName)
  else if index = 0x1009 then some (.bytes Config.hardwareVersion)
  else if index = 0x1018 ∧ sub = 3 then some (Val.ofNat Config.revision.toNat)
  else if index = 0x1018 ∧ sub = 4 then some (Val.ofNat (Config.uniqueId.toNat % 2 ^ 32))
  else if index = 0x2000 ∧ sub = 3 then some (Val.ofNat Config.dieRevisions.toNat)
  else if index = 0x2000 ∧ sub = 4 then some (Val.ofNat Config.uniqueId.toNat)
  else if index = 0x2800 ∧ sub = 1 then some (.bytes defaultSlotTable)
  else if 0x2202 ≤ index ∧ index ≤ 0x2232 ∧ index % 16 = 2 ∧ sub = 0x11 then some (Val.ofNat 65536)
  else if 0x290B ≤ index ∧ index ≤ 0x29FB ∧ index % 16 = 0xB ∧ 1 ≤ sub ∧ sub ≤ 16 then some (Val.ofNat (sub - 1))
  else if 0x2D00 ≤ index ∧ index ≤ 0x2D01 ∧ sub = 2 then some (Val.ofNat (Config.uniqueId.toNat % 2 ^ 48))
  else if 0x2E00 ≤ index ∧ index ≤ 0x2E0F ∧ sub = 2 then some (Val.ofNat (monitorSource (index - 0x2E00)))
  else if 0x2E00 ≤ index ∧ index ≤ 0x2E0F ∧ sub = 3 then
    some (Val.ofNat (bitsOf 16 (sourceRange (monitorSource (index - 0x2E00))).2))
  else if 0x2E00 ≤ index ∧ index ≤ 0x2E0F ∧ sub = 4 then
    some (Val.ofNat (bitsOf 16 (sourceRange (monitorSource (index - 0x2E00))).1))
  else if 0x2E40 ≤ index ∧ index ≤ 0x2E4B ∧ sub = 2 then some (Val.ofNat (converterSource (index - 0x2E40)))
  else none

/-- What an unlisted entry reads as: its default; an empty byte string where the table gives none. -/
def dictDefault (k : Nat) : Val :=
  match specialDefault (k / 256) (k % 256) with
  | some v => v
  | none =>
    match Dict.row (k / 256) (k % 256) with
    | some r => if r.ty.string then .bytes [] else Val.ofNat (r.default (k % 256))
    | none => Val.ofNat 0

/-- The width of entry index.sub (0 where there is none). -/
def entryWidth (index sub : Nat) : Nat :=
  match Dict.row index sub with
  | some r => r.ty.width
  | none => 0

/-- Whether entry index.sub is signed. -/
def entrySigned (index sub : Nat) : Bool :=
  match Dict.row index sub with
  | some r => r.ty.signed
  | none => false

/-- Whether a number lies in a row's range, read under its type (R52). -/
def EntryRow.admits (r : EntryRow) (v : Val) : Bool :=
  match v with
  | .bytes b => r.ty.string && (r.rng.isEmpty || r.rng.any (fun (lo, hi, st) =>
      decide (lo ≤ b.length) && decide ((b.length : Int) ≤ hi) && decide (((b.length : Int) - lo) % st = 0)))
  | .bits n =>
    let x : Int := if r.ty.signed then signedOf r.ty.width n.toNat else (n.toNat : Int)
    !r.ty.string && (r.rng.isEmpty || r.rng.any (fun (lo, hi, st) =>
      decide (lo ≤ x) && decide (x ≤ hi) && (decide (st ≤ 1) || decide ((x - lo) % st = 0))))

namespace Machine

/-! ### Outcomes -/

/-- A command's effect while the device is held in reset is none (R636). -/
def State.guarded (s : State) (f : State → State) : Out State :=
  if s.ctl.held then .next s else .next (f s)

/-- The same for a command whose operands the surroundings must bring in full. -/
def State.guardedWf (s : State) (ok : Bool) (f : State → State) : Out State :=
  if ok then s.guarded f else .fault .malformedOperands

/-- `f` where `c` holds, and no change where it does not. -/
def State.when (s : State) (c : Bool) (f : State → State) : State := if c then f s else s

/-! ### Reading and writing the store -/

/-- The stored value of entry index.sub. -/
def State.val (s : State) (index sub : Nat) : Val := Tab.get dictDefault s.od (keyOf index sub)

/-- Its number. -/
def State.num (s : State) (index sub : Nat) : Nat := (s.val index sub).nat

/-- Its number under a signed type. -/
def State.int (s : State) (index sub : Nat) : Int := signedOf (entryWidth index sub) (s.num index sub)

/-- The store with a value put at entry index.sub. -/
def State.putVal (s : State) (index sub : Nat) (v : Val) : State :=
  { s with od := Tab.set dictDefault s.od (keyOf index sub) v }

/-- The store with a number put at entry index.sub, modulo the entry's width. -/
def State.put (s : State) (index sub n : Nat) : State :=
  s.putVal index sub (Val.ofNat (n % 2 ^ entryWidth index sub))

/-- The store with a signed number put at entry index.sub. -/
def State.putInt (s : State) (index sub : Nat) (n : Int) : State :=
  s.putVal index sub (Val.ofNat (bitsOf (entryWidth index sub) n))

/-- A counter of the dictionary advanced by n, wrapping. -/
def State.bump (s : State) (index sub : Nat) (n : Nat := 1) : State := s.put index sub (s.num index sub + n)

/-! ### Snapshot groups that are updated at stated instants (R64) -/

/-- An entry of such a group as it stands now. -/
def State.liveNum (s : State) (index sub : Nat) : Nat := (Tab.get dictDefault s.live (keyOf index sub)).nat

/-- A number put at an entry of such a group; the group shows it from its next update on. -/
def State.putLive (s : State) (index sub n : Nat) : State :=
  { s with live := Tab.set dictDefault s.live (keyOf index sub) (Val.ofNat (n % 2 ^ entryWidth index sub)) }

/-- A counter of such a group advanced by n, wrapping. -/
def State.bumpLive (s : State) (index sub : Nat) (n : Nat := 1) : State := s.putLive index sub (s.liveNum index sub + n)

/-- A key of the group `index` other than that of its sequence counter. -/
def inGroup (index k : Nat) : Bool := k / 256 == index && k % 256 != 1

/-- An update of a group: its entries as they stand, and its sequence counter one on (R64). -/
def State.showGroup (s : State) (index : Nat) : State :=
  let others := s.od.filter (fun p => !inGroup index p.1)
  let now := s.live.filter (fun p => inGroup index p.1)
  State.bump { s with od := now.foldl (fun t p => Tab.put t p.1 p.2) others } index 1

/-- A state of such a group changes: the change itself is an update (R64; DEDUCED, log entry 12). -/
def State.showState (s : State) (index sub n : Nat) : State :=
  if s.liveNum index sub = n then s else (s.putLive index sub n).showGroup index

/-! ### The configuration of a pour -/

/-- The value of a key in the newest of these pours that changes it. -/
def pourValue (pours : List Pour) (k : Nat) : Option Val :=
  pours.findSome? (fun p => (p.delta.find? (fun kv => kv.1 == k)).map Prod.snd)

/-- The value of an RWC entry in the configuration of a pour: pour 0 names the default configuration (R77). -/
def cfgVal (pours : List Pour) (pour : U32) (k : Nat) : Val :=
  if pour = 0 then dictDefault k
  else (pourValue (pours.dropWhile (fun p => p.number != pour)) k).getD (dictDefault k)

/-- The value of an RWC entry in the configuration of a pour. -/
def State.cfg (s : State) (pour : U32) (index sub : Nat) : Nat := (cfgVal s.ctl.pours pour (keyOf index sub)).nat

/-- The same, signed. -/
def State.cfgInt (s : State) (pour : U32) (index sub : Nat) : Int :=
  signedOf (entryWidth index sub) (s.cfg pour index sub)

/-- The same, of a byte string. -/
def State.cfgData (s : State) (pour : U32) (index sub : Nat) : List Byte :=
  (cfgVal s.ctl.pours pour (keyOf index sub)).data

/-- The value of an RWC entry in the current pour (R85). -/
def State.cur (s : State) (index sub : Nat) : Nat := s.cfg s.ctl.currentPour index sub

/-- The value of an RWP entry as the last PREOP→SAFEOP applied it (R51). -/
def State.app (s : State) (index sub : Nat) : Nat := (Tab.get dictDefault s.ctl.applied (keyOf index sub)).nat

/-- The same, signed. -/
def State.appInt (s : State) (index sub : Nat) : Int := signedOf (entryWidth index sub) (s.app index sub)

end Machine

/-- A block's number among the pours that blocks have in force. -/
def BlockId.number : BlockId → Nat
  | .conditioner c => c
  | .ddc c k => 16 + 8 * c.val + k.val
  | .main c => 64 + c.val
  | .cross => 68
  | .side c .density => 72 + c.val
  | .side c .trigger => 76 + c.val
  | .trig u => 80 + u.val
  | .density c => 96 + c.val
  | .reduction c r => 100 + 6 * c.val + r.val
  | .envelope c g => 128 + 2 * c.val + g.val
  | .capture c => 136 + c.val
  | .tiInput n => 144 + n.val
  | .tiGate => 152
  | .mu u => 156 + u.val
  | .runners => 160
  | .store => 161
  | .slotTable => 162
  | .clocks => 163
  | .health => 164
  | .net t => 168 + t.val
  | .ladle l => 256 + l.val

namespace Machine

/-- The pour that a block has in force (R24). -/
def State.pourOf (s : State) (b : BlockId) : U32 := Tab.get (fun _ => 0) s.ctl.blockPour b.number

/-- An RWC entry in the configuration that a block has in force. -/
def State.bcfg (s : State) (b : BlockId) (index sub : Nat) : Nat := s.cfg (s.pourOf b) index sub

/-- The same, signed. -/
def State.bcfgInt (s : State) (b : BlockId) (index sub : Nat) : Int := s.cfgInt (s.pourOf b) index sub

/-- The pour that a block takes into force. -/
def State.setPour (s : State) (b : BlockId) (p : U32) : State :=
  { s with ctl := { s.ctl with blockPour := Tab.set (fun _ => 0) s.ctl.blockPour b.number p } }

/-- The pour number above another one, modulo 2^32 and skipping 0 (R77). -/
def pourAfter (p : U32) : U32 := if p + 1 = 0 then 1 else p + 1

/-! ### Time -/

/-- T96 now (R130, R131). -/
def State.now (s : State) : T96 := BitVec.ofNat 96 (s.ctl.time.toNat / 2 ^ 32)

/-- At least `ns` nanoseconds have passed since t. -/
def State.elapsed (s : State) (t : T96) (ns : Nat) : Bool := decide ((nsToT96 ns : Int) ≤ t96Diff s.now t)

/-- The time state of 0x2120.02: 0 INVALID, 1 ACQUIRING, 2 VALID, 3 HOLDOVER (R132). -/
def State.timeState (s : State) : Nat := s.num 0x2120 2

/-- The device is in SAFEOP or OP (R41). -/
def DevState.runs : DevState → Bool
  | .safeop | .op => true
  | _ => false

/-- The divider of channel c's sample clock (R106). -/
def State.divider (s : State) (c : Nat) : Nat := s.app (0x2181 + 16 * c) 1

/-- Channel c was enabled at the last PREOP→SAFEOP. -/
def State.enabled (s : State) (c : Nat) : Bool := s.app (0x2200 + 16 * c) 1 != 0

/-! ### Outputs and free values -/

/-- The block gives `o` to its surroundings. -/
def State.emit (s : State) (o : Output) : State := { s with out := o :: s.out }

/-- An MSI-X vector is signalled: a masked vector sets its pending bit (R588); 0xFFFF names none (R501). -/
def State.signal (s : State) (vector : Nat) : State :=
  if vector = 0xFFFF then s
  else if !Tab.get (fun _ => false) s.dma.unmasked vector then
    { s with dma := { s.dma with msixPending := Tab.set (fun _ => false) s.dma.msixPending vector true } }
  else s.emit (.msix vector)

/-- The next free value is drawn. -/
def State.drew (s : State) : State := { s with ctl := { s.ctl with drawn := s.ctl.drawn + 1 } }

/-- The free value that the next draw gives. -/
def State.fresh (s : State) : Nat := Config.freeValue s.ctl.drawn

/-! ### Memory -/

/-- What a byte of HBM that nothing has written reads as (R639). -/
def memDefault (_ : Nat) : Byte := 0

/-- Bytes of HBM: 786,432 stripes of 128 KiB (R349). -/
def hbmBytes : Nat := 786432 * 131072

/-- First address of the corner-turn region, which ends with HBM (R350). -/
def cornerTurnBase : Nat := 0x17E0000000

/-- One byte of HBM. -/
def State.byteAt (s : State) (a : Nat) : Byte := Tab.get memDefault s.mem a

/-- `n` bytes of HBM from an address. -/
def State.load (s : State) (a n : Nat) : List Byte := (List.range n).map (fun i => s.byteAt (a + i))

/-- Memory with bytes written from an address. -/
def storeBytes (m : Tab Byte) (a : Nat) : List Byte → Tab Byte
  | [] => m
  | b :: bs => storeBytes (Tab.set memDefault m a b) (a + 1) bs

/-- HBM with bytes written from an address. -/
def State.store (s : State) (a : Nat) (bs : List Byte) : State := { s with mem := storeBytes s.mem a bs }

/-- The active slot table; the default one before the first cycle (R376). -/
def State.slotTable (s : State) : List Nat :=
  if s.hbm.table.isEmpty then (List.range 1024).map (fun i => (defaultSlot i).toNat) else s.hbm.table

/-- The image of the active slot table, which a read of 0x2800.01 returns (R375, R376). -/
def State.slotTableImage (s : State) : List Byte :=
  let codes := s.slotTable.map (BitVec.ofNat 8)
  leBytes 4 codes.length ++ leBytes 4 (crc32c codes).toNat ++ codes

/-- What the check bits of an SRAM word showed is counted (R392, R393). -/
def State.sramRead (s : State) (e : Ecc) : State :=
  match e with
  | .corrected => s.bumpLive 0x2810 2
  | .uncorrectable => s.bumpLive 0x2810 3
  | .clean | .onDie => s

/-! ### Access errors -/

end Machine

/-- A requester as 0x2002.04 codes it (R98). -/
def Requester.code : Requester → Nat
  | .host => 1
  | .ecat => 2
  | .cluster g => 16 + g.val

/-- A master as a requester. -/
def Master.requester : Master → Requester
  | .ecat => .ecat
  | .host => .host

namespace Machine

/-- A refused access recorded in 0x2002.01-.04 (R60, R98). -/
def State.accessError (s : State) (r : Requester) (code entry : Nat) : State :=
  (((s.bump 0x2002 1).put 0x2002 2 code).put 0x2002 3 entry).put 0x2002 4 r.code

/-- A refused access: it is recorded in 0x2002, whose .04 names every kind of requester, and the EtherCAT master also gets the
abort code (R51, R60, R98). -/
def State.refuse (s : State) (r : Requester) (code : Nat) (k : Nat) : State :=
  let s := s.accessError r code k
  match r with
  | .ecat => s.emit (.abort r.code code)
  | _ => s

/-- Why a requester may write no entry but those that R41 lists: a ladle cluster writes only its result words (R39, R425), and
INIT and BOOT take no write (R41, R51). -/
def State.writeBar (s : State) (r : Requester) : Option Nat :=
  match r with
  | .cluster _ => some 0x06010002
  | _ => if s.ctl.dev = .init ∨ s.ctl.dev = .boot then some 0x08000022 else none

/-- A write of a requester to entry k in service, or its refusal. -/
def State.mayWrite (s : State) (r : Requester) (k : Nat) (f : State → State) : State :=
  match s.writeBar r with
  | some code => s.refuse r code k
  | none => f s

/-- A state request refused: AL status to EtherCAT, an access error to the host (R38, R42, R43). -/
def State.refuseState (s : State) (m : Master) (al host : Nat) : State :=
  match m with
  | .ecat => (s.put 0x2001 5 al).emit (.alStatus s.ctl.dev.code al)
  | .host => s.accessError .host host (keyOf 0x2001 2)

/-! ### The journal and emergency messages (R87-R90, R623-R625) -/

/-- What an event reports: the fields of its journal entries, its emergency code (0: none) and the runners it affects, each
with its first and last affected sequence. -/
structure Report where
  severity : Nat
  subsys   : Nat
  kind     : Nat
  cls      : Nat := 0xFF
  element  : Nat := 0
  runners  : List (Nat × Nat × Nat) := []
  first    : Nat := 0
  last     : Nat := 0
  count    : Nat := 0
  notes    : Nat := 0
  detail   : Nat := 0
  code     : Nat := 0xFF00

/-- The bytes of a journal entry (R623). -/
def JEntry.image (e : JEntry) : List Byte :=
  let body := leBytes 8 e.number.toNat ++ leBytes 12 e.time.toNat ++ leBytes 1 e.severity ++ leBytes 1 e.subsys
    ++ leBytes 1 e.kind ++ leBytes 1 e.cls ++ leBytes 8 e.element ++ leBytes 2 e.runner ++ leBytes 2 e.entries
    ++ leBytes 8 e.first ++ leBytes 8 e.last ++ leBytes 4 e.event ++ leBytes 1 e.count ++ leBytes 1 e.notes
    ++ leBytes 2 e.detail
  body ++ leBytes 4 (crc32c body).toNat

/-- The bit of the error register that an error code stands for, beside the generic bit (R88, R89; DESIGN CHOICE, log entry 44:
R88 names the bits and not the events that set them; no code stands for bit 1). -/
def errorBit (code : Nat) : Nat :=
  if code = 0x3000 then 4 else if code = 0x4000 then 8 else if code = 0x8100 then 16 else 128

/-- An emergency message to both masters (R87-R90): the error register takes its bits, and a full queue loses the message. -/
def State.emergency (s : State) (code subsys entry : Nat) : State :=
  let er := s.num 0x1001 0 ||| (1 ||| errorBit code)
  let s := s.put 0x1001 0 er
  let m : U64 := BitVec.ofNat 64 (code + 2 ^ 16 * er + 2 ^ 24 * subsys + 2 ^ 32 * entry)
  let s :=
    if s.ctl.dev = .init ∨ s.ctl.dev = .boot then s
    else if s.ctl.ecatEmg.length < 16 then { s with ctl := { s.ctl with ecatEmg := s.ctl.ecatEmg ++ [m] } }
    else s.bump 0x2083 4
  if s.ctl.hostEmg.length < 64 then State.signal { s with ctl := { s.ctl with hostEmg := s.ctl.hostEmg ++ [m] } } 2
  else s.bump 0x2083 3

/-- Counts of the fault clock in a microsecond (R620). -/
def microCount : Nat := 1600

/-- One entry written to the journal (R624), and to the non-volatile area where that is required. -/
def State.journalEntry (s : State) (e : JEntry) (code : Nat) : State :=
  let nv := decide (3 ≤ e.severity) || e.kind == 2 || e.kind == 3 || e.kind == 8 || e.cls == 8
  let n := s.flt.written + 1
  let e := { e with number := BitVec.ofNat 64 (s.flt.bootCount * 2 ^ 32 + n % 2 ^ 32),
                    notes := if nv then e.notes ||| 2 else e.notes }
  let s := { s with flt := { s.flt with
    written := n
    journal := (e :: s.flt.journal).take 65536
    nv := if nv then (e :: s.flt.nv).take 15360 else s.flt.nv } }
  if 2 ≤ e.severity then s.emergency code e.subsys (n % 2 ^ 32) else s

/-- The entries of one event, one for each runner it affects, under one event number (R625). -/
def State.report (s : State) (r : Report) : State :=
  let ev := s.flt.events + 1
  let s := { s with flt := { s.flt with events := ev } }
  let rs := if r.runners.isEmpty then [(0xFFFF, r.first, r.last)] else r.runners
  rs.foldl (fun s (rn, f, l) => s.journalEntry
    { number := 0, time := s.now, severity := r.severity, subsys := r.subsys, kind := r.kind, cls := r.cls,
      element := r.element, runner := rn, entries := rs.length, first := f, last := l, event := ev, count := r.count,
      notes := r.notes, detail := r.detail } r.code) s

end Machine
end Sys2Proof
end

