-- ==== Sys2Proof/Machine/Records.lean ====
section
/-! DEFINITION. Record runners: what a producer writes, when it drops, and the gap records (R17-R29, R496-R508). -/

namespace Sys2Proof.Machine

/-! ### Pours and flags of what a unit carries -/

/-- Whether pour a is older than pour b (R78). -/
def older (a b : U32) : Bool :=
  let d := (b - a).toNat
  decide (1 ≤ d) && decide (d ≤ 2 ^ 31 - 1)

/-- The older of two pours (R78). -/
def oldestPour (a b : U32) : U32 := if older b a then b else a

/-- A unit that takes in a token of a pour with flags (R28, R29). -/
def Mark.take (m : Mark) (flags : Nat) (pour : U32) (mixed : Bool) : Mark :=
  match m.pour with
  | none => { m with flags := m.flags ||| flags, pour := some pour, mixed := m.mixed || mixed }
  | some p => { m with flags := m.flags ||| flags, pour := some (oldestPour p pour), mixed := m.mixed || mixed || p != pour }

/-- The numbers of T96 steps before the samples of two units together (R137). -/
def joinSteps : Option (Nat × Nat) → Option (Nat × Nat) → Option (Nat × Nat)
  | none, b => b
  | a, none => a
  | some (a, b), some (c, d) => some (min a c, max b d)

/-- A unit that takes in another unit. -/
def Mark.join (m n : Mark) : Mark :=
  let k := match n.pour with
    | none => { m with flags := m.flags ||| n.flags, mixed := m.mixed || n.mixed }
    | some p => m.take n.flags p n.mixed
  { k with steps := joinSteps m.steps n.steps }

/-- The header flags that a unit brings, the time-step flag where its input spans a step (R137, R505). -/
def Mark.bits (m : Mark) : Nat := m.flags ||| (if (m.steps.map (fun (a : Nat × Nat) => a.1 != a.2)).getD false then 64 else 0)

/-- The pour that an output of a block carries (R28). -/
def Mark.outPour (m : Mark) (cfg : U32) : U32 :=
  match m.pour with
  | none => cfg
  | some p => oldestPour p cfg

/-- Whether it carries the pour-mixed flag (R29). -/
def Mark.outMixed (m : Mark) (cfg : U32) : Bool :=
  match m.pour with
  | none => m.mixed
  | some p => m.mixed || p != cfg

/-- The unit as it leaves a block: its tokens carry the output's pour. -/
def Mark.through (m : Mark) (cfg : U32) : Mark :=
  { m with pour := some (m.outPour cfg), mixed := m.outMixed cfg }

/-! ### Records -/

/-- A record that a producer offers: its header fields, its payload and the end of its input. -/
structure Rec where
  typ     : Nat
  chan    : Nat
  source  : Nat
  prog    : Nat
  time    : T96
  stop    : T96
  fields  : List Byte
  payload : List Byte
  mark    : Mark
  cfgPour : U32

/-- `bs` with zero bytes up to length n, and no longer than n. -/
def padTo (n : Nat) (bs : List Byte) : List Byte := (bs ++ List.replicate (n - bs.length) 0).take n

/-- The header's first 60 bytes (R504). -/
def headerBytes (typ runner len seq pour : Nat) (time : T96) (chan source prog flags : Nat) (fields : List Byte) :
    List Byte :=
  leBytes 1 typ ++ leBytes 1 1 ++ leBytes 2 runner ++ leBytes 4 len ++ leBytes 8 seq ++ leBytes 4 pour
    ++ leBytes 12 time.toNat ++ leBytes 1 chan ++ leBytes 1 source ++ leBytes 2 prog ++ leBytes 4 flags ++ padTo 20 fields

/-- A whole record: header, CRC over header and payload, payload (R504). -/
def sealRecord (header payload : List Byte) : List Byte :=
  header ++ leBytes 4 (crc32c (header ++ payload)).toNat ++ payload

/-- The header flags of a record (R505). -/
def Rec.flags (r : Rec) (resumed : Bool) : Nat :=
  r.mark.bits ||| (if r.mark.outMixed r.cfgPour then 16 else 0) ||| (if resumed then 32 else 0)

/-- The bytes of a record in a runner. -/
def Rec.bytes (r : Rec) (runner seq : Nat) (resumed : Bool) : List Byte :=
  sealRecord (headerBytes r.typ runner (64 + r.payload.length) seq (r.mark.outPour r.cfgPour).toNat r.time r.chan r.source
    r.prog (r.flags resumed) r.fields) r.payload

/-- The bytes of a gap record (R508). -/
def gapBytes (runner seq first : Nat) (span : GapSpan) (chan : Nat) (pour : U32) : List Byte :=
  sealRecord (headerBytes 0x01 runner 64 seq pour.toNat span.start chan span.cause 0 0
    (leBytes 8 first ++ leBytes 4 (min (seq - first) 0xFFFFFFFF)
      ++ leBytes 8 (span.stop.toNat - span.start.toNat))) []

/-! ### Runners -/

/-- A runner by its number. -/
def State.runner (s : State) (n : Nat) : Runner := Tab.get (fun _ => Runner.none) s.dma.runners n

/-- The runner put in its place; the queried runner's snapshot group counts the update (R64, R534). -/
def State.setRunner (s : State) (n : Nat) (r : Runner) : State :=
  let s := { s with dma := { s.dma with runners := Tab.set (fun _ => Runner.none) s.dma.runners n r } }
  if s.num 0x2B03 1 = n then s.bump 0x2B04 1 else s

/-- The runner changed by `f`. -/
def State.modRunner (s : State) (n : Nat) (f : Runner → Runner) : State := s.setRunner n (f (s.runner n))

/-- Slots of a ring: 2^e (R497). -/
def Runner.slots (r : Runner) : Nat := 2 ^ r.e

/-- Bytes of a slot: 2^z (R497). -/
def Runner.slotBytes (r : Runner) : Nat := 2 ^ r.z

/-- The runner is full: W − Rd = S (R498). -/
def Runner.full (r : Runner) : Bool := decide ((r.w - r.rd).toNat = r.slots)

/-- Address of slot i (R497). -/
def Runner.slotAddr (r : Runner) (i : U32) : Nat := r.base + (i.toNat % r.slots) * r.slotBytes

/-- A staging burst for each 2 KiB granule of a write or read of a runner (R374, R513). -/
def State.queueBursts (s : State) (owner cls addr len : Nat) (write : Bool) : State :=
  let n := (addr % 2048 + len + 2047) / 2048
  let bs := (List.range n).map (fun i =>
    let lo := max addr ((addr / 2048 + i) * 2048)
    let hi := min (addr + len) ((addr / 2048 + i + 1) * 2048)
    { owner := owner, cls := cls, chan := lo / 2 ^ 11 % 64, addr := lo, beats := (hi - lo + 63) / 64, born := s.now,
      write := write : Burst })
  { s with hbm := { s.hbm with queue := s.hbm.queue ++ bs } }

/-- A record's bytes in the next slot; W advances, and the record has its sequence number (R498, R20). -/
def State.writeSlot (s : State) (n : Nat) (bytes : List Byte) : State :=
  let r := s.runner n
  let s := (s.store (r.slotAddr r.w) bytes).queueBursts (0x11 + r.group) 1 (r.slotAddr r.w) bytes.length true
  s.setRunner n { r with w := r.w + 1, nextSeq := r.nextSeq + 1 }

/-- The gap record of dropped records takes the first free slot (R22). -/
def State.flushDropped (s : State) (n : Nat) : State :=
  let r := s.runner n
  match r.dropped with
  | none => s
  | some d =>
    if r.full then s
    else
      let s := s.writeSlot n (gapBytes n r.nextSeq.toNat d.first.toNat d.span r.chanByte r.cfgPour)
      s.modRunner n (fun r => { r with dropped := none, gaps := r.gaps + 1 })

/-- The gap record of a stop that is over (R23). -/
def State.flushStop (s : State) (n : Nat) : State :=
  let r := s.runner n
  match r.stopGap with
  | none => s
  | some g =>
    if r.full then s
    else
      let s := s.writeSlot n (gapBytes n r.nextSeq.toNat r.nextSeq.toNat g r.chanByte r.cfgPour)
      s.modRunner n (fun r => { r with stopGap := none, gaps := r.gaps + 1 })

/-- A record that finds its runner full is dropped: it consumes its sequence number and is counted (R18, R20). Records missing for
several causes before one gap record are reported under the cause of the first (R21; DESIGN CHOICE, log entry 38). -/
def Runner.drop (r : Runner) (start stop : T96) (cause : Nat) : Runner :=
  { r with
    drops := r.drops + 1
    nextSeq := r.nextSeq + 1
    dropped := match r.dropped with
      | .none => some { first := r.nextSeq, span := { start := start, stop := stop, cause := cause } }
      | some d => some { d with span := { d.span with stop := stop } } }

/-- A record that its producer did not produce: it consumes its sequence number, and a gap record of that cause reports it
(R261, R272, R275, R337). -/
def Runner.miss (r : Runner) (start stop : T96) (cause : Nat) : Runner :=
  { r.drop start stop cause with drops := r.drops }

/-- Whether a number names a record runner. -/
def State.isRecordRunner (s : State) (n : Nat) : Bool := decide (n < 65536) && (s.runner n).kind == 1

/-- A real-time producer writes a record into runner n, or drops it when the runner is full (R17-R23). A number that names
no record runner takes nothing. -/
def State.publish (s : State) (n : Nat) (r : Rec) : State :=
  if s.isRecordRunner n then
    let s := s.modRunner n (fun q => { q with chanByte := if 0x80 ≤ r.typ then 255 else r.chan, cfgPour := r.cfgPour })
    let s := (s.flushDropped n).flushStop n
    let q := s.runner n
    if q.full || q.dropped.isSome || q.stopGap.isSome then s.setRunner n (q.drop r.time r.stop 1)
    else
      let s := s.writeSlot n (r.bytes n q.nextSeq.toNat q.resumed)
      s.modRunner n (fun q => { q with resumed := false })
  else s

/-- Runner n misses a record of its producer. -/
def State.missRecord (s : State) (n : Nat) (start stop : T96) (cause : Nat) : State :=
  if s.isRecordRunner n then (s.modRunner n (fun q => q.miss start stop cause)).flushDropped n else s

/-- The next record of each of these runners carries the resumed flag (R276, R429). -/
def State.markResumed (s : State) (ns : List Nat) : State :=
  ns.foldl (fun s n => if s.isRecordRunner n then s.modRunner n (fun q => { q with resumed := true }) else s) s

/-- Whether the next record that a producer writes into runner n enters it. -/
def State.runnerTakes (s : State) (n : Nat) : Bool :=
  let s := (s.flushDropped n).flushStop n
  let q := s.runner n
  !(q.full || q.dropped.isSome || q.stopGap.isSome)

/-- The producer of runner n stops for a cause; a stop that begins before the last one is reported joins it and keeps its
cause (R23). -/
def Runner.stopAt (r : Runner) (t : T96) (cause : Nat) (fault : Bool) : Runner :=
  match r.stopped, r.stopGap with
  | some _, _ => { r with faultStop := r.faultStop || fault }
  | .none, some g => { r with stopped := some g, stopGap := .none, faultStop := r.faultStop || fault }
  | .none, .none => { r with stopped := some { start := t, stop := t, cause := cause }, faultStop := r.faultStop || fault }

/-- The producer of runner n restarts (R23). -/
def Runner.restartAt (r : Runner) (t : T96) : Runner :=
  match r.stopped with
  | .none => r
  | some g => { r with stopped := .none, stopGap := some { g with stop := t }, resumed := r.resumed || r.faultStop,
                       faultStop := false }

/-- The same for a list of runners. -/
def State.stopRunners (s : State) (ns : List Nat) (t : T96) (cause : Nat) (fault : Bool) : State :=
  ns.foldl (fun s n => if s.isRecordRunner n then s.modRunner n (fun r => r.stopAt t cause fault) else s) s

/-- The same for a list of runners. -/
def State.restartRunners (s : State) (ns : List Nat) (t : T96) : State :=
  ns.foldl (fun s n => if s.isRecordRunner n then s.modRunner n (fun r => r.restartAt t) else s) s

/-- A stop in force that a state change takes over writes no gap record (R45). -/
def State.absorbStops (s : State) (ns : List Nat) : State :=
  ns.foldl (fun s n => if s.isRecordRunner n then
    s.modRunner n (fun r => { r with stopped := none, faultStop := false }) else s) s

/-- A record that a producer could not form for want of input, between two instants: the producer stops and restarts
(R14, R23). -/
def State.gapRunners (s : State) (ns : List Nat) (t0 t1 : T96) (cause : Nat) (fault : Bool) : State :=
  (s.stopRunners ns t0 cause fault).restartRunners ns t1

/-- The slot of Rd is free again: Rd advances, and the space takes the gap record that waits for it (R22, R498). -/
def State.freeSlot (s : State) (n : Nat) : State :=
  (s.modRunner n (fun r => { r with rd := r.rd + 1 })).flushDropped n

/-- The record in the slot of Rd: its Length bytes. -/
def State.frontRecord (s : State) (n : Nat) : List Byte :=
  let r := s.runner n
  let a := r.slotAddr r.rd
  s.load a (field (s.load (a + 4) 4) 0 4)

end Sys2Proof.Machine
end

