-- ==== Sys2Proof/Machine/Faults.lean ====
section
/-! DEFINITION. Fault counting (R620-R624): an event in its element's window, and what the journal says of it. -/

namespace Sys2Proof

/-- The number of a fault class (R621). -/
def FaultClass.code : FaultClass → Nat
  | .slice => 0 | .comparator => 1 | .tone => 2 | .lane => 3 | .synth => 4 | .interpolator => 5 | .ladle => 6
  | .engine => 7 | .hbmRow => 8 | .drive => 9 | .sentinel => 10

/-- The subsystem that reports a class (R88, R621). -/
def FaultClass.subsystem : FaultClass → Nat
  | .slice => 2 | .comparator => 1 | .tone => 2 | .lane => 7 | .synth => 3 | .interpolator => 5 | .ladle => 14
  | .engine => 15 | .hbmRow => 12 | .drive => 16 | .sentinel => 20

namespace Machine

/-- The key of an element among the windows. -/
def faultKey (cls : FaultClass) (element : Nat) : Nat := cls.code * 2 ^ 64 + element % 2 ^ 64

/-- An element that has no window open. -/
def FaultWin.closed : FaultWin := { start := 0, count := 0, n := 1, w := 0 }

/-- The fault clock in sixteenths of a crystal period for W milliseconds: 100,000 periods a millisecond (R620). -/
def faultTicks (ms : Nat) : Nat := ms * 100000 * 16

/-- An event counted: the window after it, its count, and whether it declares the element lasting (R620). The parameters are
those of the entries when the window opened. -/
def countWindow (w : FaultWin) (now n len : Nat) : FaultWin × Nat × Bool :=
  let w := if w.count = 0 ∨ w.start + w.w ≤ now then { start := now, count := 0, n := n, w := len } else w
  let c := w.count + 1
  if w.n ≤ c then (FaultWin.closed, c, true) else ({ w with count := c }, c, false)

/-- Whether an element has been declared lasting. -/
def State.isLasting (s : State) (cls : FaultClass) (element : Nat) : Bool :=
  Tab.get (fun _ => false) s.flt.lasting (faultKey cls element)

/-- A fault event of an element: its count, and whether it is lasting (R620, R631). -/
def State.countFault (s : State) (cls : FaultClass) (element : Nat) : State × Nat × Bool :=
  let k := faultKey cls element
  let (w, c, lasting) := countWindow (Tab.get (fun _ => FaultWin.closed) s.flt.windows k) s.ctl.crystalCount
    (s.num (0x3010 + cls.code) 1) (faultTicks (s.num (0x3010 + cls.code) 2))
  let s := { s with flt := { s.flt with
    windows := Tab.set (fun _ => FaultWin.closed) s.flt.windows k w
    lasting := if lasting then Tab.set (fun _ => false) s.flt.lasting k true else s.flt.lasting } }
  let s := s.bump (0x3010 + cls.code) 3
  (if lasting then s.bump (0x3010 + cls.code) 4 else s, c, lasting)

/-- The journal entry of a fault event (R621-R624): kind 1 transient, 2 lasting with a spare, 3 lasting without one. A
transient event is a notice; a lasting one an error with emergency 0x5000 (R89). -/
def State.journalFault (s : State) (cls : FaultClass) (element count : Nat) (lasting spare : Bool)
    (runners : List (Nat × Nat × Nat) := []) (first last : Nat := 0) : State :=
  s.report { severity := if lasting then 3 else 1, subsys := cls.subsystem,
             kind := if lasting then (if spare then 2 else 3) else 1, cls := cls.code, element := element,
             runners := runners, first := first, last := last, count := count, notes := if lasting && !spare then 1 else 0, code := 0x5000 }

end Machine
end Sys2Proof
end

