-- ==== Sys2Proof/Machine/Producers.lean ====
section
/-! DEFINITION. Which runners the blocks of a configuration name, block by block (R499, R500, R673). -/

namespace Sys2Proof.Machine

/-- A runner reference of a configuration; 0xFFFF_FFFF names none. -/
def State.cfgRunner (s : State) (p : U32) (index sub : Nat) : List Nat :=
  let n := s.cfg p index sub
  if n = 0xFFFFFFFF then [] else [n]

/-- The same where a block is on. -/
def onlyIf (c : Bool) (l : List Nat) : List Nat := if c then l else []

/-- A flag of a configuration. -/
def State.cfgOn (s : State) (p : U32) (index sub : Nat) : Bool := s.cfg p index sub != 0

/-- The pairs of channels of the cross-power unit, in bit order of 0x2480.01 (R269). -/
def crossPairs : List (Nat × Nat) := [(0, 1), (2, 3), (0, 2), (0, 3), (1, 2), (1, 3)]

/-- The six pairs' numbers, and other small ranges. -/
def upTo (n : Nat) : List Nat := List.range n

/-- DDC k's runners of channel c. -/
def State.ddcRunners (s : State) (p : U32) (c k : Nat) : List Nat :=
  let i := 0x2300 + 16 * c + k
  onlyIf (s.cfgOn p i 1) (s.cfgRunner p i 0x0D ++ onlyIf (s.cfgOn p i 0x0E) (s.cfgRunner p i 0x12))

/-- The main transform's runner, the auto product's and the cross products' of channel c. -/
def State.mainRunners (s : State) (p : U32) (c : Nat) : List Nat :=
  onlyIf (s.cfgOn p (0x2400 + 16 * c) 1) (s.cfgRunner p (0x2400 + 16 * c) 0x0D)

/-- The auto product's runner of channel c. -/
def State.autoRunners (s : State) (p : U32) (c : Nat) : List Nat :=
  onlyIf ((s.cfg p 0x2480 2).testBit c) (s.cfgRunner p 0x2480 (0x0A + c))

/-- The cross products' runners that channel c takes part in. -/
def State.crossRunners (s : State) (p : U32) (c : Nat) : List Nat :=
  (crossPairs.zipIdx).flatMap (fun ((a, b), i) =>
    onlyIf ((s.cfg p 0x2480 1).testBit i && (a == c || b == c)) (s.cfgRunner p 0x2480 (4 + i)))

/-- The decision runner of unit u of channel c. -/
def State.trigRunners (s : State) (p : U32) (c u : Nat) : List Nat :=
  let i := 0x2500 + 16 * c + u
  onlyIf (s.cfgOn p i 1 && (s.cfg p i 0x19).testBit 1) (s.cfgRunner p i 0x1A)

/-- The density runner of channel c. -/
def State.densityRunners (s : State) (p : U32) (c : Nat) : List Nat :=
  onlyIf (s.cfgOn p (0x2600 + 16 * c) 1) (s.cfgRunner p (0x2600 + 16 * c) 0x0C)

/-- The runner of reduction slot r of channel c. -/
def State.slotRunners (s : State) (p : U32) (c r : Nat) : List Nat :=
  onlyIf (s.cfgOn p (0x2602 + 16 * c + r) 1) (s.cfgRunner p (0x2602 + 16 * c + r) 9)

/-- The runner of envelope generator g of channel c. -/
def State.envRunners (s : State) (p : U32) (c g : Nat) : List Nat :=
  onlyIf (s.cfgOn p (0x2609 + 16 * c) (1 + 4 * g)) (s.cfgRunner p (0x2609 + 16 * c) (4 + 4 * g))

/-- The notice runner of channel c. -/
def State.noticeRunners (s : State) (p : U32) (c : Nat) : List Nat :=
  onlyIf (s.cfgOn p (0x2700 + 16 * c) 1) (s.cfgRunner p (0x2700 + 16 * c) 0x0A)

/-- The stamp runner of input n. -/
def State.stampRunners (s : State) (p : U32) (n : Nat) : List Nat :=
  onlyIf (s.cfgOn p (0x2A00 + 16 * n) 1) (s.cfgRunner p (0x2A00 + 16 * n) 8)

/-- The gate runner. -/
def State.gateRunners (s : State) (p : U32) : List Nat := onlyIf (s.cfgOn p 0x2A80 1) (s.cfgRunner p 0x2A80 7)

/-- The runners of measurement unit u. -/
def State.muRunners (s : State) (p : U32) (u : Nat) : List Nat :=
  onlyIf (s.cfgOn p (0x2A90 + u) 1) (s.cfgRunner p (0x2A90 + u) 8 ++ s.cfgRunner p (0x2A90 + u) 9)

/-- The publish-slot runners of ladle l. -/
def State.pubRunners (s : State) (p : U32) (l : Nat) : List Nat :=
  (upTo 8).flatMap (fun k => s.cfgRunner p (0x2907 + 16 * (l / 16)) (8 * (l % 16) + k + 1))

/-- Every runner of the blocks that channel c feeds, but the units that capture and time only. -/
def State.channelRunners (s : State) (p : U32) (c : Nat) : List Nat :=
  s.cfgRunner p (0x2200 + 16 * c) 8 ++ (upTo 8).flatMap (s.ddcRunners p c) ++ s.mainRunners p c ++ s.autoRunners p c
    ++ s.crossRunners p c ++ (upTo 4).flatMap (s.trigRunners p c) ++ s.densityRunners p c
    ++ (upTo 6).flatMap (s.slotRunners p c) ++ (upTo 2).flatMap (s.envRunners p c) ++ s.noticeRunners p c

/-- Every runner of the time-interval unit. -/
def State.tiuRunners (s : State) (p : U32) : List Nat :=
  (upTo 8).flatMap (s.stampRunners p) ++ s.gateRunners p ++ (upTo 4).flatMap (s.muRunners p)

/-- The runners that block b writes under a pour, with the channel that its records carry, 255 for none (R499, R506, R508). -/
def State.blockRunners (s : State) (b : BlockId) (p : U32) : List (Nat × Nat) :=
  let on (c : Nat) (l : List Nat) := l.map (fun n => (c, n))
  match b with
  | .conditioner c => on c (s.cfgRunner p (0x2200 + 16 * c) 8)
  | .ddc c k => on c (s.ddcRunners p c k)
  | .main c => on c (s.mainRunners p c)
  | .cross => (upTo 4).flatMap (fun c => on c (s.autoRunners p c)) ++ (crossPairs.zipIdx).flatMap (fun ((a, _), i) =>
      on a (onlyIf ((s.cfg p 0x2480 1).testBit i) (s.cfgRunner p 0x2480 (4 + i))))
  | .trig u => on (u / 4) (s.trigRunners p (u / 4) (u % 4))
  | .density c => on c (s.densityRunners p c)
  | .reduction c r => on c (s.slotRunners p c r)
  | .envelope c g => on c (s.envRunners p c g)
  | .capture c => on c (s.noticeRunners p c)
  | .tiInput n => on 255 (s.stampRunners p n)
  | .tiGate => on 255 (s.gateRunners p)
  | .mu u => on 255 (s.muRunners p u)
  | .ladle l => on 255 (s.pubRunners p l)
  | .side _ _ | .runners | .store | .net _ | .slotTable | .clocks | .health => []

/-- Block b has taken its pour: the gap records of its runners carry it, and the channel of its records (R508). -/
def State.noteWriter (s : State) (b : BlockId) : State :=
  let p := s.pourOf b
  (s.blockRunners b p).foldl (fun s (c, n) =>
    if s.isRecordRunner n then
      { s with dma := { s.dma with
        runners := Tab.set (fun _ => Runner.none) s.dma.runners n { s.runner n with chanByte := c, cfgPour := p } } }
    else s) s

/-- Every writer's runner that a configuration names: each name once for each output that uses it (R499, R500). -/
def State.namedOutputs (s : State) (p : U32) : List Nat :=
  (upTo 4).flatMap (fun c =>
    s.cfgRunner p (0x2200 + 16 * c) 8 ++ (upTo 8).flatMap (s.ddcRunners p c) ++ s.mainRunners p c ++ s.autoRunners p c
      ++ (upTo 4).flatMap (s.trigRunners p c) ++ s.densityRunners p c ++ (upTo 6).flatMap (s.slotRunners p c)
      ++ (upTo 2).flatMap (s.envRunners p c) ++ s.noticeRunners p c)
    ++ (upTo 6).flatMap (fun i => onlyIf ((s.cfg p 0x2480 1).testBit i) (s.cfgRunner p 0x2480 (4 + i)))
    ++ s.tiuRunners p

/-- Every runner that a configuration names. -/
def State.namedRunners (s : State) (p : U32) : List Nat := s.namedOutputs p ++ (upTo 256).flatMap (s.pubRunners p)

/-- Pours that are outstanding: accepted and not yet current (R81). -/
def State.outstanding (s : State) : List Pour := s.ctl.pours.takeWhile (fun p => p.number != s.ctl.currentPour)

/-- Whether the current configuration or an outstanding commit names a runner (R500). -/
def State.runnerNamed (s : State) (n : Nat) : Bool :=
  (s.namedRunners s.ctl.currentPour).contains n ||
    s.outstanding.any (fun p => (s.namedRunners p.number).contains n)

/-- The capture region of channel c under a pour: its base and end, where the mode is not 0 (R352). -/
def State.captureRegion (s : State) (p : U32) (c : Nat) : Option (Nat × Nat) :=
  let i := 0x2700 + 16 * c
  if s.cfg p i 1 = 0 then none else some (s.cfg p i 5, s.cfg p i 5 + s.cfg p i 6)

/-- A configuration that a delta would give over another one: a pour put before the history under its own number. -/
def State.withDelta (s : State) (base : U32) (delta : Tab Val) (number : U32) : State :=
  { s with ctl := { s.ctl with
      pours := { number := number, tc := 0, delta := delta } :: s.ctl.pours.dropWhile (fun p => p.number != base) } }

/-- Whether two half-open ranges meet. -/
def rangesMeet (a b c d : Nat) : Bool := decide (a < d) && decide (c < b)

/-- Every capture region that is in force, pending, frozen or in an outstanding commit (R497). -/
def State.allRegions (s : State) : List (Nat × Nat) :=
  let top := (s.ctl.pours.head?.map Pour.number).getD 0
  let deltas := s.ctl.pendingSet :: (s.ctl.waiting.toList ++ s.ctl.validating.toList).map Commit.delta
  (upTo 4).flatMap (fun c =>
    (s.captureRegion s.ctl.currentPour c).toList
      ++ s.outstanding.flatMap (fun p => (s.captureRegion p.number c).toList)
      ++ deltas.flatMap (fun d => ((s.withDelta top d (pourAfter top)).captureRegion (pourAfter top) c).toList))

end Sys2Proof.Machine
end

