-- ==== Sys2Proof/Machine/StoreOps.lean ====
section
/-! DEFINITION. The recording store's operations: series, chunks, drives, zones, the journal and the capture streams' series
(R535-R557). -/

namespace Sys2Proof.Machine

/-! ### Access to the parts -/

/-- A drive. -/
def State.drive (s : State) (d : Nat) : Drive := Tab.get (fun _ => Drive.absent) s.sto.drives d

/-- The store changed by `f`. -/
def State.modSto (s : State) (f : Sto → Sto) : State := { s with sto := f s.sto }

/-- A drive changed by `f`. -/
def State.modDrive (s : State) (d : Nat) (f : Drive → Drive) : State :=
  s.modSto (fun t => { t with drives := Tab.modify (fun _ => Drive.absent) t.drives d f })

/-- A recording stream. -/
def State.rstream (s : State) (n : Nat) : RStream := Tab.get (fun _ => RStream.off) s.sto.streams n

/-- A recording stream changed by `f`. -/
def State.modStream (s : State) (n : Nat) (f : RStream → RStream) : State :=
  s.modSto (fun t => { t with streams := Tab.modify (fun _ => RStream.off) t.streams n f })

/-- A chunk's key among the chunks. -/
def chunkKey (stream number : Nat) : Nat := stream * 2 ^ 32 + number

/-- A chunk by its key. -/
def State.chunk? (s : State) (key : Nat) : Option Chunk := (s.sto.chunks.find? (fun p => p.1 == key)).map Prod.snd

/-- A chunk changed by `f`. -/
def State.modChunk (s : State) (key : Nat) (f : Chunk → Chunk) : State :=
  s.modSto (fun t => { t with chunks := t.chunks.map (fun p => if p.1 == key then (p.1, f p.2) else p) })

/-- A stream's entry in the configuration that the store has in force. -/
def State.scfg (s : State) (n sub : Nat) : Nat := s.bcfg .store (0x2C20 + n) sub

/-- A zone of a drive. -/
def Drive.zone (d : Drive) (z : Nat) : Zone := Tab.get (fun _ => Zone.empty) d.zones z

/-- A zone of a drive changed by `f`. -/
def Drive.modZone (d : Drive) (z : Nat) (f : Zone → Zone) : Drive :=
  { d with zones := Tab.modify (fun _ => Zone.empty) d.zones z f }

/-- LBAs of a zone (R535). -/
def Drive.zoneLbas (d : Drive) : Nat := (d.info.map (fun i => i.zoneCapacity / 4096)).getD 0

/-- Data zones of a drive: zone 20 and later (R537). -/
def Drive.dataZones (d : Drive) : List Nat :=
  ((List.range ((d.info.map DriveInfo.zones).getD 0)).filter (fun z => decide (20 ≤ z)))

/-- The drives in service: new zones may open on those that are not worn (R551, R554). -/
def State.inService (s : State) : List Nat := (upTo 8).filter (fun d => (s.drive d).st == 2 || (s.drive d).st == 3)

/-- The journal drives: the two lowest-numbered in service (R545). -/
def State.journalDrives (s : State) : List Nat := s.inService.take 2

/-! ### The journal of the store (R545-R548) -/

/-- An entry of the store's journal (R547). -/
structure SEntry where
  kind    : Nat
  drive   : Nat := 0
  stream  : Nat := 0xFF
  zone    : Nat := 0
  chunk   : Nat := 0
  lba     : Nat := 0
  len     : Nat := 0
  seq     : Nat := 0
  time    : T96 := 0
  crc     : Nat := 0
  session : Nat := 0

/-- Its 64 bytes under an entry number. -/
def SEntry.image (e : SEntry) (number : Nat) : List Byte :=
  let body := leBytes 1 e.kind ++ leBytes 1 1 ++ leBytes 1 e.drive ++ leBytes 1 e.stream ++ leBytes 4 e.zone
    ++ leBytes 8 number ++ leBytes 8 e.chunk ++ leBytes 4 e.lba ++ leBytes 4 e.len ++ leBytes 8 e.seq
    ++ leBytes 12 e.time.toNat ++ leBytes 4 e.crc ++ leBytes 4 e.session
  body ++ leBytes 4 (crc32c body).toNat

/-- An entry put into the open block; numbers are never reused (R547). -/
def State.storeLog (s : State) (e : SEntry) : State :=
  s.modSto (fun t => { t with entries := t.entries ++ [e.image t.entryNo], entryNo := t.entryNo + 1 })

/-- What an entry says of a chunk. -/
def Chunk.entryOf (c : Chunk) (kind : Nat) : SEntry :=
  { kind := kind, drive := c.drive, stream := c.stream, zone := c.zone, chunk := c.number, lba := c.lba,
    len := (c.used + 4095) / 4096, seq := c.firstSeq, time := c.firstTime, crc := c.crc, session := c.session }

/-- What an entry says of a zone: kind 5 its first chunk, kinds 5 and 6 the LBAs written (R547, R548). -/
def Zone.entryOf (z : Zone) (kind drive zone : Nat) : SEntry :=
  if kind = 5 then { kind := kind, drive := drive, stream := z.stream, zone := zone, chunk := z.firstChunk, len := z.written,
                     seq := z.firstSeq, time := z.firstTime }
  else { kind := kind, drive := drive, stream := z.stream, zone := zone, len := if kind = 6 then z.written else 0 }

/-! ### Chunks (R541, R542) -/

/-- The largest power of two that does not exceed `n`, from 2^20 down. -/
def powerBelow (n : Nat) : Nat := ((List.range 21).reverse.map (2 ^ ·)).find? (fun p => decide (p ≤ n)) |>.getD 1

/-- C of a stream: the largest power of two within the Zone Append limits of its drives in service and 1 MiB (R541). -/
def State.chunkBytes (s : State) (n : Nat) : Nat :=
  let ls := (s.inService.filter (fun d => (s.scfg n 3).testBit d)).filterMap (fun d => (s.drive d).info.map DriveInfo.appendLimit)
  powerBelow (ls.foldl min 1048576)

/-- A chunk header's first 60 bytes (R542). -/
def chunkHeader (storeId stream flags session used number firstOff firstSeq : Nat) (time : T96) : List Byte :=
  leBytes 4 0x51434B31 ++ leBytes 1 1 ++ leBytes 1 stream ++ leBytes 1 flags ++ leBytes 1 0 ++ leBytes 8 storeId
    ++ leBytes 4 session ++ leBytes 4 used ++ leBytes 8 number ++ leBytes 4 firstOff ++ leBytes 4 0 ++ leBytes 8 firstSeq
    ++ leBytes 12 time.toNat

/-- A chunk's CRC: over its header and its part of the series (R542). -/
def Chunk.crcFor (c : Chunk) (storeId : Nat) : Nat :=
  (crc32c (chunkHeader storeId c.stream c.flags c.session c.used c.number c.firstOff c.firstSeq c.firstTime ++ c.data)).toNat

/-- The last record of a series that ends within its first `len` bytes, and a record that goes on beyond them: records by where
they start, the next one starting where a record ends. -/
def lastEnding (len total : Nat) : (cur : Option (Nat × T96)) → List (Nat × Nat × T96) → Option (Nat × T96) → Option (Nat × T96) × Option (Nat × T96)
  | cur, [], done => if cur.isSome && decide (total ≤ len) then (cur, none) else (done, cur)
  | cur, p :: ps, done =>
    if len < p.1 then (done, cur)
    else
      let done := if cur.isSome then cur else done
      if p.1 = len then (done, none) else lastEnding len total (some p.2) ps done

/-- The whole chunk as it stands on a drive, in whole LBAs (R541). -/
def Chunk.image (c : Chunk) (storeId : Nat) : List Byte :=
  let h := chunkHeader storeId c.stream c.flags c.session c.used c.number c.firstOff c.firstSeq c.firstTime
  padTo ((c.used + 4095) / 4096 * 4096) (h ++ leBytes 4 c.crc ++ c.data)

/-- `len` bytes of a stream's series cut off as a chunk that waits for its drive. -/
def State.cutChunk (s : State) (n len : Nat) : State :=
  let r := s.rstream n
  let data := r.series.take len
  let first := r.starts.find? (fun p => decide (p.1 < len))
  let off := (first.map (fun p => p.1 + 64)).getD 0
  let seq := (first.map (fun p => p.2.1)).getD 0
  let time := (first.map (fun p => p.2.2)).getD 0
  let flags := if r.firstOfSession then 1 else 0
  let ends := lastEnding len r.series.length r.carry r.starts none
  let c : Chunk := { stream := n, number := r.next, session := r.session, flags := flags, used := 64 + data.length, firstOff := off,
                     firstSeq := seq, firstTime := time, crc := 0, data := data, st := .buffered, drive := 0,
                     zone := 0, lba := 0, entry := none, lastEnd := ends.1, sent := 0, scrubAt := none }
  let c := { c with crc := c.crcFor s.sto.storeId }
  let rest := r.series.drop len
  let s := s.modSto (fun t => { t with chunks := t.chunks ++ [(chunkKey n r.next, c)] })
  s.modStream n (fun r => { r with
    next := r.next + 1
    series := rest
    starts := (r.starts.filter (fun p => decide (len ≤ p.1))).map (fun p => (p.1 - len, p.2))
    carry := ends.2
    firstIn := if rest.isEmpty then none else some s.now
    firstOfSession := false
    waiting := r.waiting ++ [chunkKey n r.next] })

/-- Full chunks cut off the series, at most `fuel` of them. -/
def State.cutFull (s : State) (n : Nat) : (fuel : Nat) → State
  | 0 => s
  | fuel + 1 =>
    let len := s.chunkBytes n - 64
    if len ≤ (s.rstream n).series.length ∧ 0 < len then (s.cutChunk n len).cutFull n fuel else s

/-- A record's bytes, padded to a multiple of 64, at the end of a stream's series (R541). -/
def State.appendSeries (s : State) (n : Nat) (bytes : List Byte) (seq : Nat) (time : T96) : State :=
  let r := s.rstream n
  let padded := padTo (ceilTo 64 bytes.length) bytes
  let s := s.modStream n (fun r => { r with
    series := r.series ++ padded
    starts := r.starts ++ [(r.series.length, seq, time)]
    firstIn := if r.firstIn.isNone then some s.now else r.firstIn })
  s.cutFull n ((r.series.length + padded.length) / 64 + 1)

/-- Bytes of the store buffer in use: chunks of runner streams until they are committed, and what they have open (R544, R546). -/
def State.bufferUsed (s : State) : Nat :=
  s.sto.chunks.foldl (fun a p => if s.scfg p.2.stream 1 == 1 && (p.2.st == .buffered || p.2.st == .appending || p.2.st == .appended)
    then a + p.2.used else a) (s.sto.streams.foldl (fun a p => if s.scfg p.1 1 == 1 then a + p.2.series.length else a) 0)

/-- A stream takes a record: it records and does not stall, and the buffer of 64 MiB has room for it (R543, R544). -/
def State.streamOpen (s : State) (n len : Nat) : Bool := (s.rstream n).st == 1 && decide (s.bufferUsed + len ≤ 67108864)

/-! ### Zones and drives (R543, R551-R556) -/

/-- The zone of a drive that a stream has open. -/
def Drive.openZone (d : Drive) (n : Nat) : Option Nat :=
  d.dataZones.find? (fun z => (d.zone z).cond == 1 && (d.zone z).stream == n)

/-- An empty data zone of a drive. -/
def Drive.emptyZone (d : Drive) : Option Nat := d.dataZones.find? (fun z => (d.zone z).cond == 0)

/-- The stream's oldest finished zone on a drive (R553). -/
def Drive.oldestZone (d : Drive) (n : Nat) : Option Nat :=
  (d.dataZones.filter (fun z => (d.zone z).cond == 2 && (d.zone z).stream == n)).foldl
    (fun best z => match best with
      | none => some z
      | some b => if (d.zone z).firstChunk < (d.zone b).firstChunk then some z else some b) none

/-- Bytes of appends outstanding on a drive. -/
def State.outstandingBytes (s : State) (d : Nat) : Nat :=
  (s.drive d).outstanding.foldl (fun a k => a + ((s.chunk? k).map Chunk.used).getD 0) 0

/-- A zone finished: no append goes to it (kind 6); 2 finished, 3 Read Only. -/
def State.finishZone (s : State) (d z cond : Nat) : State :=
  let zn := (s.drive d).zone z
  if zn.cond = 1 then
    (s.modDrive d (fun v => v.modZone z (fun q => { q with cond := cond }))).storeLog (zn.entryOf 6 d z)
  else if zn.cond = 2 then s.modDrive d (fun v => v.modZone z (fun q => { q with cond := cond }))
  else s

/-- A zone reset: it is empty again, and the chunks in it leave the catalogue (kind 8). -/
def State.resetZone (s : State) (d z : Nat) (drop : Bool) : State :=
  let zn := (s.drive d).zone z
  let s := s.modDrive d (fun v => v.modZone z (fun _ => Zone.empty))
  let s := if drop then s.modSto (fun t => { t with chunks := t.chunks.filter (fun p =>
    !(p.2.drive == d && p.2.zone == z && (p.2.st == .committed || p.2.st == .recovered || p.2.st == .appended))) }) else s
  s.storeLog (zn.entryOf 8 d z)

/-- A zone that a stream's chunk of `lbas` goes to on drive d, opened where it must be: the stream's open zone, an empty zone,
or its oldest one under policy 1 (R543, R553). None: the drive has no room. -/
def State.placeZone (s : State) (n d lbas : Nat) : State × Option Nat :=
  let v := s.drive d
  let openNew (s : State) (z : Nat) : State × Option Nat :=
    let s := s.modDrive d (fun v => v.modZone z (fun q => { q with cond := 1, stream := n }))
    (s.storeLog ((s.drive d).zone z |>.entryOf 5 d z), some z)
  let fresh (s : State) : State × Option Nat :=
    if (s.drive d).st ≠ 2 then (s, none)
    else match (s.drive d).emptyZone with
      | some z => openNew s z
      | none =>
        if s.scfg n 5 = 1 then
          match (s.drive d).oldestZone n with
          | some z => openNew (s.resetZone d z true) z
          | none => (s, none)
        else if (s.rstream n).fullRaised then (s, none)
        else ((s.report { severity := 2, subsys := 16, kind := 9, element := d * 2 ^ 56 + n, code := 0xFF00 }).modStream n
          (fun r => { r with fullRaised := true }), none)
  match v.openZone n with
  | some z => if (v.zone z).written + lbas ≤ v.zoneLbas then (s, some z) else fresh (s.finishZone d z 2)
  | none => fresh s

/-- The position that a drive's label names; a drive with no label stands at its port (R538, R539). -/
def State.positionOf (s : State) (d : Nat) : Nat :=
  (((s.drive d).info.bind DriveInfo.label).map (fun l => l.position.val)).getD d

/-- The drives in service of a stream's mask, cyclically in ascending position order from the one after the last (R543). -/
def State.maskDrives (s : State) (n : Nat) : List Nat :=
  let last := (s.rstream n).lastPos
  (upTo 8).flatMap (fun i => s.inService.filter (fun d => (s.scfg n 3).testBit d && s.positionOf d == (last + 1 + i) % 8))

/-- Those of them that may take the stream's next chunk: fewer than 8 MiB of appends are outstanding (R543). -/
def State.driveOrder (s : State) (n : Nat) : List Nat :=
  (s.maskDrives n).filter (fun d => decide (s.outstandingBytes d < 8388608))

/-- A chunk put on the first of these drives that has room. -/
def State.tryPlace (s : State) (n key : Nat) (c : Chunk) : List Nat → State × Bool
  | [] => (s, false)
  | d :: ds =>
    let lbas := (c.used + 4095) / 4096
    match s.placeZone n d lbas with
    | (t, none) => t.tryPlace n key c ds
    | (t, some z) =>
      let zn := (t.drive d).zone z
      let t := t.modChunk key (fun c => { c with st := .appending, sent := t.now, drive := d, zone := z, lba := zn.written })
      let t := t.modDrive d (fun v => { v.modZone z (fun q => { q with
          written := q.written + lbas
          firstChunk := if q.written = 0 then c.number else q.firstChunk
          firstSeq := if q.written = 0 then c.firstSeq else q.firstSeq
          firstTime := if q.written = 0 then c.firstTime else q.firstTime
          newest := t.now }) with
        appended := v.appended + lbas * 4096
        outstanding := v.outstanding ++ [key] })
      let t := t.modStream n (fun r => { r with lastPos := t.positionOf d })
      (t.emit (.drive d 0x7D z (c.image t.sto.storeId)), true)

/-- The chunk that waits longest is appended with FUA to the next eligible drive, or the stream stalls (R543, R545). -/
def State.appendNext (s : State) (n : Nat) : State :=
  match (s.rstream n).waiting with
  | [] => s
  | key :: rest =>
    match s.chunk? key with
    | none => s.modStream n (fun r => { r with waiting := rest })
    | some c =>
      match s.tryPlace n key c (s.driveOrder n) with
      | (t, true) => t.modStream n (fun r => { r with waiting := rest, st := if r.st = 0 then 0 else 1 })
      | (t, false) => t.modStream n (fun r => { r with
          st := if r.st = 0 then 0 else if r.fullRaised ∧ s.driveOrder n = s.maskDrives n ∧ s.maskDrives n ≠ [] then 3 else 2 })

/-- Streams that stall for want of a drive go on once one is free (R543). -/
def State.resumeStalled (s : State) : State :=
  (upTo 32).foldl (fun s n => if (s.rstream n).st = 2 then s.appendNext n else s) s

/-- Every chunk outstanding on a drive goes back to its stream, in order, under its own number (R551, R552). -/
def State.reissue (s : State) (d : Nat) : State :=
  let keys := (s.drive d).outstanding
  let s := s.modDrive d (fun v => { v with outstanding := [] })
  keys.reverse.foldl (fun s k =>
    (s.modChunk k (fun c => { c with st := .buffered })).modStream (k / 2 ^ 32)
      (fun r => { r with waiting := k :: r.waiting })) s

/-- A drive retired: no zone opens on it, and nothing is read from it until the next start-up (kind 11, R551). -/
def State.retireDrive (s : State) (d : Nat) : State :=
  let away := (s.sto.chunks.filter (fun p => p.2.drive == d && (p.2.st == .committed || p.2.st == .recovered))).length
  let s := (s.reissue d).modDrive d (fun v => { v with st := 4, retired := true })
  let s := s.modSto (fun t => { t with
    chunks := t.chunks.map (fun p => if p.2.drive == d && (p.2.st == .committed || p.2.st == .recovered)
      then (p.1, { p.2 with st := .unavailable }) else p)
    unavailable := t.unavailable + away })
  s.storeLog { kind := 11, drive := d }

/-- An event counted for a drive (R551). -/
def State.countDrive (s : State) (d : Nat) : State × Nat × Bool :=
  (s.modDrive d (fun q => { q with faults := q.faults + 1 })).countFault .drive (d * 2 ^ 56)

/-- A fault event of a drive (R551, R620): lasting retires it with emergency 0x5000. -/
def State.driveFault (s : State) (d : Nat) : State :=
  let e := d * 2 ^ 56
  let (s, c, lasting) := s.countDrive d
  let s := (s.journalFault .drive e c lasting true)
  if lasting ∧ (s.drive d).st ≠ 4 then s.retireDrive d else s

/-- A drive retired at once, whatever its count (R551). -/
def State.retireNow (s : State) (d code : Nat) : State :=
  let s := s.report { severity := 3, subsys := 16, kind := 3, cls := 9, element := d * 2 ^ 56, code := code }
  if (s.drive d).st = 4 then s else s.retireDrive d

/-- A chunk lost (kind 4). -/
def State.loseChunk (s : State) (key : Nat) : State :=
  match s.chunk? key with
  | none => s
  | some c =>
    ((s.modChunk key (fun c => { c with st := .lost })).storeLog (c.entryOf 4)).modSto
      (fun t => { t with lost := t.lost + 1 })

/-- A chunk is live where its contents can still be read. -/
def Chunk.live (c : Chunk) : Bool := c.st == .committed || c.st == .recovered

/-- A chunk relocated to another zone of its stream, with its number and contents (kind 3, R556). -/
def State.relocate (s : State) (key : Nat) : State :=
  match s.chunk? key with
  | none => s
  | some c =>
    let order := (s.driveOrder c.stream).filter (fun d => (s.drive d).st == 2)
    let moved := { c with flags := c.flags ||| 2 }
    let moved := { moved with crc := moved.crcFor s.sto.storeId }
    match s.tryPlace c.stream key moved order with
    | (t, true) =>
      let t := t.modChunk key (fun q => { q with st := c.st, flags := moved.flags, crc := moved.crc })
      let t := match t.chunk? key with
        | some q => (t.modDrive q.drive (fun v => { v with outstanding := v.outstanding.filter (· != key) })).storeLog (q.entryOf 3)
        | none => t
      t
    | (t, false) => t

/-- A chunk stands in a zone, or is being appended to it. -/
def Chunk.stands (c : Chunk) : Bool := c.live || c.st == .appending || c.st == .appended

/-- Every live chunk of a zone relocated; the zone is reset once no chunk stands in it (R555, R556). -/
def State.relocateZone (s : State) (d z : Nat) : State :=
  let keys := (s.sto.chunks.filter (fun p => p.2.drive == d && p.2.zone == z && p.2.live)).map Prod.fst
  let s := if ((s.drive d).zone z).cond = 1 then s.finishZone d z 2 else s
  let s := keys.foldl (fun s k => s.relocate k) s
  if s.sto.chunks.any (fun p => p.2.drive == d && p.2.zone == z && p.2.stands) then s else s.resetZone d z false

/-- Slots of channel c's segments up to number k are free (R363, R546). -/
def State.releaseThrough (s : State) (c k : Nat) : State :=
  { s with caps := Tab.modify (fun _ => Cap.off) s.caps c (fun q => { q with released := max q.released (k + 1) }) }

/-- The lowest chunk number of a stream that is not committed yet (R546). -/
def State.commitFloor (s : State) (n : Nat) : Nat :=
  (s.sto.chunks.filter (fun p => p.2.stream == n &&
    (p.2.st == .buffered || p.2.st == .appending || p.2.st == .appended))).foldl (fun a p => min a p.2.number) (s.rstream n).next

/-- The newest committed chunk of a stream in which a record ends, all before it being committed (R545, R561). -/
def State.newestCommitted (s : State) (n : Nat) : Option Chunk :=
  let floor := s.commitFloor n
  s.sto.chunks.foldl (fun best p =>
    if p.2.stream = n ∧ p.2.number < floor ∧ p.2.lastEnd.isSome ∧ (best.map Chunk.number).getD 0 ≤ p.2.number then some p.2 else best) none

/-- The first record time of the oldest chunk of a stream that can be read and in which a record starts (R561). -/
def State.oldestTime (s : State) (n : Nat) : T96 :=
  ((s.sto.chunks.foldl (fun (best : Option Chunk) p =>
    if p.2.stream = n ∧ p.2.live = true ∧ p.2.firstOff ≠ 0 ∧ best.all (fun b => decide (p.2.number < b.number)) then some p.2 else best)
    none).map Chunk.firstTime).getD 0

/-- Segments of a capture stream are released in order once every chunk that holds a byte of them is committed (R546). -/
def State.releaseCommitted (s : State) (n : Nat) : State :=
  let r := s.rstream n
  let floor := s.commitFloor n
  let done := r.segs.takeWhile (fun p => decide (p.2 < floor))
  match done.getLast? with
  | none => s
  | some (k, _) =>
    (s.releaseThrough (s.scfg n 2) k).modStream n (fun r => { r with segs := r.segs.drop done.length })

/-- The chunks whose entries are in a durable block are committed (R545). -/
def State.commitChunks (s : State) (through : Nat) : State :=
  let keys := (s.sto.chunks.filter (fun p => p.2.st == .appended && (p.2.entry.map (fun e => decide (e ≤ through))).getD false)).map
    Prod.fst
  let s := keys.foldl (fun s k =>
    match s.chunk? k with
    | none => s
    | some c => (s.modChunk k (fun c => { c with st := .committed })).modStream c.stream (fun r => { r with
        bytes := r.bytes + c.used })) s
  (upTo 32).foldl (fun s n => s.releaseCommitted n) s

/-- A record that the store makes for a capture stream (R540). -/
def State.appendOwn (s : State) (n typ chan flags : Nat) (pour : U32) (time : T96) (fields payload : List Byte) : State :=
  let seq := (s.rstream n).ownSeq
  let bytes := sealRecord (headerBytes typ 0xFFFE (64 + payload.length) seq pour.toNat time chan 0 0 flags fields) payload
  (s.appendSeries n bytes seq time).modStream n (fun r => { r with ownSeq := r.ownSeq + 1 })

/-- The capture stream of a channel, where one is configured (R540). -/
def State.captureStream (s : State) (c : Nat) : Option Nat :=
  (upTo 32).find? (fun n => s.scfg n 1 == 2 && s.scfg n 2 == c)

end Sys2Proof.Machine
end

