-- ==== Sys2Proof/Machine/HealthOps.lean ====
section
/-! DEFINITION. Window monitors, housekeeping converters, sentinels and the quench conditions (R593-R616). -/

namespace Sys2Proof.Machine

/-- An entry of the health configuration in force. -/
def State.hcfg (s : State) (index sub : Nat) : Nat := s.bcfg .health index sub

/-- The same, signed. -/
def State.hcfgInt (s : State) (index sub : Nat) : Int := s.bcfgInt .health index sub

/-- A part of the health subsystem changed by `f`. -/
def State.modHea (s : State) (f : Hea → Hea) : State := { s with hea := f s.hea }

/-! ### Window monitors -/

/-- Monitor m. -/
def State.wm (s : State) (m : Nat) : Wm := Tab.get (fun _ => Wm.start) s.hea.wms m

/-- Monitor m changed by `f`. -/
def State.modWm (s : State) (m : Nat) (f : Wm → Wm) : State :=
  s.modHea (fun h => { h with wms := Tab.modify (fun _ => Wm.start) h.wms m f })

/-- What a sample counts as against the present state: 0 inside, 1 above, 2 below (R594). -/
def classify (st : Nat) (v u l h : Int) : Nat :=
  if st = 0 then (if v > u then 1 else if v < l then 2 else 0)
  else if st = 1 then (if v < l then 2 else if l ≤ v ∧ v < u - h then 0 else 1)
  else (if v > u then 1 else if l + h < v ∧ v ≤ u then 0 else 2)

/-- A sample that counts as x joins a filter history, newest first (R595). -/
def pushSample (hist : List Nat) (x : Nat) : List Nat := x :: hist.take 6

/-- The state that the last f samples of a history change state st to: one that at least (f + 1) / 2 of them count as (R595). -/
def majority (st f : Nat) (hist : List Nat) : Option Nat :=
  ((upTo 3).filter (fun x => x != st)).find? (fun x => decide ((f + 1) / 2 ≤ ((hist.take f).filter (fun y => y == x)).length))

/-- The emergency code of a monitor's source: temperatures 0x4000, supplies 0x3000, others 0xFF00 (R599). -/
def sourceCode (src : Nat) : Nat :=
  if 0x10 ≤ src ∧ src ≤ 0x16 then 0x4000 else if 1 ≤ src ∧ src ≤ 0x0A then 0x3000 else 0xFF00

/-- The highest floor of the monitors that are not inside (R599). -/
def State.highestFloor (s : State) : Nat :=
  (upTo 16).foldl (fun a m =>
    if (s.wm m).st ≠ 0 ∧ (s.hcfg (0x2E00 + m) 1) ≠ 0 ∧ (s.hcfg (0x2E00 + m) 7).testBit 2 then max a (s.hcfg (0x2E00 + m) 8) else a) 0

/-- A journal entry of severity error or higher has not been acknowledged (R601). -/
def State.unacknowledged (s : State) : Bool :=
  s.flt.journal.any (fun e => decide (3 ≤ e.severity) && decide (s.flt.acked < e.number.toNat % 2 ^ 32))

/-- nALERT is asserted (R601). -/
def State.alert (s : State) : Bool :=
  !s.ctl.held && ((upTo 16).any (fun m => (s.wm m).latch != 0 && (s.hcfg (0x2E00 + m) 7).testBit 1)
    || decide (s.num 0x2E20 3 ≤ s.hea.level) || s.unacknowledged)

/-- The level of MONn with source 0 (R600). -/
def State.monLevel (s : State) (n : Nat) : Bool :=
  let mask := s.hcfg 0x2E23 (n + 1)
  (upTo 16).any (fun m => mask.testBit m && (s.hcfg (0x2E00 + m) 1) != 0 && (s.wm m).st != 0)
    || (mask.testBit 16 && decide (1 ≤ s.hea.level)) || (mask.testBit 17 && s.unacknowledged)

/-! ### Housekeeping converters -/

/-- Converter k. -/
def State.hk (s : State) (k : Nat) : Hk := Tab.get (fun _ => Hk.off) s.hea.hks k

/-- Converter k changed by `f`. -/
def State.modHk (s : State) (k : Nat) (f : Hk → Hk) : State :=
  s.modHea (fun h => { h with hks := Tab.modify (fun _ => Hk.off) h.hks k f })

/-- The low-power reference mode is in force (R607). -/
def State.lowPower (s : State) : Bool := s.app 0x2E30 1 == 1

/-- A state of the reference buffer, shown in 0x2E30.03. -/
def State.setRef (s : State) (v : Nat) : State :=
  (s.modHea (fun h => { h with refState := v, refAt := s.ctl.crystalCount })).put 0x2E30 3 v

/-- The result period of converter k on the fault clock: OSR periods of the modulator, eight crystal periods each (R602). -/
def State.hkPeriod (s : State) (k : Nat) : Nat := 2 ^ s.hcfg (0x2E40 + k) 3 * 128

/-- When a conversion that starts now has its first result: 3 OSR modulator periods after the next modulator edge (R603, R605). -/
def State.firstResult (s : State) (k : Nat) : Nat := (s.ctl.crystalCount / 128 + 1) * 128 + 3 * s.hkPeriod k

/-- A start of converter k: ignored and counted as missed while a conversion runs; held until the reference has settled, or
until the wake-up in low-power mode (R604-R607). -/
def State.startHk (s : State) (k : Nat) (byMonitor : Bool) : State :=
  let mode := s.hcfg (0x2E40 + k) 1
  if mode ≠ 2 ∧ mode ≠ 3 then s
  else if (s.hk k).running ∨ (s.hk k).waiting then
    (s.modHk k (fun h => { h with missed := (h.missed + 1) % 2 ^ 32 })).bump (0x2E50 + k) 6 |>.bump (0x2E50 + k) 1
  else
    let hold := s.lowPower || s.hea.refState != 2
    s.modHk k (fun h => { h with
      running := !hold, waiting := hold, byMonitor := byMonitor, first := true, mode := mode
      left := if mode = 2 then 1 else s.hcfg (0x2E40 + k) 5
      due := if hold then s.ctl.crystalCount + 80000 else s.firstResult k })

/-- A start of every converter of group g at one modulator edge (R605); in low-power mode it powers the buffer (R607). -/
def State.startGroup (s : State) (g : Nat) (byMonitor : Bool) : State :=
  let ks := (upTo 12).filter (fun k => s.hcfg (0x2E40 + k) 4 == g)
  let s := ks.foldl (fun s k => s.startHk k byMonitor) s
  if s.lowPower && ks.any (fun k => (s.hk k).waiting) && s.hea.refState == 0 then s.setRef 1 else s

/-- The converters that wait, of the given ones, start now. -/
def State.releaseHk (s : State) (ks : List Nat) : State :=
  ks.foldl (fun s k => s.modHk k (fun h => { h with
    running := h.running || h.waiting, waiting := false, due := if h.waiting then s.firstResult k else h.due })) s

/-! ### Quench conditions -/

/-- Entry and exit thresholds of level k: margins in 0.01 %, supplies in mV (R613). -/
def levelIn (k : Nat) : Int × Nat :=
  [(1000, 650), (800, 645), (600, 640), (400, 635), (200, 630), (100, 625)].getD (k - 1) (0, 0)
def levelOut (k : Nat) : Int × Nat :=
  [(1200, 660), (1000, 655), (800, 650), (600, 645), (400, 640), (200, 635)].getD (k - 1) (0, 0)

/-- Channels that run on compute die d: enabled, and the device in SAFEOP or OP (R612). -/
def State.dieRuns (s : State) (d : Nat) : Bool :=
  s.ctl.dev.runs && ([2 * d, 2 * d + 1].any (fun c => s.app (0x2200 + 16 * c) 1 != 0))

/-- The entry condition of level k holds on die d (R613). -/
def State.enters (s : State) (d k : Nat) : Bool :=
  let (m, v) := levelIn k
  s.dieRuns d && (((Tab.get (fun _ => none) s.hea.margin d).map (fun x => decide (x < m))).getD false
    || ((Tab.get (fun _ => none) s.hea.vdd d).map (fun x => decide (x < v))).getD false)

/-- The exit conditions of level k hold on die d (R613); a die with no running channel demands Q0 (R612). -/
def State.exits (s : State) (d k : Nat) : Bool :=
  let (m, v) := levelOut k
  !s.dieRuns d || (((Tab.get (fun _ => none) s.hea.margin d).map (fun x => decide (m ≤ x))).getD true
    && ((Tab.get (fun _ => none) s.hea.vdd d).map (fun x => decide (v ≤ x))).getD true)

/-- The highest level whose entry condition holds on die d (R613). -/
def State.dieDemand (s : State) (d : Nat) : Nat :=
  ([6, 5, 4, 3, 2, 1].find? (fun k => s.enters d k)).getD 0

/-- The order in which channels are shed: descending priority number, the higher channel first among equals (R616). -/
def State.shedOrder (s : State) : List Nat :=
  [3, 2, 1, 0].flatMap (fun p => ([3, 2, 1, 0] : List Nat).filter (fun c => s.hcfg 0x2E22 (c + 1) == p))

/-! ### Sentinels -/

/-- The median of some rates: the mean of the middle two for an even count. -/
def median (rs : List Nat) : Nat :=
  let s := rs.mergeSort (fun a b => decide (a ≤ b))
  let n := s.length
  if n = 0 then 0
  else if n % 2 = 1 then s.getD (n / 2) 0 else (s.getD (n / 2 - 1) 0 + s.getD (n / 2) 0) / 2

/-- A sentinel's margin on die d in 0.01 % at rate r in 10^6 tokens/s: r / r_req − 1, to nearest, with r_req a sixteenth of
the rate of the die's fastest active channel (R9, R10). -/
def State.sentinelMargin (s : State) (d r : Nat) : Int :=
  let div := (([2 * d, 2 * d + 1].filter s.enabled).map s.divider).min?.getD 1
  roundDiv (r * 1000000 * 16 * 10000 * div : Nat) s.clk.rate - 10000

/-- The element number of sentinel i: its compute die and its number (R623). -/
def sentinelElement (i : Nat) : Nat := i / 32 * 2 ^ 56 + i

/-- Whether a sentinel is out of its die's margin (R611). -/
def State.sentinelOut (s : State) (i : Nat) : Bool :=
  Tab.get (fun _ => false) s.hea.excluded i || s.isLasting .sentinel (sentinelElement i)

/-- One sentinel against its die's median: the sixteenth window that differs by more than 15 % excludes it and is one fault
event (R611). -/
def State.judgeSentinel (s : State) (rates : List Nat) (med i : Nat) : State :=
  let r := rates.getD i 0
  let far := decide (15 * med < 100 * (if r < med then med - r else r - med))
  let n := if far then Tab.get (fun _ => 0) s.hea.far i + 1 else 0
  let s := s.modHea (fun h => { h with
    far := Tab.set (fun _ => 0) h.far i n
    excluded := Tab.set (fun _ => false) h.excluded i (decide (16 ≤ n)) })
  if n = 16 ∧ !s.isLasting .sentinel (sentinelElement i) then
    let (s, c, lasting) := s.countFault .sentinel (sentinelElement i)
    s.journalFault .sentinel (sentinelElement i) c lasting true
  else s

/-- One die's margin, its lowest sentinel, and the note when fewer than 24 are left (R11, R611). -/
def State.judgeDie (s : State) (rates : List Nat) (d : Nat) : State :=
  let ix := (List.range 32).map (32 * d + ·)
  let med := median ((ix.filter (fun i => !s.sentinelOut i)).map (fun i => rates.getD i 0))
  let s := ix.foldl (fun s i => s.judgeSentinel rates med i) s
  let left := ix.filter (fun i => !s.sentinelOut i)
  let low := left.foldl (fun a i => match a with
    | none => some i
    | some j => if rates.getD i 0 < rates.getD j 0 then some i else a) none
  let s := match low with
    | none => s
    | some i =>
      let m := s.sentinelMargin d (rates.getD i 0)
      ((s.modHea (fun h => { h with margin := Tab.set (fun _ => none) h.margin d (some m) })).putInt 0x2E60 (2 + d) m).put 0x2E60 (4 + d) i
  if left.length < 24 ∧ Tab.get (fun _ => false) s.hea.noSpare d = false then
    (s.modHea (fun h => { h with noSpare := Tab.set (fun _ => false) h.noSpare d true })).report
      { severity := 3, subsys := 20, kind := 9, cls := 10, element := d * 2 ^ 56, notes := 1, code := 0xFF00 }
  else s

end Sys2Proof.Machine
end

