-- ==== Sys2Proof/Machine/Soft.lean ====
section
/-! DEFINITION. Numbers that blocks compute with beyond integers: binary32 and binary64 rounded once from an exact value (R248,
R269, R332), the L16 scale (R5, R251), and fixed-point cosines for windows, prototypes, twiddles and rotations. -/

namespace Sys2Proof.Machine

/-! ### Exact dyadic values -/

/-- An exact value m · 2^e. -/
structure Dy where
  m : Int
  e : Int

/-- Zero. -/
def Dy.zero : Dy := { m := 0, e := 0 }

/-- An integer. -/
def Dy.ofInt (n : Int) : Dy := { m := n, e := 0 }

/-- Two values over their smaller exponent. -/
def Dy.align (a b : Dy) : Int × Int × Int :=
  let e := min a.e b.e
  (a.m * 2 ^ (a.e - e).toNat, b.m * 2 ^ (b.e - e).toNat, e)

/-- Sum, negation, product and order of exact values. -/
def Dy.add (a b : Dy) : Dy := let (x, y, e) := a.align b; { m := x + y, e := e }
def Dy.neg (a : Dy) : Dy := { a with m := -a.m }
def Dy.sub (a b : Dy) : Dy := a.add b.neg
def Dy.mul (a b : Dy) : Dy := { m := a.m * b.m, e := a.e + b.e }
def Dy.le (a b : Dy) : Bool := let (x, y, _) := a.align b; decide (x ≤ y)

/-- Numerator and denominator of an exact value. -/
def Dy.num (a : Dy) : Int := a.m * 2 ^ a.e.toNat
def Dy.den (a : Dy) : Nat := 2 ^ (-a.e).toNat

/-! ### IEEE 754 formats -/

/-- The bits, but the sign, of |num| / den in a format of p significant bits and least exponent emin: to nearest, ties to even;
infinity from `top` on. -/
def floatBits (p : Nat) (emin : Int) (top : Nat) (num den : Nat) : Nat :=
  if num = 0 then 0
  else
    let l : Int := (num.log2 : Int) - den.log2
    let low := if 0 ≤ l then decide (num < den * 2 ^ l.toNat) else decide (num * 2 ^ (-l).toNat < den)
    let q := max ((if low then l - 1 else l) - (p - 1)) emin
    let m := if 0 ≤ q then roundDiv num (den * 2 ^ q.toNat) else roundDiv (num * 2 ^ (-q).toNat : Nat) den
    min (((q - emin).toNat) * 2 ^ (p - 1) + m.toNat) top

/-- The exact value of a format's bits; infinity and NaN, which no block produces, read as 0. -/
def floatValue (w p : Nat) (emin : Int) (top : Nat) (bits : Nat) : Dy :=
  let b := bits % 2 ^ (w - 1)
  if top ≤ b then Dy.zero
  else
    let x := b / 2 ^ (p - 1)
    let f := b % 2 ^ (p - 1)
    let m : Int := (if x = 0 then f else f + 2 ^ (p - 1) : Nat)
    { m := if bits / 2 ^ (w - 1) % 2 = 1 then -m else m, e := emin + (if x = 0 then 0 else (x : Int) - 1) }

/-- binary32 nearest to num / den. -/
def f32OfRat (num : Int) (den : Nat) : U32 :=
  BitVec.ofNat 32 ((if num < 0 then 2 ^ 31 else 0) + floatBits 24 (-149) 0x7F800000 num.natAbs den)

/-- binary64 nearest to num / den. -/
def f64OfRat (num : Int) (den : Nat) : U64 :=
  BitVec.ofNat 64 ((if num < 0 then 2 ^ 63 else 0) + floatBits 53 (-1074) 0x7FF0000000000000 num.natAbs den)

/-- The exact value of a binary32 and of a binary64. -/
def f32Value (x : U32) : Dy := floatValue 32 24 (-149) 0x7F800000 x.toNat
def f64Value (x : U64) : Dy := floatValue 64 53 (-1074) 0x7FF0000000000000 x.toNat

/-- An exact value rounded once. -/
def Dy.to32 (a : Dy) : U32 := f32OfRat a.num a.den
def Dy.to64 (a : Dy) : U64 := f64OfRat a.num a.den

/-- |re + j im|² of a binary32 pair, rounded once (R251, R269). -/
def power32 (z : U32 × U32) : U32 :=
  (((f32Value z.1).mul (f32Value z.1)).add ((f32Value z.2).mul (f32Value z.2))).to32

/-- a · conj(b) of binary32 pairs, each component rounded once (R269). -/
def conjProduct32 (a b : U32 × U32) : U32 × U32 :=
  let x := f32Value a.1; let y := f32Value a.2; let u := f32Value b.1; let v := f32Value b.2
  (((x.mul u).add (y.mul v)).to32, ((y.mul u).sub (x.mul v)).to32)

/-! ### binary64 arithmetic (R334, R340) -/

/-- Sum, product and quotient of binary64 values, each rounded once. -/
def f64Add (a b : U64) : U64 := ((f64Value a).add (f64Value b)).to64
def f64Mul (a b : U64) : U64 := ((f64Value a).mul (f64Value b)).to64
def f64Div (a b : U64) : U64 :=
  let x := f64Value a
  let y := f64Value b
  if y.m = 0 then 0
  else if 0 < y.m then f64OfRat (x.num * y.den) (y.num.natAbs * x.den) else f64OfRat (-(x.num * y.den)) (y.num.natAbs * x.den)

/-- A binary32 as binary64, a natural number as binary64, a binary64 rounded to binary32. -/
def f64Of32 (x : U32) : U64 := (f32Value x).to64
def f64OfNat (n : Nat) : U64 := f64OfRat n 1
def f32Of64 (x : U64) : U32 := (f64Value x).to32

/-- ⌊√n⌋, bit by bit. -/
def isqrt (n : Nat) : Nat :=
  (List.range 128).foldl (fun r i =>
    let b := r + 2 ^ (127 - i)
    if b * b ≤ n then b else r) 0

/-- The square root of a binary32 that is not negative, in binary64, rounded once. -/
def f64Sqrt32 (x : U32) : U64 :=
  let v := f32Value x
  let n := v.m.toNat * 2 ^ 170 * (if v.e % 2 = 0 then 1 else 2)
  let e := (v.e - 170 - (if v.e % 2 = 0 then 0 else 1)) / 2
  let r := isqrt n
  ({ m := 2 * r + (if r * r = n then 0 else 1), e := e - 1 } : Dy).to64

/-- log2 (num / den) with 64 fraction bits, for num / den from 1 below 2: bit by bit. -/
def logBits (num den : Nat) : Nat :=
  ((List.range 64).foldl (fun (acc : Nat × Nat) _ =>
    let y := acc.2 * acc.2 / 2 ^ 160
    if 2 ^ 161 ≤ y then (2 * acc.1 + 1, y / 2) else (2 * acc.1, y)) (0, num * 2 ^ 160 / den)).1

/-- 10 log10 (num / den) with 64 fraction bits. -/
def decibels (num den : Nat) : Int :=
  let l : Int := (num.log2 : Int) - den.log2
  let low := if 0 ≤ l then decide (num < den * 2 ^ l.toNat) else decide (num * 2 ^ (-l).toNat < den)
  let l := if low then l - 1 else l
  let frac := if 0 ≤ l then logBits num (den * 2 ^ l.toNat) else logBits (num * 2 ^ (-l).toNat) den
  ((l * 2 ^ 64 + frac) * 55530232885233571323).fdiv (2 ^ 64)

/-- 2^(f / 2^64) with 64 fraction bits, f below 2^64: the exponential series of f ln 2. -/
def exp2Frac (f : Nat) : Nat :=
  let x := f * 12786308645202655660 / 2 ^ 64
  ((List.range 40).foldl (fun (acc : Nat × Nat) k => (acc.1 + acc.2, acc.2 * x / 2 ^ 64 / (k + 1))) (0, 2 ^ 64)).1

/-- 10^(x / 10) of a binary64 x in dB, as binary32 (R334). -/
def powerOfDb (x : U64) : U32 :=
  let v := f64Value x
  let y : Int := (v.num * 6127875739765271244).fdiv v.den
  let q := y.fdiv (2 ^ 64)
  ({ m := exp2Frac (y.fmod (2 ^ 64)).toNat, e := q - 64 } : Dy).to32

/-! ### L16 -/

/-- Whether num / den reaches the lower edge of L16 code y: 10^((y − 1/2) / 1,280). -/
def reachesL16 (num den : Nat) (y : Int) : Bool :=
  if 1 ≤ y then decide (10 ^ (2 * y - 1).toNat * den ^ 2560 ≤ num ^ 2560)
  else decide (den ^ 2560 ≤ num ^ 2560 * 10 ^ (1 - 2 * y).toNat)

/-- round(1,280 × log10 (num / den)), clamped to −32,768…32,767; −32,768 for zero (R5, R251). -/
def l16 (num den : Nat) : Int :=
  if num = 0 then -32768
  else [32768, 16384, 8192, 4096, 2048, 1024, 512, 256, 128, 64, 32, 16, 8, 4, 2, 1].foldl
    (fun y (b : Nat) => if reachesL16 num den (y + b) then y + b else y) (-32768)

/-- L16 of a binary32 power. -/
def l16Of32 (p : U32) : Int := let v := f32Value p; l16 v.num.toNat v.den

/-- A detector's level: within 0.02 dB, that is 2 codes of the nearest one, from −120 dBFS on (R228, R287). -/
def detectorLevel (num den : Nat) : Int :=
  let y := l16 num den
  let e := Config.levelNoise num den
  clampInt (-32768) 32767 (y + if -15360 ≤ y then clampInt (-2) 2 e else e)

/-! ### Cosines -/

/-- The fraction bits of fixed-point cosines. -/
def trigBits : Nat := 96

/-- 2π with 96 fraction bits. -/
def twoPi : Nat := 497805226624462170461043889244

/-- cos x by its series, x with 96 fraction bits. -/
def cosSeries (x : Int) : Int :=
  ((List.range 40).foldl (fun (acc : Int × Int) k =>
    (acc.1 + acc.2, -(((acc.2 * x).fdiv (2 ^ 96) * x).fdiv (2 ^ 96)).fdiv ((2 * k + 1) * (2 * k + 2) : Nat))) (0, 2 ^ 96)).1

/-- cos 2π a/L with 96 fraction bits. -/
def cosTurn (a L : Nat) : Int := cosSeries ((twoPi * (a % L) / L : Nat) : Int)

/-- sin 2π a/L with 96 fraction bits. -/
def sinTurn (a L : Nat) : Int := cosTurn (4 * a + 3 * L) (4 * L)

end Sys2Proof.Machine
end

