-- ==== Sys2Proof/Machine/ChanOps.lean ====
section
/-! DEFINITION. Channels: their samples in time, what a block reads of the conditioned stream, and the taps that offer records to
the ladles (R6, R7, R144-R146, R412-R416). -/

namespace Sys2Proof.Machine

/-! ### Channels -/

/-- Channel c. -/
def State.chan (s : State) (c : Nat) : Chan := Tab.get (fun _ => Chan.off) s.chans c

/-- Channel c changed by `f`. -/
def State.modChan (s : State) (c : Nat) (f : Chan → Chan) : State :=
  { s with chans := Tab.modify (fun _ => Chan.off) s.chans c f }

/-- Samples of a conditioner frame (R168). -/
def frameLen : Nat := 4096

/-- The channel rate in whole hertz, as calibration sets are keyed (R106, R189). -/
def State.chanRate (s : State) (c : Nat) : Nat := s.clk.rate / s.divider c

/-- The channel's output is delivered: it runs and nothing stops it (R14, R109, R117, R185, R618). -/
def Chan.delivers (h : Chan) : Bool := h.on && !h.gated && !h.discard && !h.shed && h.fg.isNone

/-- n samples of channel c in T96 units, to the nearest unit (R4, R144; DESIGN CHOICE, log entry 2: no rounding is stated). -/
def State.samplesToT (s : State) (c n : Nat) : Nat := (roundDiv (n * s.divider c * t96PerSecond : Nat) s.clk.rate).toNat

/-- Channel c is on the sample grid (R144, R145). -/
def State.onGrid (s : State) (c : Nat) : Bool := s.liveNum (0x2180 + 16 * c) 5 != 0

/-- T96 of sample n of channel c: on the grid by its index; off the grid, and before the present placement, from the latest frame
boundary that the timebase measured (R144, R146). -/
def State.sampleTime (s : State) (c n : Nat) : T96 :=
  if s.onGrid c && decide ((s.chan c).gridFrom ≤ n) then BitVec.ofNat 96 (s.samplesToT c n)
  else
    match (s.chan c).frames.find? (fun f => decide (f.s0 ≤ n)) with
    | some f => t96Add f.t0 (s.samplesToT c (n - f.s0))
    | none =>
      match (s.chan c).frames.getLast? with
      | some f => t96Add f.t0 (-(s.samplesToT c (f.s0 - n) : Int))
      | none => s.now

/-- T96 of the sample at a label, which may lie before sample 0 (R215). -/
def State.labelTime (s : State) (c : Nat) (n : Int) : T96 :=
  if 0 ≤ n then s.sampleTime c n.toNat else t96Add (s.sampleTime c 0) (-(s.samplesToT c (-n).toNat : Int))

/-- The SYNA frequency in force in units of 10^-12 Hz: the nominal rate and the present trim (R107, R108). -/
def State.synaRate (s : State) : Nat := (s.clk.rate * (10 ^ 12 + s.int 0x2100 3)).toNat

/-- The first sample on the grid of channel c whose T96 is at or after an instant (R25, R144). -/
def State.gridIndexAt (s : State) (c : Nat) (t : T96) : Nat :=
  let d := s.divider c * t96PerSecond
  let n := (t.toNat * s.clk.rate + d - 1) / d
  if 0 < n ∧ t.toNat ≤ s.samplesToT c (n - 1) then n - 1 else n

/-- The index of the first sample of channel c at or after an instant: on the grid the inverse of `sampleTime`; off the grid the
counter goes on at the rate in force from where the timebase last measured it (R25, R120, R144, R146). -/
def State.indexAt (s : State) (c : Nat) (t : T96) : Nat :=
  if s.onGrid c then s.gridIndexAt c t
  else
    let d := s.divider c * t96PerSecond * 10 ^ 12
    match (s.chan c).anchor with
    | some (n, t0) =>
      if t0.toNat ≤ t.toNat then n + ((t.toNat - t0.toNat) * s.synaRate + d - 1) / d
      else n - (t0.toNat - t.toNat) * s.synaRate / d
    | none => (s.chan c).counter

/-- T96 of a sample of a frame at an offset from its first one. -/
def State.frameTime (s : State) (c : Nat) (f : Frame) (n : Nat) : T96 :=
  if s.onGrid c && decide ((s.chan c).gridFrom ≤ n) then BitVec.ofNat 96 (s.samplesToT c n)
  else t96Add f.t0 (s.samplesToT c (n - f.s0))

/-! ### Reading the conditioned stream -/

/-- The frames that hold samples of [a, b), oldest first. -/
def Chan.framesOf (h : Chan) (a b : Nat) : List Frame :=
  (h.frames.filter (fun f => decide (f.s0 < b) && decide (a < f.s0 + f.len))).reverse

/-- Every sample of [a, b) was delivered (R237). -/
def Chan.covers (h : Chan) (a b : Nat) : Bool :=
  decide (a < b) && ((h.framesOf a b).map (fun f => min b (f.s0 + f.len) - max a f.s0)).foldl (· + ·) 0 == b - a

/-- The number of T96 steps before sample n of channel c (R137). -/
def State.stepsBefore (s : State) (c n : Nat) : Nat :=
  match (s.chan c).stepIx.find? (fun e => decide (e.1 ≤ n)) with
  | some e => e.2
  | none =>
    match (s.chan c).stepIx.getLast? with
    | some e => e.2 - 1
    | none => s.clk.steps

/-- The marks of the frames of [a, b) of channel c joined, with the steps before its first and last sample (R28, R29, R137,
R176). -/
def State.markOf (s : State) (c a b : Nat) : Mark :=
  ((s.chan c).framesOf a b).foldl (fun m f => m.join f.mark)
    { Mark.empty with steps := some (s.stepsBefore c a, s.stepsBefore c (b - 1)) }

/-- The outputs of stage 4 with indices [a, b). -/
def Chan.samples (h : Chan) (a b : Nat) : List Int :=
  (h.framesOf a b).flatMap (fun f => (f.q.take (b - f.s0)).drop (a - f.s0))

/-- The raw tap's samples with indices [a, b). -/
def Chan.rawSamples (h : Chan) (a b : Nat) : List Int :=
  (h.framesOf a b).flatMap (fun f => (f.raw.take (b - f.s0)).drop (a - f.s0))

/-- The output of stage 4 with index n; 0 for one that was not delivered. -/
def Chan.sample (h : Chan) (n : Nat) : Int :=
  match h.frames.find? (fun f => decide (f.s0 ≤ n)) with
  | some f => f.q.getD (n - f.s0) 0
  | none => 0

/-! ### Packed raw samples (R351) -/

/-- A 12-bit sample as stored. -/
def raw12 (x : Int) : Nat := bitsOf 12 x

/-- Pairs of samples in groups of three bytes, the first in bits [11:0]; an odd last sample fills [11:0] of a last group. -/
def packRaw : List Int → List Byte
  | [] => []
  | [x] => leBytes 3 (raw12 x)
  | x :: y :: rest => leBytes 3 (raw12 x + 4096 * raw12 y) ++ packRaw rest

/-! ### Taps to the ladles -/

/-- The kinds of source of a tap port (R412). -/
inductive TapKind where
  | reduced | bins | ddc | event
deriving DecidableEq

/-- Their codes. -/
def TapKind.code : TapKind → Nat
  | .reduced => 1 | .bins => 2 | .ddc => 3 | .event => 4

/-- The number of a tap: its kind, channel and index; the channel counts for no event tap and the index for no list of bins. -/
def tapNumber (k : TapKind) (c ix : Nat) : Nat :=
  k.code * 65536 + (if k = .event then 0 else c) * 256 + (if k = .bins then 0 else ix)

/-- The tap that a port's configuration subscribes to; 0 for none (R412). R6 names ladles among the subscribers of the Cross tap; R412
has no code for it and R415 no payload, and no port subscribes to it (DESIGN CHOICE, log entry 33). -/
def portTap (cfg : U64) : Nat :=
  let k := cfg.toNat / 2 ^ 56
  let c := cfg.toNat / 2 ^ 48 % 256
  let ix := cfg.toNat / 2 ^ 40 % 256
  if k = 1 then tapNumber .reduced c ix else if k = 2 then tapNumber .bins c ix else if k = 3 then tapNumber .ddc c ix
  else if k = 4 then tapNumber .event c ix else 0

/-- An entry as the delivery engine writes it: header, payload, zeros to a multiple of 64 bytes (R415, R509). -/
def entryBytes (r : Rec) (seq : Nat) : List Byte :=
  let b := r.bytes 0xFFFF seq false
  padTo (ceilTo 64 b.length) b

/-- A record offered on a tap: counted, and queued at every port that subscribes to it (R7, R415, R509). -/
def State.offer (s : State) (k : TapKind) (c ix : Nat) (r : Rec) : State :=
  let t := tapNumber k c ix
  let seq := Tab.get (fun _ => 0) s.tapSeq t
  let e : TapEntry := { bytes := entryBytes r seq, start := r.time, stop := r.stop }
  let give (p : Port) : Port := if portTap p.cfg = t then { p with queue := p.queue ++ [e] } else p
  { s with
    tapSeq := Tab.set (fun _ => 0) s.tapSeq t (seq + 1)
    ladles := s.ladles.map (fun (q : Nat × Ladle) => (q.1, { q.2 with ports := q.2.ports.map give })) }

/-! ### Inputs of the trigger units (R24, R286, R313) -/

/-- The pour under which a unit takes the input at sample n. -/
def Trig.pourAt (g : Trig) (n : Nat) : U32 := ((g.next.filter (fun e => decide (e.start ≤ n))).getLast?.map TrigTurn.pour).getD g.pour

/-- An input at sample n to every unit of channel c whose configuration there, by its kind and its source, takes it. -/
def State.feedUnits (s : State) (c n : Nat) (takes : Nat → Nat → Bool) (x : TrigIn) : State :=
  (upTo 4).foldl (fun s u =>
    let p := (Tab.get (fun _ => Trig.idle) s.trigs (4 * c + u)).pourAt n
    let i := 0x2500 + 16 * c + u
    if takes (s.cfg p i 1) (s.cfg p i 2) then
      { s with trigs := Tab.modify (fun _ => Trig.idle) s.trigs (4 * c + u) (fun g => { g with queue := g.queue ++ [x] }) }
    else s) s

/-! ### Fault elements of a channel -/

/-- An element's number: the channel, die or port in bits [63:56] and the slot, lane or other number below (R623). -/
def elementOf (c k : Nat) : Nat := c * 2 ^ 56 + k

end Sys2Proof.Machine
end

