-- ==== Sys2Proof/Machine/Capture.lean ====
section
/-! DEFINITION. The capture controller: writing the raw tap into HBM, decisions, segments and their headers, and its commands
(R349-R371). -/

namespace Sys2Proof.Machine

/-- Capture channel c. -/
def State.cap (s : State) (c : Nat) : Cap := Tab.get (fun _ => Cap.off) s.caps c

/-- Capture channel c changed by `f`. -/
def State.modCap (s : State) (c : Nat) (f : Cap → Cap) : State := { s with caps := Tab.modify (fun _ => Cap.off) s.caps c f }

/-- The capture block of channel c. -/
def capBlock (c : Nat) : BlockId := .capture (Fin.ofNat 4 c)

/-- The delay line (R356). -/
def delayLine : Nat := 131072

/-! ### Slots (R352, R363) -/

/-- Segment number k may be written: mode 1 never reuses a slot; otherwise its slot is unfilled, released, or its own. -/
def Cap.free (q : Cap) (k : Nat) : Bool :=
  let f := Tab.get (fun _ => 0) q.filled (k % q.count)
  q.mode == 1 || f == 0 || decide (f ≤ q.released) || f == k + 1

/-- Address of sample n in the slot of segment k (R351, R352). -/
def Cap.addr (q : Cap) (k n : Nat) : Nat := q.base + 64 * q.count + (k % q.count) * (3 * q.len / 2) + 3 * (n % q.len) / 2

/-- The first index that the slot of the next segment holds or will hold (R360). -/
def Cap.firstOf (q : Cap) : Nat :=
  if q.queue.any (fun g => !g.closing) then q.lastEnd.getD q.b
  else if Tab.get (fun _ => 0) q.filled (q.next % q.count) = q.next + 1 then q.b
  else max q.w (max q.armIx (q.lastEnd.getD 0))

/-- The state shown in 0x2701.02 while armed (R371). -/
def Cap.status (q : Cap) : Nat := if q.shed then 4 else if q.queue.isEmpty then 1 else 2

/-- The state shown while the channel is armed. -/
def State.showCap (s : State) (c : Nat) : State :=
  if (s.cap c).armed then s.showState (0x2701 + 16 * c) 2 (s.cap c).status else s

/-- The first sample of [a, b) that HBM did not get (R365). -/
def Cap.lossIn (q : Cap) (a b : Nat) : Option Nat :=
  let hits := q.losses.filter (fun l => decide (l.1 < b) && (l.2.map (fun e => decide (a < e))).getD true)
  hits.foldl (fun m l => some (max a (min l.1 (m.getD l.1)))) none

/-! ### Writing (R356, R361, R364) -/

/-- The raw tap's source at sample n (R171). -/
def Chan.uncorrectedAt (h : Chan) (n : Nat) : Bool := ((h.framesOf n (n + 1)).head?.map Frame.uncorrected).getD false

/-- Samples written at a time: every segment starts and ends at a multiple of them, one mapped from another divider too (R357,
R358, R360). -/
def blockLen : Nat := 64

/-- A block of samples from index n written into the slot of segment k. -/
def State.writeBlock (s : State) (c k n : Nat) : State :=
  let q := s.cap c
  let bytes := packRaw ((s.chan c).rawSamples n (n + blockLen))
  let m := s.markOf c n (n + blockLen)
  let raw := (s.chan c).uncorrectedAt n
  let s := (s.store (q.addr k n) bytes).queueBursts (0x09 + c) 0 (q.addr k n) bytes.length true
  s.modCap c (fun q => { q with
    filled := Tab.set (fun _ => 0) q.filled (k % q.count) (k + 1)
    b := if q.blocked || Tab.get (fun _ => 0) q.filled (k % q.count) != k + 1 then n else q.b
    blocked := false
    queue := q.queue.map (fun g => if g.number = k ∧ !g.closing ∧ g.s0 ≤ n ∧ n < g.stop then
      { g with valid1 := n + blockLen, closing := decide (g.stop ≤ n + blockLen), mark := g.mark.join m
               uncorrected := if g.valid1 = g.valid0 then raw else g.uncorrected } else g) })

/-- A segment number skipped for want of a slot (R364). -/
def State.dropSegment (s : State) (c : Nat) : State := s.bumpLive (0x2701 + 16 * c) 8

/-- A segment opened (R353, R360, R364). -/
def State.openSegment (s : State) (c : Nat) (g : Seg) : State :=
  (s.modCap c (fun q => { q with
    queue := q.queue ++ [{ g with contiguous := q.mode != 3 && q.lastEnd == some g.s0 }], next := g.number + 1, lastEnd := some g.stop })).showCap c

/-- A segment with nothing written yet. -/
def Seg.new (number s0 stop nT unit : Nat) : Seg :=
  { number := number, s0 := s0, stop := stop, nT := nT, unit := unit, valid0 := s0, valid1 := s0, contiguous := false
    mark := Mark.empty, uncorrected := false, early := 0, closing := false }

/-- Segments that were to start while capture was shed, or before a number was last used, are skipped and counted (R364, R366). -/
def State.skipTo (s : State) (c k : Nat) : State :=
  (s.modCap c (fun q => { q with next := max q.next k })).bumpLive (0x2701 + 16 * c) 8 (k - (s.cap c).next)

/-- The block of samples at index n of a continuous ring: the segments of the fixed grid (R353, R364). -/
def State.capFixed (s : State) (c n : Nat) : State :=
  let q := s.cap c
  let a := ceilTo q.len q.armIx
  if n < a then s
  else
    let k := (n - a) / q.len
    let start := a + k * q.len
    let s :=
      if n = start ∧ !q.stopping then
        let s := s.skipTo c k
        if q.free k then s.openSegment c (Seg.new k start (start + q.len) start 0xFF)
        else (s.dropSegment c).modCap c (fun q => { q with next := k + 1 })
      else s
    if (s.cap c).queue.any (fun g => g.number == k && !g.closing) then s.writeBlock c k n else s

/-- Sample n still belongs to the last accepted segment, which a loss has closed early: it goes into its slot and is no part of it
(R361, R365). -/
def Cap.trailing (q : Cap) (n : Nat) : Bool :=
  (q.lastEnd.map (fun e => decide (n < e))).getD false && Tab.get (fun _ => 0) q.filled ((q.next - 1) % q.count) == q.next

/-- The block of samples at index n of a triggered mode: the slot of the earliest segment whose end lies after it, accepted or not
(R361, R364). -/
def State.capTriggered (s : State) (c n : Nat) : State :=
  let q := s.cap c
  let g := q.queue.find? (fun g => !g.closing && decide (n < g.stop))
  let k := (g.map Seg.number).getD (if q.trailing n then q.next - 1 else q.next)
  if q.mode = 1 ∧ q.count ≤ k then s
  else if q.free k then s.writeBlock c k n
  else
    let s := s.modCap c (fun q => { q with blocked := true })
    match g with
    | some g =>
      if g.s0 ≤ n then (s.dropSegment c).modCap c (fun q => { q with queue := q.queue.filter (fun x => x.number != g.number) })
      else s
    | none => s

/-- The samples up to index `stop` written to HBM, block by block. -/
def State.capWrite (s : State) (c stop : Nat) : State :=
  let q := s.cap c
  let s := (List.range ((stop - q.w) / blockLen)).foldl (fun s i =>
    let q := s.cap c
    let n := q.w + blockLen * i
    if !q.armed || q.shed || n < q.armIx then s
    else if q.mode = 3 then s.capFixed c n
    else s.capTriggered c n) s
  (s.modCap c (fun q => { q with w := max q.w stop })).putLive (0x2701 + 16 * c) 0x0A (max q.w stop % 2 ^ 64)

/-- The write index follows the newest delivered sample (R356). -/
def State.capAdvance (s : State) (c : Nat) : State := s.capWrite c ((s.chan c).counter - delayLine)

/-! ### Ends -/

/-- An arming that has ended: its state, 3 done or 5 stopped (R353, R355). -/
def State.endArming (s : State) (c st : Nat) : State :=
  (s.modCap c (fun q => { q with armed := false, stopping := false, decisions := [] })).showState (0x2701 + 16 * c) 2 st

/-- A stopping arming ends with its last segment (R355). -/
def State.settleCap (s : State) (c : Nat) : State :=
  let q := s.cap c
  if q.armed && q.stopping && q.queue.isEmpty then s.endArming c 5
  else if q.armed && q.mode == 1 && decide (q.count ≤ q.next) && q.queue.isEmpty then s.endArming c 3
  else s.showCap c

/-- The segment in progress closes at index n with a cause flag, and queued ones that n has not reached are dropped (R355, R365,
R366). -/
def State.closeEarly (s : State) (c n flag : Nat) : State :=
  let q := s.cap c
  let drops := (q.queue.filter (fun g => !g.closing && decide (n ≤ g.s0))).length
  let s := s.modCap c (fun q => { q with
    queue := (q.queue.filter (fun g => g.closing || decide (g.s0 < n))).map (fun g => if g.closing then g else
      { g with valid1 := max g.valid0 (min g.valid1 n), early := flag, closing := true }) })
  s.bumpLive (0x2701 + 16 * c) 8 drops

/-- Abort, or a stop by a state change (R355, R367). -/
def State.abortCap (s : State) (c : Nat) : State :=
  if (s.cap c).armed then (s.closeEarly c (s.cap c).w 32).endArming c 5 else s

/-- The channel stops delivering at its counter: what was delivered is written, and a segment whose span goes on is closed with
the input-loss flag (R365). -/
def State.capLoss (s : State) (c : Nat) : State :=
  let n := (s.chan c).counter
  let s := if (s.cap c).armed then ((s.capWrite c n).closeEarly c n 8).showCap c else s
  s.modCap c (fun q => { q with losses := (n, none) :: q.losses })

/-- A write of capture data at an HBM address is lost to a slot overrun: every segment whose span holds its first sample, the last
one written at that place, closes there, and b restarts after it (R12, R365). -/
def State.capOverrun (s : State) (c addr : Nat) : State :=
  let q := s.cap c
  let place := (addr - (q.base + 64 * q.count)) % (3 * q.len / 2) * 2 / 3
  let n := q.w - 1 - (q.w - 1 + q.len - place) % q.len
  s.modCap c (fun q => { q with
    b := max q.b (n + blockLen), losses := (n, some (n + blockLen)) :: q.losses
    queue := q.queue.map (fun g => if g.s0 ≤ n ∧ n < g.stop then
      { g with valid1 := max g.valid0 (min g.valid1 n), early := if g.early = 0 then 8 else g.early, closing := true } else g) })

/-- Segments of the fixed grid whose first sample was not delivered: each closes at it, with nothing valid (R353, R365). -/
def State.capLost (s : State) (c n : Nat) : State :=
  let q := s.cap c
  if !q.armed || q.mode != 3 || q.shed || q.stopping then s
  else
    let a := ceilTo q.len q.armIx
    let first := (max q.w a - a + q.len - 1) / q.len
    let past := (n - a + q.len - 1) / q.len
    (List.range (past - first)).foldl (fun s i =>
      let start := a + (first + i) * q.len
      (s.skipTo c (first + i)).openSegment c
        { Seg.new (first + i) start (start + q.len) start 0xFF with early := 8, closing := true }) s

/-- The channel delivers again from index n (R365). -/
def State.capResume (s : State) (c n : Nat) : State :=
  (s.capLost c n).modCap c (fun q => { q with
    w := n, b := n, blocked := true
    losses := (q.losses.map (fun l => (l.1, some (l.2.getD n)))).filter (fun l => decide (n < l.2.getD n + 2 ^ 27)) })

/-- Capture of channel c is shed at Q5, and resumes (R366); with it its raw records (R172). -/
def State.shedCapture (s : State) (c : Nat) : State :=
  let s := if (s.cap c).armed then
    (s.closeEarly c (s.cap c).w 16).modCap c (fun q => { q with shed := true }) else
    s.modCap c (fun q => { q with shed := true })
  (s.showCap c).stopRunners (s.cfgRunner (s.pourOf (.conditioner (Fin.ofNat 4 c))) (0x2200 + 16 * c) 8) s.now 5 false
def State.restoreCapture (s : State) (c : Nat) : State :=
  let s := s.modCap c (fun q => { q with shed := false, b := q.w, blocked := true })
  (s.showCap c).restartRunners (s.cfgRunner (s.pourOf (.conditioner (Fin.ofNat 4 c))) (0x2200 + 16 * c) 8) s.now

/-! ### Decisions (R357-R362) -/

/-- The re-arm gap in samples: the power of two at or below fs × 60 ns (R359). -/
def State.rearmGap (s : State) (c : Nat) : Nat := 2 ^ (s.clk.rate * 60 / (s.divider c * 1000000000)).log2

/-- A decision of a unit, offered to every channel that takes it: forced ones stand for unit 16 (R310, R357). -/
def State.offerDecision (s : State) (d : Decision) : State :=
  (upTo 4).foldl (fun s c =>
    let q := s.cap c
    if q.armed && (q.mode == 1 || q.mode == 2) && q.follow == 255 && q.mask.testBit d.unit then
      s.modCap c (fun q => { q with decisions := q.decisions ++ [d] })
    else s) s

/-- A segment [s0, s0 + L) accepted on a channel, complete, already passed in part, or no longer held (R362); one whose span holds
a sample that HBM did not get closes at the first of them (R365). -/
def State.acceptAt (s : State) (c number s0 nT unit : Nat) : Option State :=
  let q := s.cap c
  let stop := s0 + q.len
  let g := Seg.new number s0 stop nT unit
  let held (lo hi : Nat) (closing : Bool) : Seg :=
    { g with valid0 := lo, valid1 := hi, closing := closing, mark := s.markOf c lo hi
             uncorrected := (s.chan c).uncorrectedAt lo }
  if stop ≤ q.w - q.len then none
  else if let some x := q.lossIn s0 stop then
    let lo := max s0 (max q.firstOf (q.w - q.len))
    some (s.openSegment c { held (if lo < x then lo else s0) (if lo < x then x else s0) true with early := 8 })
  else if q.w ≤ stop then
    let upto := max s0 (min q.w stop)
    some (s.openSegment c (held (max s0 (min q.firstOf upto)) upto (decide (stop ≤ q.w))))
  else
    let lo := max s0 (max (q.w - q.len) (if Tab.get (fun _ => 0) q.filled (number % q.count) = number + 1 then q.b else stop))
    some (s.openSegment c (held (min lo stop) stop true))

/-- A decision ignored (R359, R362). -/
def State.ignoreDecision (s : State) (c : Nat) : State := s.bumpLive (0x2701 + 16 * c) 7

/-- Accepted segments that are still waiting to be written (R359). -/
def Cap.waiting (q : Cap) : Nat := (q.queue.filter (fun g => !g.closing)).length

/-- A channel accepts no decision for segment k: it stops or is shed, 32 segments wait, or a sequence is complete (R353, R355, R359,
R366). -/
def Cap.refuses (q : Cap) (k : Nat) : Bool := q.stopping || q.shed || decide (32 ≤ q.waiting) || (q.mode == 1 && decide (q.count ≤ k))

/-- An accepted decision on a channel: its segment opens, or is dropped where its slot is not free; none where nothing of it is
held any more (R359, R362, R364). -/
def State.openFor (s : State) (c number s0 nT unit : Nat) : Option State :=
  let q := s.cap c
  (s.acceptAt c number s0 nT unit).map (fun t =>
    let t := if q.blocked && q.waiting == 0 && !q.free number then
        (s.dropSegment c).modCap c (fun q => { q with next := number + 1 }) else t
    (t.bumpLive (0x2701 + 16 * c) 6).modCap c (fun k => { k with m := s0 + q.len + s.rearmGap c }))

/-- The armed channels that follow channel c (R358). -/
def State.followers (s : State) (c : Nat) : List Nat :=
  (upTo 4).filter (fun f => (s.cap f).armed && ((s.cap f).mode == 1 || (s.cap f).mode == 2) && (s.cap f).follow == c)

/-- A decision ignored by a channel and by its followers (R358). -/
def State.ignoreAll (s : State) (c : Nat) : State := (s.followers c).foldl State.ignoreDecision (s.ignoreDecision c)

/-- Followers open the same segment (R358). -/
def State.followSegment (s : State) (c number s0 nT unit : Nat) : State :=
  (s.followers c).foldl (fun s f =>
    let map (n : Nat) : Nat := n * s.divider c / s.divider f
    let t := if (s.cap f).refuses number then none else s.openFor f number (map s0) (map nT) unit
    (t.getD (s.ignoreDecision f)).showCap f) s

/-- A decision taken by channel c (R359, R360, R364). -/
def State.takeDecision (s : State) (c : Nat) (d : Decision) : State :=
  let q := s.cap c
  let nT := if d.unit = 16 then d.nT else d.nT * s.divider (d.unit / 4) / s.divider c
  if q.refuses q.next || decide (nT < q.m) then s.ignoreAll c
  else
    let s0 := max ((nT - q.pre) / 128 * 128) q.firstOf
    let unit := if d.unit = 16 then 0xFE else d.unit
    match s.openFor c q.next s0 nT unit with
    | none => s.ignoreAll c
    | some t => t.followSegment c q.next s0 nT unit

/-! ### Headers (R368, R369) -/

/-- The flags of a segment's header. -/
def Seg.flags (g : Seg) (m : Mark) (cfg : U32) : Nat :=
  let complete := g.early == 0 && g.valid0 == g.s0 && g.valid1 == g.stop
  (if complete then 1 else 2) + (if g.contiguous then 4 else 0) + g.early + (if m.outMixed cfg then 64 else 0)
    + (if m.bits.testBit 6 then 128 else 0) + m.bits % 16 * 256 + (if g.uncorrected then 4096 else 0)

/-- The 64-byte header of a segment; the numbers since the last header are those of segments dropped (R364). -/
def State.segHeader (s : State) (c : Nat) (g : Seg) (m : Mark) (cfg : U32) : List Byte :=
  let body := leBytes 4 g.number ++ leBytes 4 (s.liveNum (0x2701 + 16 * c) 3) ++ leBytes 8 g.s0 ++ leBytes 8 g.nT
    ++ leBytes 12 (s.sampleTime c g.s0).toNat ++ leBytes 4 (g.valid0 - g.s0) ++ leBytes 4 (g.valid1 - g.valid0)
    ++ leBytes 4 (g.nT - g.s0) ++ leBytes 4 (m.outPour cfg).toNat ++ leBytes 1 g.unit ++ leBytes 1 c
    ++ leBytes 2 (g.flags m cfg) ++ leBytes 4 (g.number - (s.cap c).headed)
  body ++ leBytes 4 (crc32c body).toNat

/-- The closed segment in a recording stream: a notice and raw records of up to 65,536 samples (R540). -/
def State.recordSegment (s : State) (n c : Nat) (g : Seg) (m : Mark) (cfg : U32) (header : List Byte) : State :=
  let pour := m.outPour cfg
  let flags := m.bits ||| (if m.outMixed cfg then 16 else 0)
  let s := s.appendOwn n 0x1A c flags pour (s.sampleTime c g.s0) [] header
  let q := s.cap c
  let count := g.valid1 - g.valid0
  let s := (List.range ((count + 65535) / 65536)).foldl (fun s i =>
    let a := g.valid0 + 65536 * i
    let n' := min 65536 (g.valid1 - a)
    let first := min n' (q.len - a % q.len)
    let data := s.load (q.addr g.number a) (3 * first / 2) ++ s.load (q.addr g.number 0) (3 * (n' - first) / 2)
    (s.queueBursts (0x0D + c) 0 (q.addr g.number a) data.length false).appendOwn n 0x10 c flags pour (s.sampleTime c a)
      (leBytes 8 a ++ leBytes 4 n' ++ leBytes 1 (if g.uncorrected then 1 else 0)) data) s
  s.modStream n (fun r => { r with segs := r.segs ++ [(g.number, if r.series.isEmpty then r.next - 1 else r.next)] })

/-- The entries that a re-arm takes from the current pour (R354). -/
def State.rearm (s : State) (c : Nat) : State :=
  let i := 0x2700 + 16 * c
  let s := { s with ctl := { s.ctl with
    blockPour := Tab.set (fun _ => 0) s.ctl.blockPour (capBlock c).number s.ctl.currentPour } }
  s.modCap c (fun q => { q with mask := s.cur i 7 ||| 65536, pre := s.cur i 3, follow := s.cur i 8 })

/-- SEGMENT_CLOSE: the oldest closing segment's header goes to the header table and the notice runner, and a recording stream
takes the segment (R368, R540); the channel re-arms (R354). -/
def State.closeSegment (s : State) (c : Nat) (g : Seg) : State :=
  let q := s.cap c
  let cfg := s.pourOf (capBlock c)
  let m := g.mark
  let h := s.segHeader c g m cfg
  let a := q.base + 64 * (g.number % q.count)
  let s := (s.store a h).queueBursts (0x09 + c) 0 a 64 true
  let s := s.modCap c (fun q => { q with queue := q.queue.drop 1, headed := g.number + 1 })
  let j := 0x2701 + 16 * c
  let s := ((s.bumpLive j 4).putLive j 5 g.number).bumpLive j 9 (if g.flags m cfg % 2 = 1 then 0 else 1)
  let r : Rec := { typ := 0x1A, chan := c, source := 0, prog := 0, time := s.sampleTime c g.s0
                   stop := s.sampleTime c g.valid1, fields := [], payload := h, mark := m, cfgPour := cfg }
  let s := if q.notice = 0xFFFFFFFF then s else s.publish q.notice r
  let s := if q.byStore then
      match s.captureStream c with
      | some n => s.recordSegment n c g m cfg h
      | none => s
    else s
  ((s.rearm c).settleCap c).showGroup j

/-! ### Commands -/

/-- SEGMENT_CLOSE. -/
def execSegmentClose (c : Ch) (s : State) : Out State :=
  s.guarded (fun s =>
    match (s.cap c).queue with
    | [] => s
    | g :: _ => if g.closing then s.closeSegment c g else s)

/-- CAPTURE_DECISION: the oldest decision that has arrived (R359). -/
def execCaptureDecision (c : Ch) (s : State) : Out State :=
  s.guarded (fun s =>
    match (s.cap c).decisions with
    | [] => s
    | d :: rest => ((s.modCap c (fun q => { q with decisions := rest })).takeDecision c d).showCap c)

/-- What an arming has left to close is closed, header by header. -/
def State.closeAll (s : State) (c : Nat) : State :=
  (s.cap c).queue.foldl (fun s g => if g.closing then s.closeSegment c g else s) s

/-- CAPTURE_ARM: 1 written to Arm (R353, R354): a former arming ends as Abort ends it; slots are free, numbering starts at 0, and
every entry of the current pour is taken. A channel that is not running has no write index, and nothing to arm. -/
def execCaptureArm (r : Requester) (c : Ch) (s : State) : Out State :=
  s.guarded (fun s =>
    let i := 0x2700 + 16 * c.val
    s.mayWrite r (keyOf i 0x0B) (fun s =>
      if !(s.chan c).on then s
      else if s.cur i 1 = 0 then (s.abortCap c).showState (0x2701 + 16 * c.val) 2 0
      else
        let s := ((s.abortCap c).closeAll c).modCap c (fun q => { Cap.off with
          mode := s.cur i 1, len := s.cur i 2, count := s.cur i 4, base := s.cur i 5, byStore := s.cur i 9 == 1
          notice := s.cur i 0x0A, armed := true, shed := q.shed, armIx := ceilTo 128 q.w, w := q.w, b := ceilTo 128 q.w
          m := ceilTo 128 q.w, losses := q.losses })
        ((s.rearm c).bumpLive (0x2701 + 16 * c.val) 3).showCap c))

/-- CAPTURE_STOP: 1 written to Stop (R355). -/
def execCaptureStop (r : Requester) (c : Ch) (s : State) : Out State :=
  s.guarded (fun s => s.mayWrite r (keyOf (0x2700 + 16 * c.val) 0x0C) (fun s =>
    if (s.cap c).armed then (s.modCap c (fun q => { q with stopping := true })).settleCap c else s))

/-- CAPTURE_ABORT: 1 written to Abort (R355). -/
def execCaptureAbort (r : Requester) (c : Ch) (s : State) : Out State :=
  s.guarded (fun s => s.mayWrite r (keyOf (0x2700 + 16 * c.val) 0x0D) (fun s => s.abortCap c))

/-- CAPTURE_FORCE_TRIGGER: 1 written to Force trigger: a decision at the newest delivered sample (R357). -/
def execCaptureForceTrigger (r : Requester) (c : Ch) (s : State) : Out State :=
  s.guarded (fun s => s.mayWrite r (keyOf (0x2700 + 16 * c.val) 0x0E) (fun s =>
    let q := s.cap c
    let n := (s.chan c).counter - 1
    if q.armed && (q.mode == 1 || q.mode == 2) && q.follow == 255 then
      s.modCap c (fun q => { q with decisions := q.decisions ++ [{ unit := 16, number := 0, nT := n, t := s.sampleTime c n }] })
    else s))

/-- CAPTURE_RELEASE: a segment number written to Release through (R363): the latest number so far with those 32 bits, and every
segment so far where none has them. -/
def execCaptureRelease (r : Requester) (c : Ch) (seg : U32) (s : State) : Out State :=
  s.guarded (fun s => s.mayWrite r (keyOf (0x2700 + 16 * c.val) 0x0F) (fun s =>
    let q := s.cap c
    let back := (q.next + 2 ^ 32 - seg.toNat) % 2 ^ 32
    let s := s.put (0x2700 + 16 * c.val) 0x0F seg.toNat
    if q.next = 0 then s
    else s.releaseThrough c (if 1 ≤ back ∧ back ≤ q.next then q.next - back else q.next - 1)))

end Sys2Proof.Machine
end

