-- ==== Sys2Proof/Machine/TransformOps.lean ====
section
/-! DEFINITION. The transforms of a channel: windows, prototypes, bins, levels, products, and what a frame delivers or a lost
frame reports (R235-R280). -/

namespace Sys2Proof.Machine

/-- Channel c's transform engine. -/
def State.xf (s : State) (c : Nat) : Xf := Tab.get (fun _ => Xf.idle) s.xfs c

/-- It changed by `f`. -/
def State.modXf (s : State) (c : Nat) (f : Xf → Xf) : State := { s with xfs := Tab.modify (fun _ => Xf.idle) s.xfs c f }

/-! ### Coefficients (R242-R246) -/

/-- A generated window's a_i in units of 10^-8 (R242). -/
def windowTerms (code : Nat) : List Nat :=
  [[100000000], [50000000, 50000000], [42000000, 50000000, 8000000], [35875000, 48829000, 14128000, 1168000],
   [21557895, 41663158, 27726316, 8357895, 694737]].getD code []

/-- Σ a_i (−1)^i cos 2π i m / L, in units of 10^-8 with 96 fraction bits (R242). -/
def windowSum (code L m : Nat) : Int :=
  ((windowTerms code).zipIdx).foldl (fun (acc : Int) (a, i) =>
    let t : Int := a * cosTurn (i * m) L
    if i % 2 = 0 then acc + t else acc - t) 0

/-- A value in units of 10^-8 with 96 fraction bits as I20 in Q2.18 (R244). -/
def toQ18 (x : Int) : Int := clampBits 20 (roundDiv x (100000000 * 2 ^ 78))

/-- A generated window coefficient (R242, R244). -/
def genWindow (code L m : Nat) : Int := toQ18 (windowSum code L m)

/-- A generated prototype coefficient, width factor ρ in 10^-3 (R243, R244). -/
def genPrototype (code n p rho m : Nat) : Int :=
  let len := p * n
  let d : Int := 2 * m + 1 - len
  let num := rho * d.natAbs
  let den := 4000 * n
  let pix : Nat := (twoPi * num / den)
  let sinc : Int := (sinTurn num den * 2 ^ 96).fdiv pix
  toQ18 ((windowSum code len m * sinc).fdiv (2 ^ 96))

/-- What a main frame is computed with. -/
structure MainShape where
  n      : Nat
  mode   : Nat
  hop    : Nat
  window : Nat
  p      : Nat
  rho    : Nat
  zone   : Nat
  fallback : Bool
deriving DecidableEq

/-- The configured shape of channel c's main transform under a pour. -/
def State.mainShape (s : State) (p : U32) (c : Nat) : MainShape :=
  let i := 0x2400 + 16 * c
  { n := s.cfg p i 2, mode := s.cfg p i 3, hop := s.cfg p i 4, window := s.cfg p i 5, p := s.cfg p i 6, rho := s.cfg p i 7
    zone := s.cfg p i 8, fallback := false }

/-- The shape of a fallback frame: a direct frame of 2^n_fb points, Blackman-Harris in place of a user bank (R262). -/
def MainShape.asFallback (q : MainShape) (nfb : Nat) : MainShape :=
  { q with n := nfb, mode := 0, hop := 0, window := if q.window ≤ 4 then q.window else 3, fallback := true }

/-- N, H, L and whether the frame takes two passes (R237, R238). -/
def MainShape.len (q : MainShape) : Nat := 2 ^ q.n
def MainShape.step (q : MainShape) : Nat := if q.hop = 1 then q.len / 2 else q.len
def MainShape.span (q : MainShape) : Nat := if q.mode = 1 then q.p * q.len else q.len
def MainShape.twoPass (q : MainShape) : Bool := q.mode == 0 && decide (17 ≤ q.n)

/-- Coefficient m of a shape: a user bank's or a generated one (R242-R245). -/
def State.mainCoef (s : State) (q : MainShape) (m : Nat) : Int :=
  if q.window = 5 ∨ q.window = 6 then signedOf 32 (field (s.val 0x2481 (q.window - 4)).data (8 + 4 * m) 4)
  else if q.mode = 1 then genPrototype q.window q.len q.p q.rho m
  else genWindow q.window q.len m

/-- The sum of a shape's coefficients in Q2.18 (R244). -/
def State.coefSum (s : State) (q : MainShape) : Int := (List.range q.span).foldl (fun a m => a + s.mainCoef q m) 0

/-! ### Bins (R241, R248, R250) -/

/-- Stage 1: a frame's weighted values with 8 fraction bits (R241, R248). -/
def weigh (coef : Nat → Int) (n blocks : Nat) (x : List Int) : List Int :=
  (List.range n).map (fun m =>
    roundShift ((List.range blocks).foldl (fun a p => a + coef (m + p * n) * x.getD (m + p * n) 0) 0) 14)

/-- The limit of R281 on what the arithmetic adds to a component of X[k], in units of 2^-40 LSB, for coefficients of that sum in Q2.18:
−190 dB, or −175 dB for two passes, relative to a full-scale sine, half of that power in each component. -/
def noiseLimit (twoPass : Bool) (sum : Int) : Int := if twoPass then sum * 54 / 10 else sum * 96 / 100

/-- What the arithmetic adds to X[k], within the limit. -/
def stageNoise (twoPass : Bool) (sum : Int) (u : List Int) (k : Nat) : Int × Int :=
  let l := noiseLimit twoPass sum
  let e := Config.binNoise u k
  (clampInt (-l) l e.1, clampInt (-l) l e.2)

/-- X[k] of a weighted frame in units of 2^-8 LSB, for coefficients of a sum: the sum of R241 and what the arithmetic of the stages
adds, rounded to the 8 fraction bits of stage 6, whose 44 bits it does not leave (R248, R249). -/
def binOf (sum : Int) (u : List Int) (n k : Nat) : Int × Int :=
  let (re, im) := (u.zipIdx).foldl (fun (acc : Int × Int) (x, m) =>
    (acc.1 + x * cosTurn (k * m) n, acc.2 - x * sinTurn (k * m) n)) (0, 0)
  let e := stageNoise false sum u k
  (roundShift (re + e.1 * 2 ^ 64) 96, roundShift (im + e.2 * 2 ^ 64) 96)

/-- Z[k] in binary32: a component of X[k] times the binary32 reciprocal of 1,024 · N · CG (R248, R250). -/
def normalise (sum : Int) (x : Dy) : U32 := (x.mul (f32Value (f32OfRat (2 ^ 18) (1024 * sum.toNat)))).to32

/-- A component in units of 2^-8 LSB. -/
def dyOf8 (x : Int) : Dy := { m := x, e := -8 }

/-- Bins 0 to N/2 − 1 of the direct or filterbank frame of channel c that starts at s0. -/
def State.mainBins (s : State) (c s0 : Nat) (q : MainShape) : List (U32 × U32) :=
  let x := (s.chan c).samples s0 (s0 + q.span)
  let u := weigh (s.mainCoef q) q.len (if q.mode = 1 then q.p else 1) x
  let sum := s.coefSum q
  (List.range (q.len / 2)).map (fun k =>
    let b := binOf sum u q.len k
    (normalise sum (dyOf8 b.1), normalise sum (dyOf8 b.2)))

/-! ### Two passes (R257, R258) -/

/-- M₁ = 2^⌈(n−1)/2⌉ and M₂ = 2^⌊(n−1)/2⌋ (R257). -/
def MainShape.m1 (q : MainShape) : Nat := 2 ^ (q.n / 2)
def MainShape.m2 (q : MainShape) : Nat := 2 ^ ((q.n - 1) / 2)

/-- An exact complex value. -/
structure DyPair where
  re : Dy
  im : Dy

/-- Sum, difference, product and conjugate of exact complex values; e^(−2πj a/L). -/
def DyPair.add (x y : DyPair) : DyPair := { re := x.re.add y.re, im := x.im.add y.im }
def DyPair.sub (x y : DyPair) : DyPair := { re := x.re.sub y.re, im := x.im.sub y.im }
def DyPair.mul (x y : DyPair) : DyPair :=
  { re := (x.re.mul y.re).sub (x.im.mul y.im), im := (x.re.mul y.im).add (x.im.mul y.re) }
def DyPair.conj (x : DyPair) : DyPair := { x with im := x.im.neg }
def DyPair.turn (a L : Nat) : DyPair := { re := { m := cosTurn a L, e := -96 }, im := { m := -(sinTurn a L), e := -96 } }

/-- The corner-turn buffer b of channel c: 4N bytes, in the channel's 128 MiB of the region (R258, R350). -/
def cornerTurnAddr (c : Nat) (b : Bool) : Nat := cornerTurnBase + c * 0x08000000 + (if b then 0x04000000 else 0)

/-- Pass 1's value k₁ of column m₂ of a weighted frame: values packed in pairs, transformed over the first factor and rounded to 8
fraction bits, then the twiddle, in binary32 (R248, R257). -/
def pass1Value (u : List Int) (q : MainShape) (k1 m2 : Nat) : U32 × U32 :=
  let (re, im) := (List.range q.m1).foldl (fun (acc : Int × Int) m1 =>
    let i := 2 * (q.m2 * m1 + m2)
    let x := u.getD i 0
    let y := u.getD (i + 1) 0
    let a := cosTurn (m1 * k1) q.m1
    let b := sinTurn (m1 * k1) q.m1
    (acc.1 + x * a + y * b, acc.2 + y * a - x * b)) (0, 0)
  let v : DyPair := { re := dyOf8 (roundShift re 96), im := dyOf8 (roundShift im 96) }
  let w := v.mul (DyPair.turn (m2 * k1) (q.m1 * q.m2))
  (w.re.to32, w.im.to32)

/-- The intermediate of the two-pass frame of channel c that starts at s0, in corner-turned order: row k₁ holds its M₂ values one after
another (R257). -/
def State.intermediate (s : State) (c s0 : Nat) (q : MainShape) : List Byte :=
  let u := weigh (s.mainCoef q) q.len 1 ((s.chan c).samples s0 (s0 + q.len))
  (List.range q.m1).flatMap (fun k1 => (List.range q.m2).flatMap (fun m2 =>
    let w := pass1Value u q k1 m2
    leBytes 4 w.1.toNat ++ leBytes 4 w.2.toNat))

/-- Value k of the packed transform from rows of an intermediate: the transform of row k mod M₁ over the second factor (R257). -/
def packedValue (rows : List Byte) (q : MainShape) (k : Nat) : DyPair :=
  let row := (rows.drop (8 * q.m2 * (k % q.m1))).take (8 * q.m2)
  (List.range q.m2).foldl (fun acc m2 =>
    let v (i : Nat) : Dy := f32Value (BitVec.ofNat 32 (field row (8 * m2 + i) 4))
    acc.add (({ re := v 0, im := v 4 } : DyPair).mul (DyPair.turn (m2 * (k / q.m1)) q.m2))) { re := Dy.zero, im := Dy.zero }

/-- Bin k of a two-pass frame: the unpack of the packed transform and what the arithmetic adds, in binary32, normalised (R248, R250). -/
def pass2Bin (sum : Int) (rows : List Byte) (q : MainShape) (k : Nat) : U32 × U32 :=
  let m := q.m1 * q.m2
  let a := packedValue rows q k
  let b := (packedValue rows q ((m - k) % m)).conj
  let odd := (a.sub b).mul (DyPair.turn (4 * k + q.len) (4 * q.len))
  let x := a.add (b.add odd)
  let e := stageNoise true sum (rows.map (fun (y : Byte) => (y.toNat : Int))) k
  let half (v : Dy) (e : Int) : Dy := f32Value (({ v with e := v.e - 1 } : Dy).add { m := e, e := -40 }).to32
  (normalise sum (half x.re e.1), normalise sum (half x.im e.2))

/-- Bins 0 to N/2 − 1 of the frame whose intermediate stands in a buffer of channel c (R257). -/
def State.pass2Bins (s : State) (c : Nat) (b : Bool) (q : MainShape) : List (U32 × U32) :=
  let rows := s.load (cornerTurnAddr c b) (4 * q.len)
  (List.range (q.len / 2)).map (pass2Bin (s.coefSum q) rows q)

/-- Bursts of a class leave the queue: what they move has been moved. -/
def State.dropBursts (s : State) (owner : Nat) : State :=
  { s with hbm := { s.hbm with queue := s.hbm.queue.filter (fun b => b.owner != owner) } }

/-- Levels of a side frame: generated windows 0-4, delivered in L16 (R266). -/
def State.sideLevels (s : State) (c s0 n window : Nat) : List Int :=
  let x := (s.chan c).samples s0 (s0 + n)
  let u := weigh (genWindow window n) n 1 x
  let sum := (List.range n).foldl (fun a m => a + genWindow window n m) 0
  (List.range (n / 2)).map (fun k =>
    let b := binOf sum u n k
    l16Of32 (power32 (normalise sum (dyOf8 b.1), normalise sum (dyOf8 b.2))))

/-! ### Formats and records (R251, R254, R255, R278) -/

/-- A bin in a format: 0 CF32, 1 PF32, 2 L16 (R251). -/
def binBytes (fmt : Nat) (z : U32 × U32) : List Byte :=
  match fmt with
  | 0 => leBytes 4 z.1.toNat ++ leBytes 4 z.2.toNat
  | 1 => leBytes 4 (power32 z).toNat
  | _ => leBytes 2 (bitsOf 16 (l16Of32 (power32 z)))

/-- A power in PF32 or L16. -/
def powerBytes (fmt : Nat) (p : U32) : List Byte :=
  if fmt = 2 then leBytes 2 (bitsOf 16 (l16Of32 p)) else leBytes 4 p.toNat

/-- The geometry byte of a frame (R506). -/
def ZFrame.geometry (z : ZFrame) : Nat :=
  (if z.hopHalf then 1 else 0) + (if z.mode = 1 then 2 else 0) + (if z.p = 8 then 4 else 0) + (if z.zone = 2 then 8 else 0)
    + (if z.twoPass then 16 else 0)

/-- The block fields of a frame's record (R506). -/
def ZFrame.fields (z : ZFrame) (first bins fmt : Nat) : List Byte :=
  leBytes 8 z.s0 ++ leBytes 4 first ++ leBytes 4 bins ++ leBytes 1 z.n ++ leBytes 1 z.geometry ++ leBytes 1 z.window
    ++ leBytes 1 fmt

/-- The span of a frame in samples (R237). -/
def ZFrame.span (z : ZFrame) : Nat := (if z.mode = 1 then z.p else 1) * 2 ^ z.n

/-- The hop of a frame. -/
def ZFrame.hop (z : ZFrame) : Nat := if z.hopHalf then 2 ^ z.n / 2 else 2 ^ z.n

/-- A frame's mark with its fallback flag. -/
def ZFrame.recMark (z : ZFrame) : Mark := { z.mark with flags := z.mark.flags ||| (if z.fallback then 256 else 0) }

/-- Parts of at most b bins: first and count; b = 0 makes one part (R255). -/
def binParts (first count b : Nat) : List (Nat × Nat) :=
  if b = 0 then [(first, count)]
  else (List.range ((count + b - 1) / b)).map (fun i => (first + i * b, min b (count - i * b)))

/-- The selection of a main frame's runner output: first bin and count, and its band in a fallback frame (R254, R263). -/
def State.mainSelection (s : State) (p : U32) (c : Nat) (z : ZFrame) : Nat × Nat :=
  let i := 0x2400 + 16 * c
  let k0 := s.cfg p i 0x0A
  let k := s.cfg p i 0x0B
  if z.fallback then
    let n := 2 ^ s.cfg p i 2
    let f := 2 ^ z.n
    let lo := k0 * f / n
    let hi := if k = 0 then f / 2 else min (f / 2) (((k0 + k) * f + n - 1) / n)
    (lo, hi - lo)
  else (k0, if k = 0 then 2 ^ z.n / 2 - k0 else k)

/-- A record of a frame's bins. -/
def State.binRecord (s : State) (typ chan source c : Nat) (z : ZFrame) (first count fmt : Nat) (payload : List Byte) : Rec :=
  { typ := typ, chan := chan, source := source, prog := 0, time := z.t0, stop := s.sampleTime c (z.s0 + z.span)
    fields := z.fields first count fmt, payload := payload, mark := z.recMark, cfgPour := z.pour }

/-! ### Reduction slots -/

/-- The source codes of channel c's slots that a product feeds: 2, 3 or 4 on the lower channel of a pair (R332). -/
def State.feedSlots (s : State) (c source : Nat) (x : RedIn) : State :=
  (upTo 6).foldl (fun s r =>
    let p := s.pourOf (.reduction (Fin.ofNat 4 c) (Fin.ofNat 6 r))
    if s.cfgOn p (0x2602 + 16 * c + r) 1 && s.cfg p (0x2602 + 16 * c + r) 3 == source then
      { s with reds := Tab.modify (fun _ => Red.idle) s.reds (6 * c + r) (fun q => { q with queue := q.queue ++ [x] }) }
    else s) s

/-! ### Products (R269-R272) -/

/-- The pour in force at a sample, by the configurations of a transform; `none` listed stands for the default one. -/
def pourAt (l : List (Nat × U32)) (n : Nat) : U32 := ((l.find? (fun g => decide (g.1 ≤ n))).map Prod.snd).getD 0

/-- The configurations of a transform that a frame from sample n on can still take. -/
def prunePours : List (Nat × U32) → Nat → List (Nat × U32)
  | [], _ => []
  | g :: rest, n => if g.1 ≤ n then [g] else g :: prunePours rest n

/-- The pour of the cross-power unit for the frame of channel c that starts at s0 (R239). -/
def State.crossPour (s : State) (c s0 : Nat) : U32 := pourAt (s.xf c).crossPours s0

/-- The auto product of channel c, to its runner and its slots. -/
def State.deliverAuto (s : State) (c : Nat) (z : ZFrame) : State :=
  let p := s.crossPour c z.s0
  if (s.cfg p 0x2480 2).testBit c then
    let a := z.bins.map power32
    let fmt := if s.cfg p 0x2480 3 = 0 then 1 else 2
    let w := { z with mark := z.mark.through p, bins := a.map (fun x => (x, 0)) }
    let r := { s.binRecord 0x14 c 0 c w 0 a.length fmt (a.flatMap (powerBytes fmt)) with cfgPour := p }
    ((s.autoRunners p c).foldl (fun s n => s.publish n r) s).feedSlots c 1 (.frame w)
  else s

/-- The cross product of pair i for a frame that both channels have produced. -/
def State.deliverCross (s : State) (i : Nat) (a b : Nat) (za zb : ZFrame) : State :=
  let p := s.crossPour a za.s0
  let bins := List.zipWith conjProduct32 za.bins zb.bins
  let w := { za with mark := (za.mark.join zb.mark).through p, bins := bins }
  let r := { s.binRecord 0x15 a i a w 0 bins.length 0 (bins.flatMap (binBytes 0)) with cfgPour := p }
  ((s.cfgRunner p 0x2480 (4 + i)).foldl (fun s n => s.publish n r) s).feedSlots a (1 + b - a) (.frame w)

/-- The enabled pairs that channel c takes part in for its frame at s0, each with its lower and its other channel: number, a, b, partner. -/
def State.pairsOf (s : State) (c s0 : Nat) : List (Nat × Nat × Nat × Nat) :=
  let p := s.crossPour c s0
  (crossPairs.zipIdx).filterMap (fun (((a, b), i) : (Nat × Nat) × Nat) =>
    if (s.cfg p 0x2480 1).testBit i && (a == c || b == c) then some (i, a, b, if a = c then b else a) else none)

/-- Every enabled cross product that a new frame of channel c completes; the frame is kept for the others (R269). -/
def State.deliverCrosses (s : State) (c : Nat) (z : ZFrame) : State :=
  (s.pairsOf c z.s0).foldl (fun s (i, a, b, o) =>
    match (s.xf o).recent.find? (fun w => w.1.s0 == z.s0 && w.1.n == z.n && w.2.contains i) with
    | some (w, _) =>
      let s := s.modXf o (fun x => { x with
        recent := x.recent.map (fun e => if e.1.s0 = z.s0 then (e.1, e.2.erase i) else e) })
      if a = c then s.deliverCross i a b z w else s.deliverCross i a b w z
    | none =>
      if (s.xf o).lost.contains z.s0 then s
      else s.modXf c (fun x => match x.recent with
        | (w, l) :: rest => if w.s0 = z.s0 then { x with recent := (w, i :: l) :: rest } else { x with recent := (z, [i]) :: x.recent }
        | [] => { x with recent := [(z, [i])] })) s

/-! ### A frame delivered, and a frame lost -/

/-- The entry that a frame offers to the ladles that take selected bins: s_f, the count, and the listed bins in CF32 (R279,
R415). A listed bin that a fallback frame does not have is a free value. -/
def State.offerBins (s : State) (c : Nat) (z : ZFrame) : State :=
  let list := s.cfgData z.pour (0x2404 + 16 * c) 0
  let n := list.length / 4
  if n = 0 then s
  else
    let bin (k : Nat) : List Byte :=
      match z.bins[k]? with
      | some b => binBytes 0 b
      | none => leBytes 8 s.fresh
    let r := s.binRecord 0x13 c 0 c z 0 n 0
      (leBytes 8 z.s0 ++ leBytes 4 n ++ leBytes 4 0 ++ (List.range n).flatMap (fun i => bin (field list (4 * i) 4)))
    s.drew.offer .bins c 0 r

/-- Channel o can still bring its main frame over [s0, s1): it has not passed it, and it runs, or has delivered the span (R269). -/
def State.frameComes (s : State) (o s0 s1 : Nat) : Bool :=
  (s.chan o).on && ((s.chan o).delivers || (s.chan o).covers s0 s1)
    && (decide ((s.xf o).nextMain ≤ s0) || ((s.xf o).pass2.map (fun f => decide (f.s0 ≤ s0))).getD false)

/-- The cross-power unit gives up the products of channel c's frames whose other frame does not come: their slots lose them, for the
cause that stopped the other channel (R272, R337). -/
def State.pruneRecent (s : State) (c : Nat) : State :=
  let x := s.xf c
  let comes (z : ZFrame) (i : Nat) : Bool :=
    (s.pairsOf c z.s0).any (fun e => e.1 == i && s.frameComes e.2.2.2 z.s0 (z.s0 + z.span))
  let given := x.recent.reverse.flatMap (fun e => (e.2.filter (fun i => !comes e.1 i)).map (fun i => (e.1, i)))
  let s := s.modXf c (fun x => { x with
    recent := (x.recent.map (fun e => (e.1, e.2.filter (comes e.1)))).filter (fun e => !e.2.isEmpty)
    lost := x.lost.filter (fun n => (s.pairsOf c n).any (fun e => decide ((s.xf e.2.2.2).nextMain ≤ n)
      || ((s.xf e.2.2.2).pass2.map (fun f => decide (f.s0 ≤ n))).getD false)) })
  given.foldl (fun s (z, i) =>
    match (s.pairsOf c z.s0).find? (fun e => e.1 == i) with
    | some (_, a, b, o) => s.feedSlots a (1 + b - a) (.lost z (if (s.chan o).shed then 5 else 3))
    | none => s) s

/-- The length exponent and the state of a main transform shown in 0x2403.04 and .07 (R283). -/
def State.showMain (s : State) (c n st : Nat) : State := (s.showState (0x2403 + 16 * c) 4 n).showState (0x2403 + 16 * c) 7 st

/-- The state of a transform that computes frames of a shape. -/
def MainShape.state (q : MainShape) : Nat := if q.fallback then 3 else if q.twoPass then 2 else 1

/-- A main frame at the main tap: runner records, selected bins, slots, auto and cross products (R254-R256, R269, R279). -/
def State.deliverMain (s : State) (c : Nat) (z : ZFrame) : State :=
  let i := 0x2400 + 16 * c
  let fmt := s.cfg z.pour i 9
  let (k0, k) := s.mainSelection z.pour c z
  let s := (binParts k0 k (s.cfg z.pour i 0x0C)).foldl (fun s ((first, n) : Nat × Nat) =>
    let r := s.binRecord 0x13 c 0 c z first n fmt (((z.bins.drop first).take n).flatMap (binBytes fmt))
    (s.mainRunners z.pour c).foldl (fun s n => s.publish n r) s) s
  let s := ((s.offerBins c z).feedSlots c 0 (.frame z)).deliverAuto c z
  let s := (s.pruneRecent c).deliverCrosses c z
  let j := 0x2403 + 16 * c
  ((((s.bumpLive j 2).putLive j 4 z.n).putLive j 7 (if z.fallback then 3 else if z.twoPass then 2 else 1)).putLive j 8
    (z.s0 % 2 ^ 64)).showGroup j

/-- The runners that a frame of channel c feeds, each once for each record. -/
def State.frameRunners (s : State) (c : Nat) (z : ZFrame) : List Nat :=
  let p := s.crossPour c z.s0
  let (k0, k) := s.mainSelection z.pour c z
  (binParts k0 k (s.cfg z.pour (0x2400 + 16 * c) 0x0C)).flatMap (fun _ => s.mainRunners z.pour c) ++ s.autoRunners p c
    ++ (crossPairs.zipIdx).flatMap (fun (((a, b), i) : (Nat × Nat) × Nat) =>
      let o := if a = c then b else a
      onlyIf ((s.cfg p 0x2480 1).testBit i && (a == c || b == c) && !(s.xf o).lost.contains z.s0) (s.cfgRunner p 0x2480 (4 + i)))

/-- A main frame that is not produced: every record it would have made is missed, and products and slots lose it (R261, R272,
R275). -/
def State.loseMain (s : State) (c : Nat) (z : ZFrame) (cause : Nat) : State :=
  let p := s.crossPour c z.s0
  let stop := s.sampleTime c (z.s0 + z.span)
  let s := (s.frameRunners c z).foldl (fun s n => s.missRecord n z.t0 stop cause) s
  let s := (s.feedSlots c 0 (.lost z cause)).feedSlots c 1 (.lost z cause)
  let s := (crossPairs.zipIdx).foldl (fun s (((a, b), i) : (Nat × Nat) × Nat) =>
    let o := if a = c then b else a
    if (s.cfg p 0x2480 1).testBit i && (a == c || b == c) && !(s.xf o).lost.contains z.s0 then
      s.feedSlots a (1 + b - a) (.lost z cause)
    else s) s
  let s := (s.modXf c (fun x => { x with lost := z.s0 :: x.lost })).pruneRecent c
  (s.bumpLive (0x2403 + 16 * c) 3).showGroup (0x2403 + 16 * c)

/-! ### The configurations of a main transform (R239, R262, R264) -/

/-- The configuration that governs the frame at sample n. -/
def Xf.cfgAt (x : Xf) (n : Nat) : MainCfg :=
  (x.cfgs.find? (fun g => decide (g.start ≤ n))).getD { start := 0, asked := 0, pour := 0, fb := none }

/-- The configurations that a frame from sample n on can still take. -/
def pruneCfgs : List MainCfg → Nat → List MainCfg
  | [], _ => []
  | g :: rest, n => if g.start ≤ n then [g] else g :: pruneCfgs rest n

/-- The shape that a configuration gives its frames. -/
def State.cfgShape (s : State) (c : Nat) (g : MainCfg) : MainShape :=
  let q := s.mainShape g.pour c
  match g.fb with
  | some n => q.asFallback n
  | none => q

/-- The main transform of channel c is enabled under a pour. -/
def State.mainOn (s : State) (c : Nat) (p : U32) : Bool := s.cfgOn p (0x2400 + 16 * c) 1

/-- The shape of the frame of channel c that starts at s0, with its pour. -/
def State.frameShape (s : State) (c s0 : Nat) : MainShape × U32 :=
  let g := (s.xf c).cfgAt s0
  (s.cfgShape c g, g.pour)

/-- A frame as it leaves the main transform, with its bins; a frame that is not produced has none. -/
def State.zframe (s : State) (c s0 : Nat) (q : MainShape) (p : U32) (bins : List (U32 × U32)) : ZFrame :=
  { s0 := s0, t0 := s.sampleTime c s0, n := q.n, hopHalf := q.hop == 1, mode := q.mode, p := q.p, window := q.window
    zone := q.zone, twoPass := q.twoPass, fallback := q.fallback, bins := bins
    mark := (s.markOf c s0 (s0 + q.span)).through p, pour := p }

/-- The next frame of channel c starts at n, or, where the main transform is off there, with the first configuration after that turns it
on; off, it is shown so. -/
def State.advanceMain (s : State) (c n : Nat) : State :=
  let x := s.xf c
  let later := (x.cfgs.filter (fun g => decide (n < g.start) && s.mainOn c g.pour)).getLast?
  let on := s.mainOn c (x.cfgAt n).pour
  let next := if on then n else (later.map MainCfg.start).getD n
  let s := s.modXf c (fun x => { x with nextMain := next, cfgs := pruneCfgs x.cfgs n })
  if on then s else s.showMain c 0 0

/-! ### Lane errors (R274-R276) -/

/-- How many main frames to come precede those that contain a sample, and how many these are (R275). -/
def State.framesWith (s : State) (c index : Nat) : Nat × Nat :=
  let s0 := (s.xf c).nextMain
  let (q, p) := s.frameShape c s0
  if !s.mainOn c p || decide (index < s0) then (0, 0)
  else
    let first := if index < s0 + q.span then 0 else (index - s0 - q.span) / q.step + 1
    (first, (index - s0) / q.step + 1 - first)

/-- The runners that an error at a sample affects, each with its first and last affected sequence numbers, as the stream stands: the
first is that of the first record that is not produced, the last that of the first data record after it; a frame in pass 2 is delivered
before both, and is then the first data record after recovery (R276, R625). -/
def State.laneAffected (s : State) (c index : Nat) (group : Bool) : List (Nat × Nat × Nat) :=
  let x := s.xf c
  let (q, p) := s.frameShape c x.nextMain
  let (before, k) := s.framesWith c index
  let ns := s.frameRunners c (s.zframe c x.nextMain q p [])
  let delivers := (x.pass2.map (fun f => !f.lost)).getD false
  (ns.eraseDups).filterMap (fun n =>
    let m := (ns.filter (fun j => j == n)).length
    let next := (s.runner n).nextSeq.toNat
    let first := next + m * (before + (if x.pass2.isSome then 1 else 0))
    if k = 0 then (if group && delivers then some (n, next, next) else none)
    else some (n, first, if delivers then next else first + m * k + 1))

/-- An event of a lane: counted, and declared lasting; the spare takes the lane at the next frame boundary where it is free (R15,
R274, R276). -/
def State.laneEvent (s : State) (c lane : Nat) (runners : List (Nat × Nat × Nat)) : State :=
  let x := s.xf c
  let spare := x.spareLane.isNone && x.laneTakeover.isNone && decide (lane < 16)
  let (s, n, lasting) := s.countFault .lane (elementOf c lane)
  let s := s.journalFault .lane (elementOf c lane) n lasting spare runners
  if lasting && spare then s.modXf c (fun x => { x with laneTakeover := some lane }) else s

/-- A lane error event, as 0x2403.06 counts it (R274). -/
def State.laneFault (s : State) (c lane : Nat) (runners : List (Nat × Nat × Nat)) : State :=
  (s.bumpLive (0x2403 + 16 * c) 6).laneEvent c lane runners

/-- The logical lane that a physical one carries: none for the spare before it is in service, and for a lane that it replaces (R235). -/
def Xf.logical (x : Xf) (lane : Nat) : Option Nat :=
  if lane = 16 then x.spareLane else if x.spareLane = some lane then none else some lane

/-- A row group of the frame in pass 2 passed a flagged token: it is recomputed, at once, or on the new lane set where the lane waits for
the spare (R275, R276). -/
def State.flagGroup (s : State) (c lane : Nat) : State :=
  let s := s.bumpLive (0x2403 + 16 * c) 9
  s.modXf c (fun x => { x with
    pass2 := x.pass2.map (fun f => { f with held := f.held || x.laneTakeover == some lane }) })

/-- A lane error: the sample's token is flagged on the datapaths that it takes, and the event counted and journalled with the runners
that it affects; their next records carry the resumed flag, after the spare's takeover where the lane is lasting (R274-R276). A sample's
token travels on its logical lane alone (R235). -/
def State.laneError (s : State) (c : Nat) (e : LaneError) (side group : Bool) : State :=
  let x := s.xf c
  if x.logical e.lane.val ≠ some (e.index % 16) then s
  else
    let group := group && x.pass2.isSome
    let hit := if side && !e.shared then [] else s.laneAffected c e.index group
    let ns := hit.map Prod.fst
    let s := s.modXf c (fun x => { x with
      flagged := if side && !e.shared then x.flagged else e.index :: x.flagged
      sideFlagged := if side || e.shared then e.index :: x.sideFlagged else x.sideFlagged })
    let s := s.laneFault c e.lane.val hit
    let s := if group then s.flagGroup c e.lane.val else s
    if (s.xf c).laneTakeover = some e.lane.val then s.modXf c (fun x => { x with laneHit := x.laneHit ++ ns }) else s.markResumed ns

/-- The same for an event that a command may bring. -/
def State.laneErrors (s : State) (c : Nat) (e : Option LaneError) (side group : Bool) : State :=
  match e with
  | some e => s.laneError c e side group
  | none => s

/-- A sample of [a, b) has a flagged token. -/
def hasFlag (l : List Nat) (a b : Nat) : Bool := l.any (fun n => decide (a ≤ n) && decide (n < b))

end Sys2Proof.Machine
end

