-- ==== Sys2Proof/Machine/Transform.lean ====
section
/-! DEFINITION. Commands of the transform engines (chapter 06), their switch to a new configuration, and Q4 (R262-R264). -/

namespace Sys2Proof.Machine

/-- The newest accepted pour whose instant is at or before t (R240). -/
def State.newestPour (s : State) (t : T96) : U32 :=
  ((s.ctl.pours.find? (fun p => decide (p.tc.toNat ≤ t.toNat))).map Pour.number).getD 0

/-- The newer of two pours (R78, R138). -/
def newerPour (a b : U32) : U32 := if a = 0 ∨ (b ≠ 0 ∧ older a b = true) then b else a

/-- The pour that a block starts under at t: the newest whose instant is reached and whose rate SYNA has been given, and no older than
the one that the block has taken, which a backward step does not take back (R110, R138, R240). -/
def State.startPour (s : State) (b : BlockId) (t : T96) : U32 :=
  let reached := s.ctl.pours.find? (fun p => decide (p.tc.toNat ≤ t.toNat) && s.cfg p.number 0x2100 1 == s.clk.rate)
  newerPour ((reached.map Pour.number).getD 0) (s.pourOf b)

/-- The pour that gives SYNA its rate: a backward step does not take back the one that it has been set from (R109, R138). -/
def State.synaPour (s : State) : U32 := newerPour (s.newestPour s.now) s.clk.ratePour

/-! ### Main frames -/

/-- A frame that is complete: delivered, or lost to an error. -/
def State.finishMain (s : State) (c : Nat) (z : ZFrame) (lost : Bool) : State :=
  let s := if lost then s.loseMain c { z with bins := [] } 4 else s.deliverMain c z
  s.modXf c (fun x => { x with crossPours := prunePours x.crossPours z.s0 })

/-- MAIN_FRAME: the next direct, filterbank or fallback frame whose span has been delivered (R237, R241, R262); it is lost to a flagged
token or to an SRAM word that no check bits could correct (R275, R393). The first one after a stop ends it (R23, R240, R263). -/
def execMainFrame (c : Ch) (laneError : Option LaneError) (ecc : Ecc) (s : State) : Out State :=
  s.guarded (fun s =>
    let s0 := (s.xf c).nextMain
    let (q, p) := s.frameShape c s0
    if !s.mainOn c p || q.twoPass || !(s.chan c).covers s0 (s0 + q.span) then s
    else
      let s := (s.sramRead ecc).laneErrors c laneError false false
      let lost := hasFlag (s.xf c).flagged s0 (s0 + q.span) || ecc == .uncorrectable
      let z := s.zframe c s0 q p (if lost then [] else s.mainBins c s0 q)
      let s := (s.restartRunners (s.frameRunners c z) z.t0).finishMain c z lost
      (s.modXf c (fun x => { x with flagged := x.flagged.filter (fun n => decide (s0 + q.step ≤ n)) })).advanceMain c (s0 + q.step))

/-- PASS2_START: the last intermediate value of a two-pass frame has been written; pass 2 reads the intermediate back (R257). A frame
with a flagged token is abandoned (R275). -/
def execPass2Start (c : Ch) (laneError : Option LaneError) (s : State) : Out State :=
  s.guarded (fun s =>
    let x := s.xf c
    let s0 := x.nextMain
    let (q, p) := s.frameShape c s0
    if !s.mainOn c p || !q.twoPass || x.pass2.isSome || x.bx.isSome || !(s.chan c).covers s0 (s0 + q.len) then s
    else
      let s := (s.laneErrors c laneError false false).dropBursts (1 + c.val)
      let lost := (s.xf c).pass1Lost || hasFlag (s.xf c).flagged s0 (s0 + q.len)
      let a := cornerTurnAddr c x.buffer
      let s := if lost then s
        else (s.store a (s.intermediate c s0 q)).queueBursts (5 + c.val) 0 a (4 * q.len) false
      let s := s.modXf c (fun x => { x with
        pass2 := some { s0 := s0, n := q.n, lost := lost, pour := p, buffer := x.buffer, held := false }
        buffer := !x.buffer, pass1Lost := false, flagged := x.flagged.filter (fun n => decide (s0 + q.len ≤ n)) })
      s.advanceMain c (s0 + q.len))

/-- TWO_PASS_FRAME_COMPLETE: the frame is delivered, or lost with its pass 1 (R257, R261). A lane error flags a row group of this frame
and the sample's token in pass 1; a frame whose row groups wait for the spare is delivered by the next completion after the takeover
(R275, R276). -/
def execTwoPassFrameComplete (c : Ch) (laneError : Option LaneError) (s : State) : Out State :=
  s.guarded (fun s =>
    match (s.xf c).pass2 with
    | none => s
    | some _ =>
      let s := s.laneErrors c laneError false true
      match (s.xf c).pass2 with
      | none => s
      | some f =>
        if f.held then s
        else
          let q := s.mainShape f.pour c
          let z := s.zframe c f.s0 q f.pour (if f.lost then [] else s.pass2Bins c f.buffer q)
          ((s.dropBursts (5 + c.val)).modXf c (fun x => { x with pass2 := none })).finishMain c z f.lost)

/-! ### Side frames -/

/-- Length, hop, window and enable of a side transform under a pour (R265). -/
def State.sideShape (s : State) (p : U32) (c : Nat) (side : Side) : Bool × Nat × Nat × Nat :=
  let o := if side = .density then 0 else 4
  let i := 0x2401 + 16 * c
  let n := 2 ^ s.cfg p i (2 + o)
  (s.cfgOn p i (1 + o), n, if s.cfg p i (3 + o) = 0 then n / 2 else n / 4, s.cfg p i (4 + o))

/-- The block of trigger unit u of channel c. -/
def trigBlock (c u : Nat) : BlockId := .trig (Fin.ofNat 16 (4 * c + u))

/-- A side frame at its tap: to every mask or density unit that takes it, and to the density engine (R286, R318). -/
def State.deliverSide (s : State) (c : Nat) (side : Side) (f : LFrame) : State :=
  let source := if side = .density then 1 else 0
  let s := s.feedUnits c f.s0 (fun kind src => (kind == 1 || kind == 2) && src == source) (.frame f)
  if side = .density && (Tab.get (fun _ => Dens.off) s.dens c).on then
    { s with dens := Tab.modify (fun _ => Dens.off) s.dens c (fun d => { d with queue := d.queue ++ [f] }) }
  else s

/-- The flagged tokens that a side frame may still meet: those from the earlier of the next side frames on. -/
def Xf.pruneSide (x : Xf) (on : Side → Bool) : Xf :=
  let least := if on .density && on .trigger then min x.nextDens x.nextTrig else if on .density then x.nextDens else x.nextTrig
  { x with sideFlagged := x.sideFlagged.filter (fun n => decide (least ≤ n)) }

/-- SIDE_FRAME: the next frame of a side transform; one that passed a flagged token is delivered zero-filled and invalid (R266,
R275). -/
def execSideFrame (c : Ch) (side : Side) (laneError : Option LaneError) (s : State) : Out State :=
  s.guarded (fun s =>
    let x := s.xf c
    let s0 := if side = .density then x.nextDens else x.nextTrig
    let p := pourAt (if side = .density then x.densPours else x.trigPours) s0
    let (on, n, hop, window) := s.sideShape p c side
    if !on || !(s.chan c).covers s0 (s0 + n) then s
    else
      let s := s.laneErrors c laneError true false
      let bad := hasFlag (s.xf c).sideFlagged s0 (s0 + n)
      let s := s.modXf c (fun x => if side = .density then { x with nextDens := s0 + hop } else { x with nextTrig := s0 + hop })
      let sideOn (d : Side) : Bool :=
        (s.sideShape (pourAt (if d = .density then x.densPours else x.trigPours) (if d = .density then x.nextDens else x.nextTrig)) c d).1
      let s := s.modXf c (fun x => x.pruneSide sideOn)
      let f : LFrame := { s0 := s0, t0 := s.sampleTime c s0, n := n, hop := hop
                          levels := if bad then List.replicate (n / 2) 0 else s.sideLevels c s0 n window
                          valid := !bad, mark := (s.markOf c s0 (s0 + n)).through p }
      (s.deliverSide c side f).when bad (fun s => s.bumpLive (0x2403 + 16 * c) 0x0A))

/-! ### Lanes -/

/-- LANE_SPARE_TAKEOVER: the spare carries the lasting lane's logical lane, flagged row groups are recomputed on the new lane set, and
the first record of each affected runner from now on carries the resumed flag (R276). -/
def execLaneSpareTakeover (c : Ch) (s : State) : Out State :=
  s.guarded (fun s =>
    match (s.xf c).laneTakeover with
    | none => s
    | some l =>
      let hit := (s.xf c).laneHit
      let s := s.modXf c (fun x => { x with
        laneTakeover := none, spareLane := some l, laneHit := [], pass2 := x.pass2.map (fun f => { f with held := false }) })
      (s.showState (0x2403 + 16 * c) 5 l).markResumed hit)

/-! ### The switch to a new configuration (R239, R264) -/

/-- The boundary at which the main transform, now under `g`, takes a configuration of hop `h` from sample n on: a multiple of both hops;
while it is off, of the new one (R239). -/
def State.mainBoundary (s : State) (c : Nat) (g : MainCfg) (h n : Nat) : Nat :=
  if s.mainOn c g.pour then ceilTo (max (s.cfgShape c g).step h) (max (max n g.start) (s.xf c).nextMain) else ceilTo h n

/-- The fallback of a configuration that starts in Q4: a two-pass one runs it, with the exponent that is in use or its own (R264). -/
def State.q4Fallback (s : State) (c : Nat) (inUse : Option Nat) (new : U32) : Option Nat :=
  if s.mainOn c new && (s.mainShape new c).twoPass then some (inUse.getD (s.cfg new (0x2400 + 16 * c) 0x0E)) else none

/-- The newest configuration. -/
def Xf.newest (x : Xf) : MainCfg := x.cfgs.headD { start := 0, asked := 0, pour := 0, fb := none }

/-- A configuration put on top; where the main transform is off now, the next frame starts with it. -/
def State.pushCfg (s : State) (c : Nat) (g : MainCfg) : State :=
  let x := s.xf c
  let on := s.mainOn c (x.cfgAt x.nextMain).pour
  s.modXf c (fun x => { x with cfgs := g :: x.cfgs, nextMain := if on then x.nextMain else g.start })

/-- The main transform takes a pour asked for at sample n. In Q4 a two-pass configuration starts with fallback frames; between t_x and
b_x too, and two-pass then starts at the first multiple of its N after both t_x and its boundary (R239, R264). -/
def State.switchMain (s : State) (c n : Nat) (new : U32) (q4 : Bool) : State :=
  let x := s.xf c
  let plain (s : State) : State :=
    let g := (s.xf c).newest
    let fb := if q4 then s.q4Fallback c g.fb new else none
    let b := s.mainBoundary c g (s.cfgShape c { start := 0, asked := n, pour := new, fb := fb }).step n
    s.pushCfg c { start := b, asked := n, pour := new, fb := fb }
  match x.bx with
  | none => plain s
  | some bx =>
    let g := ({ x with cfgs := x.cfgs.tail } : Xf).newest
    let fb := s.q4Fallback c g.fb new
    let b := s.mainBoundary c g (s.cfgShape c { start := 0, asked := n, pour := new, fb := fb }).step n
    if bx ≤ b then plain s
    else
      let s := (s.modXf c (fun x => { x with cfgs := x.cfgs.tail, bx := none })).pushCfg c { start := b, asked := n, pour := new, fb := fb }
      if fb.isSome then
        let bx := ceilTo (s.mainShape new c).len (max x.tx b)
        (s.modXf c (fun x => { x with bx := some bx })).pushCfg c { start := bx, asked := n, pour := new, fb := none }
      else s

/-- The cross-power unit takes a pour for the frames of channel c, at the boundary of its main transform (R239). -/
def State.switchCross (s : State) (c n : Nat) (new : U32) : State :=
  let x := s.xf c
  let b := match x.cfgs.find? (fun g => g.pour == new) with
    | some g => max g.start (ceilTo (s.cfgShape c g).step n)
    | none => s.mainBoundary c x.newest (s.mainShape new c).step n
  s.modXf c (fun x => { x with crossPours := (b, new) :: x.crossPours })

/-! ### Q4 (R262-R264) -/

/-- Entry to Q4: a two-pass channel abandons the frame in pass 1 and runs fallback frames from the next multiple of N_fb. A two-pass
configuration that has not started, or a resumption that waits, falls back too. -/
def State.enterFallback (s : State) (c : Nat) : State :=
  let x := s.xf c
  let (q, p) := s.frameShape c x.nextMain
  let abandons := s.mainOn c p && q.twoPass
  let inUse := if q.fallback then some q.n else if abandons then some (s.cfg p (0x2400 + 16 * c) 0x0E) else none
  let waiting := (x.cfgs.filter (fun g => decide (x.nextMain < g.start))).map (fun g =>
    { g with fb := match g.fb with | some e => some e | none => s.q4Fallback c inUse g.pour })
  let rest := x.cfgs.filter (fun g => decide (g.start ≤ x.nextMain))
  let now := s.indexAt c s.now
  let s := s.modXf c (fun x => { x with cfgs := waiting ++ rest, bx := none })
  match (if abandons then inUse else none) with
  | none => s
  | some e =>
    let z := s.zframe c x.nextMain q p []
    let start := ceilTo (2 ^ e) (max x.nextMain now)
    let s := (s.stopRunners (s.frameRunners c z) z.t0 5 false).dropBursts (1 + c)
    s.modXf c (fun x => { x with
      cfgs := waiting ++ { start := start, asked := now, pour := p, fb := some e } :: rest
      nextMain := start, stoppedReport := false, pass1Lost := false })

/-- Leaving Q4 at t_x: fallback frames go on up to b_x. Configurations that have not started yet find their boundaries anew. -/
def State.leaveFallback (s : State) (c : Nat) : State :=
  let x := s.xf c
  let g := x.cfgAt x.nextMain
  let tx := s.indexAt c s.now
  let waiting := x.cfgs.filter (fun g => decide (x.nextMain < g.start))
  let rest := x.cfgs.filter (fun g => decide (g.start ≤ x.nextMain))
  let s := s.modXf c (fun x => { x with cfgs := rest })
  let s := match g.fb with
    | some _ =>
      let bx := ceilTo (s.mainShape g.pour c).len (max x.nextMain tx)
      s.modXf c (fun x => { x with
        cfgs := { start := bx, asked := tx, pour := g.pour, fb := none } :: x.cfgs, tx := tx, bx := some bx })
    | none => s
  waiting.reverse.foldl (fun s w => s.switchMain c w.asked w.pour false) s

/-- TWO_PASS_STOPPED: pass 2 of the last frame has finished; the engine reports it to the quench controller (R263). -/
def execTwoPassStopped (c : Ch) (s : State) : Out State :=
  s.guarded (fun s =>
    if ((s.xf c).cfgAt (s.xf c).nextMain).fb.isSome && (s.xf c).pass2.isNone then s.modXf c (fun x => { x with stoppedReport := true })
    else s)

/-- TWO_PASS_RESUME: the fallback ends at b_x, where the first two-pass frame starts, once a frequency step on the way up is complete
(R264, R382 step 7). -/
def execTwoPassResume (c : Ch) (s : State) : Out State :=
  s.guarded (fun s =>
    match (s.xf c).bx with
    | none => s
    | some b =>
      if b ≤ (s.xf c).nextMain ∧ s.hbm.step.isNone ∧ s.hbm.slow = false then
        let (q, p) := s.frameShape c b
        let s := s.modXf c (fun x => { x with bx := none, stoppedReport := false, pass1Lost := false })
        (s.restartRunners (s.frameRunners c (s.zframe c b q p [])) (s.sampleTime c b)).showMain c q.n q.state
      else s)

/-! ### Side transforms, and restarts (R239, R240) -/

/-- A side transform takes a pour. -/
def State.switchSide (s : State) (c : Nat) (side : Side) (n : Nat) (new : U32) : State :=
  let x := s.xf c
  let next := if side = .density then x.nextDens else x.nextTrig
  let (onOld, _, ho, _) := s.sideShape (pourAt (if side = .density then x.densPours else x.trigPours) next) c side
  let (_, _, hn, _) := s.sideShape new c side
  let b := if onOld then ceilTo (max ho hn) (max n next) else ceilTo hn n
  s.modXf c (fun x => if side = .density
    then { x with densPours := (b, new) :: x.densPours, nextDens := if onOld then x.nextDens else b }
    else { x with trigPours := (b, new) :: x.trigPours, nextTrig := if onOld then x.nextTrig else b })

/-- The transforms of channel c start at the first delivered sample: the newest configuration, the first multiple of its hop
(R240). A fallback goes on, and so does pass 2 of a frame that was delivered whole. -/
def State.startTransforms (s : State) (c first : Nat) : State :=
  let t := s.sampleTime c first
  let ch : Ch := Fin.ofNat 4 c
  let x := s.xf c
  let p := s.startPour (.main ch) t
  let pd := s.startPour (.side ch .density) t
  let pt := s.startPour (.side ch .trigger) t
  let inUse := (x.cfgAt x.nextMain).fb
  let fb := if 4 ≤ s.hea.level then s.q4Fallback c inUse p else none
  let g : MainCfg := { start := first, asked := first, pour := p, fb := fb }
  let q := s.cfgShape c g
  let (_, _, hd, _) := s.sideShape pd c .density
  let (_, _, ht, _) := s.sideShape pt c .trigger
  let s := s.modXf c (fun x => { x with
    cfgs := [g], crossPours := (first, s.startPour .cross t) :: (if x.pass2.isSome then x.crossPours else [])
    densPours := [(0, pd)], trigPours := [(0, pt)], nextMain := ceilTo q.step first
    nextDens := ceilTo hd first, nextTrig := ceilTo ht first, pass1Lost := false, tx := 0
    bx := none, recent := [], lost := [], flagged := [], sideFlagged := [] })
  let s := (((s.setPour (.main ch) p).setPour (.side ch .density) pd).setPour (.side ch .trigger) pt).dropBursts (1 + c)
  if s.mainOn c p then s.showMain c q.n q.state else s.showMain c 0 0

/-- What pass 1 of channel c writes of samples [a, b) as they arrive: 4 bytes each, in the buffer of their frame (R257, R258). -/
def State.cornerTurnWrites (s : State) (c a b : Nat) : State :=
  let x := s.xf c
  let (q, p) := s.frameShape c x.nextMain
  if !s.mainOn c p || !q.twoPass || x.bx.isSome || decide (a < x.nextMain) then s
  else
    let other := (a - x.nextMain) / q.len % 2 == 1
    s.queueBursts (1 + c) 0 (cornerTurnAddr c (x.buffer != other) + 4 * ((a - x.nextMain) % q.len)) (4 * (b - a)) true

/-! ### User banks (R245-R247) -/

/-- A window bank's image is in order (R245). -/
def windowImageOk (b : List Byte) : Bool :=
  let l := field b 0 4
  decide (256 ≤ l) && decide (l ≤ 2 ^ 19) && l == 2 ^ l.log2 && b.length == 8 + 4 * l
    && field b 4 4 == (crc32c (b.drop 8)).toNat
    && (List.range l).all (fun i =>
      let x := signedOf 32 (field b (8 + 4 * i) 4)
      decide (-524288 ≤ x) && decide (x ≤ 524287))

/-- A bank (window code 5 or 6) is used by a main transform or named in an outstanding commit (R247). -/
def State.windowUsed (s : State) (code : Nat) : Bool :=
  (upTo 4).any (fun c =>
    let i := 0x2400 + 16 * c
    let named (p : U32) : Bool := s.cfgOn p i 1 && s.cfg p i 5 == code
    (s.ctl.running && (s.chan c).on && (named (s.pourOf (.main (Fin.ofNat 4 c)))
      || (s.xf c).cfgs.any (fun g => named g.pour) || ((s.xf c).pass2.map (fun f => named f.pour)).getD false))
      || s.outstanding.any (fun p => named p.number))

/-- TRANSFORM_BANK_WRITE: bank A (false) or B (R245, R247). -/
def execTransformBankWrite (r : Requester) (bank : Bool) (image : List Byte) (s : State) : Out State :=
  s.guarded (fun s =>
    let sub := if bank then 2 else 1
    s.mayWrite r (keyOf 0x2481 sub) (fun s =>
      if !windowImageOk image then s.refuse r 0x06090030 (keyOf 0x2481 sub)
      else if s.windowUsed (if bank then 6 else 5) then s.refuse r 0x08000020 (keyOf 0x2481 sub)
      else s.putVal 0x2481 sub (.bytes image)))

end Sys2Proof.Machine
end

