-- ==== Sys2Proof/Machine/Hbm.lean ====
section
/-! DEFINITION. The HBM controller: the slot table and its Q4 schedule, bursts, refresh, training, frequency steps, ECC; and the
SRAM groups in retention (R372-R396). -/

namespace Sys2Proof
namespace Machine

/-! ### The table (R373, R375-R377, R383) -/

/-- The owner codes of an image, slot 0 first (R375). -/
def imageCodes (image : List Byte) : List Nat := (image.drop 8).map BitVec.toNat

/-- A code of a real-time class. -/
def realTime (code : Nat) : Bool := code != 0 && code != 0xFF

/-- A corner-turn code. -/
def cornerTurn (code : Nat) : Bool := decide (1 ≤ code) && decide (code ≤ 8)

/-- The next free best-effort slot after slot i, cyclically. -/
def nextFree (codes : List Nat) (i : Nat) : Option Nat :=
  let n := codes.length
  ((List.range n).map (fun j => (i + 1 + j) % n)).find? (fun j => codes.getD j 0xFF == 0)

/-- The Q4 schedule of a table, and whether every real-time slot found its pair (R377). -/
def q4Schedule (table : List Nat) : List Nat × Bool :=
  let base := table.map (fun c => if cornerTurn c then 0 else c)
  (base.zipIdx).foldl (fun ((codes, ok) : List Nat × Bool) ((c, i) : Nat × Nat) =>
    if realTime c then
      match nextFree codes i with
      | some j => (codes.set j c, ok)
      | none => (codes, false)
    else (codes, ok)) (base, true)

/-- Slots of a class. -/
def slotsOf (table : List Nat) (code : Nat) : Nat := (table.filter (fun c => c == code)).length

/-- The write allocation outside the corner turns in units of 1 MB/s, times the table size (R383). A slot of a table of S slots is
3,276,800 / S MB/s. -/
def State.writeAllocation (s : State) (p : U32) (table : List Nat) : Nat :=
  let unit := 3276800
  let cap := (upTo 4).foldl (fun a c => a + slotsOf table (0x09 + c) * unit) 0
  (upTo 16).foldl (fun a g =>
    let all := slotsOf table (0x11 + g) * unit
    match s.cfg p (0x2B20 + g) 3 with
    | 1 => a + all
    | 2 => a
    | _ => a + min all (s.cfg p (0x2B20 + g) 1 * table.length)) cap

/-- A frequency step may be made (R383). -/
def State.stepAvailable (s : State) : Bool :=
  let t := s.slotTable
  decide (s.writeAllocation (s.pourOf .slotTable) t ≤ 182400 * t.length)

/-- A frequency step at a table-cycle start: one that no window holds back puts the Q4 schedule in force and stops the bus; one
whose clock has moved trains every domain (R382 steps 2-4 and 6). -/
def State.stepAtCycle (s : State) : State :=
  match s.hbm.step with
  | some (up, .requested) =>
    if s.hbm.gathering.isEmpty then { s with hbm := { s.hbm with step := some (up, .stopped), q4 := true } } else s
  | some (up, .moved) =>
    State.putLive { s with hbm := { s.hbm with
      step := some (up, .training), gathering := (List.range 16).map (fun d => (d, true)) } } 0x2801 2 3
  | _ => s

/-- TABLE_CYCLE_START: a table whose commit has reached its instant becomes active (R372, R376); a frequency step goes on (R382); the
HBM and SRAM groups are updated (R392). -/
def execTableCycleStart (s : State) : Out State :=
  s.guarded (fun s =>
    if !s.ctl.hbmReady then s
    else
      let p := newerPour (s.newestPour s.now) (s.pourOf .slotTable)
      let s := s.setPour .slotTable p
      let table := imageCodes (s.cfgData p 0x2800 1)
      let s := State.stepAtCycle { s with hbm := { s.hbm with table := table } }
      let s := ((s.bumpLive 0x2801 3).putLive 0x2801 4 table.length).putLive 0x2801 5 (table.filter realTime).length
      let s := (s.putLive 0x2801 6 (if (q4Schedule table).2 then 1 else 0)).putLive 0x2801 7 (if s.stepAvailable then 1 else 0)
      ((s.showGroup 0x2801).showGroup 0x2802).showGroup 0x2810)

/-! ### Bursts (R374, R378) -/

/-- A burst takes its place in the queue no more. -/
def takeBurst (q : List Burst) (b : Burst) : List Burst := q.erase b

/-- A burst that best effort serves: one with no real-time class, or a staging group's, which class 1 serves beyond the group's slots
(R378, R513). -/
def Burst.bestEffort (b : Burst) : Bool :=
  b.owner == 0 || b.owner == trainingOwner || (decide (0x11 ≤ b.owner) && decide (b.owner ≤ 0x20))

/-- The best-effort burst that a channel serves: one above the age limit before all others, oldest first, then the highest class,
oldest first; one above the limit counts as promoted (R378). -/
def State.bestEffort (s : State) (chan : Nat) : Option (Burst × Bool) :=
  let mine := s.hbm.queue.filter (fun b => b.chan == chan && b.bestEffort)
  let limit := s.num 0x2800 2
  let old := mine.find? (fun b => decide ((limit : Int) * t96PerSecond < t96Diff s.now b.born * 1000000000))
  match old with
  | some b => some (b, true)
  | none => ([0, 1, 2, 3].findSome? (fun k => mine.find? (fun b => b.cls == k))).map (fun b => (b, false))

/-- Best-effort bursts served in the beats that are left. -/
def State.serveBeats (s : State) (chan : Nat) : Nat → Nat → State
  | 0, _ => s
  | fuel + 1, beats =>
    match s.bestEffort chan with
    | some (b, promoted) =>
      if b.beats ≤ beats then
        let s := { s with hbm := { s.hbm with queue := takeBurst s.hbm.queue b } }
        (if promoted then s.bumpLive 0x2801 0x0A else s).serveBeats chan fuel (beats - b.beats)
      else s
    | none => s

/-! ### ECC (R385-R388) -/

/-- Rows whose windows are open. -/
def State.openRows (s : State) : Nat :=
  (s.flt.windows.filter (fun (e : Nat × FaultWin) => decide (8 * 2 ^ 64 ≤ e.1) && decide (e.1 < 9 * 2 ^ 64)
    && decide (0 < e.2.count) && decide (s.ctl.crystalCount < e.2.start + e.2.w))).length

/-- An event of a row counted for up to 64 rows at a time; a lasting row waits for its repair (R388). -/
def State.rowFault (s : State) (addr owner : Nat) : State :=
  let row := addr / 2048 * 2048
  let counted := (Tab.get (fun _ => FaultWin.closed) s.flt.windows (faultKey .hbmRow row)).count != 0 || decide (s.openRows < 64)
  if !counted then s
  else
    let (s, n, lasting) := s.countFault .hbmRow row
    let s := s.report { severity := if lasting then 3 else 1, subsys := 12, kind := if lasting then 2 else 1, cls := 8
                        element := addr, count := n, detail := owner, code := 0x5000 }
    if lasting && !s.flt.rows.contains row then
      State.putLive { s with flt := { s.flt with rows := s.flt.rows ++ [row] } } 0x2802 7 (s.flt.rows.length + 1)
    else s

/-- What a read meets in the check bits (R385-R388). -/
def State.eccEvent (s : State) (addr owner : Nat) (ecc : Ecc) : State :=
  match ecc with
  | .clean => s
  | .onDie => s.bumpLive 0x2802 9
  | .corrected => ((((s.bumpLive 0x2802 2).putLive 0x2802 4 addr).putLive 0x2802 5 1).putLive 0x2802 6 owner).rowFault addr owner
  | .uncorrectable => ((((s.bumpLive 0x2802 3).putLive 0x2802 4 addr).putLive 0x2802 5 2).putLive 0x2802 6 owner).rowFault addr owner

/-- The owner of a slot under the schedule in force. -/
def State.slotOwner (s : State) (slot : Nat) : Nat :=
  let t := s.slotTable
  let t := if s.hbm.q4 then (q4Schedule t).1 else t
  t.getD (slot % t.length) 0xFF

/-- What a served burst read: a best-effort read writes a corrected word back in its class, a real-time read never does; a frame
loses a corner-turn read that cannot be corrected (R261, R386, R387). Writes and training meet no word to check. -/
def State.burstRead (s : State) (b : Burst) (owner : Nat) (ecc : Ecc) : State :=
  if b.write || b.owner == trainingOwner then s
  else
    let s := s.eccEvent b.addr owner ecc
    if owner = 0 ∧ ecc = .corrected then s.queueBursts 0 b.cls (b.addr / 8 * 8) 8 true
    else if 5 ≤ owner ∧ owner ≤ 8 ∧ ecc = .uncorrectable then
      s.modXf (owner - 5) (fun x => { x with pass2 := x.pass2.map (fun f => { f with lost := true }) })
    else s

/-- The bus carries bursts: it is trained, and no frequency step has stopped it (R380, R382). -/
def State.busRuns (s : State) : Bool :=
  s.ctl.hbmReady && (s.hbm.step.map (fun p => p.2 != .stopped)).getD true

/-- The declared directions of a staging group let a burst of it use the group's slots; any other burst may use its class's (R513). -/
def State.slotServes (s : State) (b : Burst) : Bool :=
  if 0x11 ≤ b.owner ∧ b.owner ≤ 0x20 then
    match s.bcfg .slotTable (0x2B20 + (b.owner - 0x11)) 3 with
    | 1 => b.write
    | 2 => !b.write
    | _ => true
  else true

/-- HBM_BURST: what one channel serves in a slot; where nothing is queued, a refresh unit that was put off (R374, R378, R379). -/
def execHbmBurst (slot : Nat) (chan : Fin 64) (ecc : Ecc) (s : State) : Out State :=
  s.guarded (fun s =>
    let owner := s.slotOwner slot
    if !s.busRuns || owner = 0xFF then s
    else
      let rt := s.hbm.queue.find? (fun b => b.owner == owner && b.chan == chan.val && s.slotServes b)
      match (if realTime owner then rt else none) with
      | some b =>
        let s := { s with hbm := { s.hbm with queue := takeBurst s.hbm.queue b } }
        (s.serveBeats chan 32 (32 - b.beats)).burstRead b owner ecc
      | none =>
        match s.bestEffort chan with
        | none => { s with hbm := { s.hbm with debt := Tab.modify (fun _ => 0) s.hbm.debt chan (· - 1) } }
        | some (b, _) => (s.serveBeats chan 32 32).burstRead b 0 ecc)

/-! ### Overflow of a write riser (R12, R261) -/

/-- The newest record of runner n, at address a, as missing: its number, or the first that a gap record reports, and the start of its
span (R12, R21). -/
def State.missingAt (s : State) (a : Nat) : U64 × T96 × Bool :=
  let gap := s.byteAt a == 1
  (BitVec.ofNat 64 (field (s.load (a + if gap then 40 else 8) 8) 0 8), BitVec.ofNat 96 (field (s.load (a + 20) 12) 0 12), gap)

/-- The newest record of runner n is dropped after all: its sequence number stays consumed, and the gap record that reports it also
reports the records dropped after it and, where it was a gap record, those that it reported (R12, R20-R22). -/
def State.dropNewest (s : State) (n : Nat) : State :=
  let q := s.runner n
  if q.w = q.rd then s
  else
    let (first, t, gap) := s.missingAt (q.slotAddr (q.w - 1))
    s.setRunner n { q with
      w := q.w - 1, drops := if gap then q.drops else q.drops + 1
      dropped := some { first := first, span := { start := t, stop := (q.dropped.map (fun d => d.span.stop)).getD s.now, cause := 4 } } }

/-- A corner-turn write of channel c is lost: the frame that fills its buffer is not produced (R261). -/
def State.loseCornerTurn (s : State) (c addr : Nat) : State :=
  let x := s.xf c
  let own := decide (cornerTurnAddr c x.buffer ≤ addr) && decide (addr < cornerTurnAddr c x.buffer + 0x04000000)
  s.modXf c (fun x => if own then { x with pass1Lost := true }
    else { x with flagged := x.flagged ++ [x.nextMain + (s.frameShape c x.nextMain).1.len] })

/-- The runner whose ring holds an address. -/
def State.runnerAt (s : State) (a : Nat) : Option Nat :=
  (s.dma.runners.find? (fun (e : Nat × Runner) =>
    e.2.kind == 1 && decide (e.2.base ≤ a) && decide (a < e.2.base + e.2.slots * e.2.slotBytes))).map Prod.fst

/-- Beats of real-time writes that wait in the write riser of a quadrant (R12). -/
def State.riserFill (s : State) (quad : Nat) : Nat :=
  (s.hbm.queue.filter (fun b => b.write && decide (1 ≤ b.owner) && decide (b.owner ≤ 0x20) && b.chan / 16 == quad)).foldl
    (fun a b => a + b.beats) 0

/-- Beats that a write riser holds: 64 bursts of 32 (R12). -/
def riserBeats : Nat := 2048

/-- The newest write of a class that waits in a quadrant's riser. -/
def State.newestWrite (s : State) (quad owner : Nat) : Option Burst :=
  (s.hbm.queue.filter (fun b => realTime owner && b.owner == owner && b.write && b.chan / 16 == quad)).getLast?

/-- HBM_WRITE_RISER_OVERFLOW: a slot overrun of a riser that holds more than its 64 bursts: the newest write of the class there is
lost, and with it the two-pass frame or the record that it belongs to; a segment closes at its first missing sample (R12, R261,
R365). -/
def execHbmWriteRiserOverflow (q : Fin 4) (owner : Byte) (s : State) : Out State :=
  s.guarded (fun s =>
    let o := owner.toNat
    if s.riserFill q ≤ riserBeats then s
    else
    let lost := s.newestWrite q o
    let s := { s with hbm := { s.hbm with queue := (lost.map (takeBurst s.hbm.queue)).getD s.hbm.queue } }
    let s := (s.bumpLive 0x2801 9).report { severity := 2, subsys := 12, kind := 9, element := q.val * 2 ^ 56, detail := o }
    match lost with
    | none => s
    | some b =>
      if 1 ≤ o ∧ o ≤ 4 then s.loseCornerTurn (o - 1) b.addr
      else if 9 ≤ o ∧ o ≤ 12 then s.capOverrun (o - 9) b.addr
      else
        match s.runnerAt b.addr with
        | none => s
        | some n => s.dropNewest n)

/-! ### Refresh (R379) -/

/-- REFRESH_DUE: a unit issued in a free slot, or postponed; the debt never exceeds 8. -/
def execRefreshDue (chan : Fin 64) (busy : Bool) (s : State) : Out State :=
  s.guarded (fun s =>
    if busy && s.busRuns then
      let d := min 8 (Tab.get (fun _ => 0) s.hbm.debt chan + 1)
      State.putLive { s with hbm := { s.hbm with debt := Tab.set (fun _ => 0) s.hbm.debt chan d } } 0x2801 8
        (max (s.liveNum 0x2801 8) d)
    else s)

/-- The parameters that domain d's last window gave replace the sets of its four channels at the present frequency (R381). -/
def State.takeTraining (s : State) (d : Nat) : State :=
  (upTo 4).foldl (fun s i =>
    let k := 2 * (4 * d + i) + (if s.hbm.slow then 1 else 0)
    ({ s with hbm := { s.hbm with params := Tab.set (fun _ => 0) s.hbm.params k s.fresh } } : State).drew) s

/-- The parameters of every window that has ended take effect. -/
def State.takeFresh (s : State) : State :=
  let s := ((upTo 16).filter (fun d => Tab.get (fun _ => false) s.hbm.fresh d)).foldl State.takeTraining s
  { s with hbm := { s.hbm with fresh := [] } }

/-- REFRESH_RESERVE_SLOT: the whole debt of every channel is retired, and new training parameters take effect (R379, R381). -/
def execRefreshReserveSlot (s : State) : Out State :=
  s.guarded (fun s => State.takeFresh { s with hbm := { s.hbm with debt := [] } })

/-! ### Training and frequency steps (R381-R384) -/

/-- The eye data that a window of domain d gathers: a class 0 request on each of its four channels, of as many beats as the free value
says (R378, R381; DESIGN CHOICE, log entry 31). -/
def State.trainingBursts (s : State) (d : Nat) : State :=
  (upTo 4).foldl (fun s i =>
    let b : Burst := { owner := trainingOwner, cls := 0, chan := 4 * d + i, addr := (4 * d + i) * 2048, beats := 1 + s.fresh % 32
                       born := s.now, write := false }
    ({ s with hbm := { s.hbm with queue := s.hbm.queue ++ [b] } } : State).drew) s

/-- A domain's requests for eye data leave the queue. -/
def State.dropTraining (s : State) (d : Nat) : State :=
  { s with hbm := { s.hbm with queue := s.hbm.queue.filter (fun b => !(b.owner == trainingOwner && b.chan / 4 == d)) } }

/-- A domain's window that gathers, and parameters that wait for the reserved slot. -/
def State.setGathering (s : State) (d : Nat) (v : Bool) : State :=
  { s with hbm := { s.hbm with gathering := Tab.set (fun _ => false) s.hbm.gathering d v } }

/-- TRAINING_WINDOW_START: a periodic window at Q0, or one after a 10 °C change at any level. None starts while a frequency step is
under way (R381, R382). -/
def execTrainingWindowStart (d : Fin 16) (tempMoved : Bool) (s : State) : Out State :=
  s.guarded (fun s =>
    if s.ctl.hbmReady && (tempMoved || s.hea.level == 0) && s.hbm.step.isNone then
      if Tab.get (fun _ => false) s.hbm.gathering d then s else (s.setGathering d true).trainingBursts d
    else s)

/-- TRAINING_WINDOW_END: the new parameters wait for the next reserved slot (R381). -/
def execTrainingWindowEnd (d : Fin 16) (s : State) : Out State :=
  s.guarded (fun s =>
    if Tab.get (fun _ => false) s.hbm.gathering d then
      let s := (s.setGathering d false).dropTraining d
      { s with hbm := { s.hbm with fresh := Tab.set (fun _ => false) s.hbm.fresh d true } }
    else s)

/-- Every channel that runs two-pass transforms has reported them stopped (R263, R382). -/
def State.twoPassIdle (s : State) : Bool :=
  (upTo 4).all (fun c =>
    let x := s.xf c
    let p := (x.cfgAt x.nextMain).pour
    let on := (s.chan c).on && s.mainOn c p && (s.mainShape p c).twoPass
    !on || x.stoppedReport)

/-- HBM_FREQ_STEP_REQUEST: on the way into Q4 or out of it, after the engines have reported two-pass stopped and where a step is
available (R377, R382, R383). -/
def execHbmFreqStepRequest (up : Bool) (s : State) : Out State :=
  s.guarded (fun s =>
    let able := s.liveNum 0x2801 6 == 1 && s.liveNum 0x2801 7 == 1 && (up || decide (4 ≤ s.hea.level)) && s.twoPassIdle
    if s.ctl.hbmReady && s.hbm.step.isNone && s.hbm.slow == up && able then
      State.putLive { s with hbm := { s.hbm with step := some (up, .requested) } } 0x2801 2 2
    else s)

/-- HBM_FREQ_SWITCH: the clock of the stopped bus moves to the other rate, whose stored parameter sets are in force from then on, and
the bus runs again (R382 step 5). It comes with the cycle start that stops the bus, or after it, once no window gathers (steps 2-4). -/
def execHbmFreqSwitch (s : State) : Out State :=
  s.guarded (fun s =>
    match s.hbm.step with
    | none => s
    | some (up, ph) =>
      if ph == .stopped || (ph == .requested && s.hbm.gathering.isEmpty) then
        let s := s.takeFresh
        { s with hbm := { s.hbm with step := some (up, .moved), slow := !up, q4 := true } }
      else s)

/-- HBM_FREQ_STEP_COMPLETE: training at the new frequency has ended in every domain and its parameters are in force; on the way up the
table itself is in force again (R382 steps 6 and 7). -/
def execHbmFreqStepComplete (s : State) : Out State :=
  s.guarded (fun s =>
    match s.hbm.step with
    | some (_, .training) =>
      let s := (upTo 16).foldl (fun s d => if Tab.get (fun _ => false) s.hbm.gathering d then (s.dropTraining d).takeTraining d else s) s
      let s := s.takeFresh
      State.putLive { s with hbm := { s.hbm with step := none, gathering := [], q4 := s.hbm.slow } } 0x2801 2
        (if s.hbm.slow then 1 else 0)
    | _ => s)

/-- Spans with another one, joined to those that it touches. -/
def addSpan (l : List (Nat × Nat)) (a b : Nat) : List (Nat × Nat) :=
  let near := l.filter (fun p => decide (p.1 ≤ b) && decide (a ≤ p.2))
  let far := l.filter (fun p => !(decide (p.1 ≤ b) && decide (a ≤ p.2)))
  near.foldl (fun p q => (min p.1 q.1, max p.2 q.2)) (a, b) :: far

/-- PATROL_SCRUB_READ: a read of class 3, which waits while its channel has a best-effort request and pauses at Q1 and above; a
corrected word is written back, and the pass ends when every word has been read (R378, R386). -/
def execPatrolScrubRead (addr : BitVec 37) (ecc : Ecc) (s : State) : Out State :=
  s.guarded (fun s =>
    let a := addr.toNat / 8 * 8
    if !s.busRuns || s.hea.level ≠ 0 || hbmBytes ≤ a || (s.bestEffort (a / 2 ^ 11 % 64)).isSome then s
    else
      let s := s.eccEvent a 0 ecc
      let s := if ecc = .corrected then s.queueBursts 0 3 a 8 true else s
      let read := addSpan s.hbm.scrubbed a (a + 8)
      if read == [(0, hbmBytes)] then State.bumpLive { s with hbm := { s.hbm with scrubbed := [] } } 0x2802 8
      else { s with hbm := { s.hbm with scrubbed := read } })

/-! ### SRAM groups (R395, R396) -/

end Machine

/-- The number of a group in 0x2810.05 (R392, R395). -/
def SramGroup.number : SramGroup → Nat
  | .density => 0 | .reduction => 1 | .cluster => 2 | .ladle => 3

namespace Machine

/-- The groups in retention shown in 0x2810.05. -/
def State.showRetention (s : State) : State :=
  s.putLive 0x2810 5 (s.hbm.retained.foldl (fun a g => a ||| 2 ^ g.number) 0)

/-- A group enters retention (R395). -/
def State.retain (s : State) (g : SramGroup) : State :=
  State.showRetention { s with hbm := { s.hbm with
    retained := if s.hbm.retained.contains g then s.hbm.retained else g :: s.hbm.retained
    waking := s.hbm.waking.filter (fun w => w.1 != g) } }

/-- A group is released: its wake delay runs (R396). -/
def State.release (s : State) (g : SramGroup) : State :=
  if s.hbm.retained.contains g then
    State.showRetention { s with hbm := { s.hbm with
      retained := s.hbm.retained.erase g, waking := (g, s.now) :: s.hbm.waking } }
  else s

/-- A group can be reached (R395, R396). -/
def State.awake (s : State) (g : SramGroup) : Bool :=
  !s.hbm.retained.contains g && !s.hbm.waking.any (fun w => w.1 == g)

/-- SRAM_WAKE: the wake delay of 4 µs since the release has passed, and the group takes its first access (R396). -/
def execSramWake (group : SramGroup) (s : State) : Out State :=
  s.guarded (fun s => { s with hbm := { s.hbm with waking := s.hbm.waking.filter (fun w => w.1 != group) } })

end Machine
end Sys2Proof
end

