-- ==== Sys2Proof/Machine/RunnerOps.lean ====
section
/-! DEFINITION. Runner entries, forwarding, transfers and completions (R496-R534). -/

namespace Sys2Proof.Machine

/-! ### Runner entries (R500, R501) -/

/-- A runner entry's fields. -/
structure REntry where
  runner : Nat
  kind   : Nat
  prio   : Nat
  engine : Nat
  group  : Nat
  dest   : Nat
  base   : Nat
  e      : Nat
  z      : Nat
  hostE  : Nat
  handle : Nat
  hostBase : Nat
  vector : Nat
  modCount : Nat
  modTime : Nat
  wbAddr : Nat
  rsvd   : Bool

/-- The fields of a 64-byte entry. -/
def REntry.of (b : List Byte) : REntry :=
  { runner := field b 0 2, kind := field b 2 1, prio := field b 3 1, engine := field b 4 1, group := field b 5 1,
    dest := field b 6 1, base := field b 8 8, e := field b 16 1, z := field b 17 1, hostE := field b 18 1,
    handle := field b 20 4, hostBase := field b 24 8, vector := field b 32 2, modCount := field b 34 2,
    modTime := field b 36 4, wbAddr := field b 40 8,
    rsvd := field b 7 1 == 0 && field b 19 1 == 0 && field b 48 16 == 0 }

/-- An address names host memory when bit 63 is set (R521). -/
def isHost (a : Nat) : Bool := a.testBit 63

/-- A range lies in HBM outside the corner-turn region (R350, R521). -/
def inRemainder (a len : Nat) : Bool := decide (a + len ≤ cornerTurnBase)

/-- Fields in range (R501). -/
def REntry.fieldsOk (q : REntry) : Bool :=
  q.rsvd && decide (q.prio ≤ 7) && decide (q.engine ≤ 63)
    && ((decide (4 ≤ q.vector) && decide (q.vector ≤ 2047)) || q.vector == 0xFFFF)
    && decide (1 ≤ q.modCount) && decide (q.modTime ≤ 1000000000) && decide (q.wbAddr % 64 = 0)
    && (if q.kind = 1 then
          decide (q.group ≤ 15) && decide (q.dest ≤ 4) && decide (1 ≤ q.e) && decide (q.e ≤ 24) && decide (6 ≤ q.z)
            && decide (q.z ≤ 27) && decide (q.base % 2048 = 0)
            && (if q.dest = 1 then decide (1 ≤ q.hostE) && decide (q.hostE ≤ 24) && decide (q.hostBase % 4096 = 0)
                else q.hostE == 0 && q.hostBase == 0)
            && (if q.dest = 2 ∨ q.dest = 3 ∨ q.dest = 4 then decide (q.handle < 32) else q.handle == 0)
        else
          q.group == 0 && q.dest == 0 && decide (1 ≤ q.e) && decide (q.e ≤ 16) && q.z == 6 && q.hostE == 0
            && q.handle == 0 && q.hostBase == 0
            && (if isHost q.base then decide (q.base % 4096 = 0)
                else decide (q.base % 2048 = 0) && inRemainder q.base (2 ^ q.e * 64)))

/-- The ring of a record runner lies in the remainder region and meets neither another one's ring nor a capture region
(R497). -/
def State.placementOk (s : State) (q : REntry) : Bool :=
  if q.kind = 1 then
    let a := q.base
    let b := q.base + 2 ^ q.e * 2 ^ q.z
    inRemainder a (b - a)
      && s.dma.runners.all (fun (n, r) => n == q.runner || r.kind != 1 ||
          !rangesMeet a b r.base (r.base + r.slots * r.slotBytes))
      && s.allRegions.all (fun (c, d) => !rangesMeet a b c d)
  else true

/-- The next engine in service from e, in ascending order modulo 64 (R532). -/
def State.engineFrom (s : State) (e : Nat) : Nat :=
  (((List.range 64).map (fun i => (e + i) % 64)).find? (fun i => !Tab.get (fun _ => false) s.dma.retired i)).getD e

/-- The code that refuses a runner entry, or none (R500). -/
def State.entryRefusal (s : State) (image : List Byte) : Option Nat :=
  let q := REntry.of image
  let r := s.runner q.runner
  let small := image.take 32 == r.image.take 32 && image.drop 48 == r.image.drop 48
  if image.length ≠ 64 then some 0x06090030
  else if q.kind = 0 then
    if r.kind = 0 then some 0x06090030
    else if r.state ≠ .stopped ∨ s.runnerNamed q.runner then some 0x08000020
    else none
  else if 2 < q.kind ∨ !q.fieldsOk ∨ !s.placementOk q then some 0x06090030
  else if r.kind = 0 then
    if s.runnerNamed q.runner then some 0x08000020 else none
  else if small then none
  else if r.state ≠ .stopped ∨ s.runnerNamed q.runner then some 0x08000020
  else if (q.kind ≠ r.kind ∨ q.base ≠ r.base ∨ q.e ≠ r.e ∨ q.z ≠ r.z) ∧ r.w ≠ r.rd then some 0x08000020
  else if (q.hostBase ≠ r.hostBase ∨ q.hostE ≠ r.hostE) ∧ r.wh ≠ r.rdh then some 0x08000020
  else none

/-- A runner with an entry's fields; a created one starts from no runner, a modified one keeps its indices (R500). -/
def REntry.apply (q : REntry) (image : List Byte) (engine : Nat) (r : Runner) : Runner :=
  { r with kind := q.kind, prio := q.prio, engine := q.engine, group := q.group, dest := q.dest, base := q.base, e := q.e,
           z := q.z, hostE := q.hostE, handle := BitVec.ofNat 32 q.handle, hostBase := q.hostBase, vector := q.vector,
           modCount := q.modCount, modTime := q.modTime, wbAddr := q.wbAddr, image := image, engineNow := engine }

/-- A runner entry written to 0x2B02.00 acts at once (R500). -/
def State.runnerEntry (s : State) (rq : Requester) (image : List Byte) : State :=
  match (match s.writeBar rq with | some c => some c | none => s.entryRefusal image) with
  | some code => s.refuse rq code (keyOf 0x2B02 0)
  | none =>
    let q := REntry.of image
    if q.kind = 0 then s.setRunner q.runner Runner.none
    else s.setRunner q.runner (q.apply image (s.engineFrom q.engine) (s.runner q.runner))

/-! ### Host addresses (R524) -/

/-- The page of a host address. -/
def hostPage (a : Nat) : Nat := a % 2 ^ 63 / 4096

/-- The host pages of a range that have no valid translation. -/
def State.untranslated (s : State) (a len : Nat) : List Nat :=
  let lo := hostPage a
  let n := (a % 4096 + len + 4095) / 4096
  ((List.range n).map (lo + ·)).filter (fun p => !s.dma.atc.contains p)

/-- The first page of these ranges that must be translated before they are used. -/
def State.missingPage (s : State) (ranges : List (Nat × Nat)) : Option Nat :=
  (ranges.flatMap (fun (a, n) => s.untranslated a n)).head?

/-- A translation request. -/
def State.requestPage (s : State) (p : Nat) : State := s.emit (.atsRequest (BitVec.ofNat 64 (p * 4096)))

/-- A page request of PRI (R525). -/
def State.pageRequest (s : State) (p : Nat) : State :=
  State.emit { s with dma := { s.dma with pageReqs := s.dma.pageReqs + 1 } } (.pageRequest (BitVec.ofNat 64 (p * 4096)))

/-! ### Write-back and signals (R511, R528) -/

/-- The state of a runner as 0x2B04.02 shows it (R534). -/
def Runner.stateCode (r : Runner) : Nat := if r.kind = 0 then 0 else r.state.code

/-- The write-back area of a runner, where it has one (R511). -/
def State.writeBack (s : State) (n : Nat) : State :=
  let r := s.runner n
  if r.wbAddr = 0 then s
  else
    let index := if r.kind = 1 then r.wh else r.rd
    s.emit (.hostWrite (BitVec.ofNat 64 r.wbAddr)
      (leBytes 4 index.toNat ++ leBytes 1 r.stateCode ++ leBytes 3 0 ++ leBytes 8 r.drops.toNat))

/-- The vector of a runner is signalled, and counting starts again (R528). -/
def State.signalRunner (s : State) (n : Nat) : State :=
  (s.signal (s.runner n).vector).modRunner n (fun r => { r with unsignalled := 0, firstUnsignalled := none })

/-- A completion, signalled at once or under moderation (R528). -/
def State.complete (s : State) (n : Nat) (now : Bool) : State :=
  let s := s.modRunner n (fun r => { r with
    completions := r.completions + 1
    unsignalled := r.unsignalled + 1
    firstUnsignalled := if r.firstUnsignalled.isNone then some s.now else r.firstUnsignalled })
  let r := s.runner n
  if now || decide (r.modCount ≤ r.unsignalled) || r.modTime == 0 then s.signalRunner n else s

/-! ### Forwarding records (R510, R511) -/

/-- A network stream. -/
def State.nstream (s : State) (t : Nat) : NStream := Tab.get (fun _ => NStream.idle) s.net.streams t

/-- A network stream changed by `f`. -/
def State.modNstream (s : State) (t : Nat) (f : NStream → NStream) : State :=
  { s with net := { s.net with streams := Tab.modify (fun _ => NStream.idle) s.net.streams t f } }

/-- A port. -/
def State.port (s : State) (p : Nat) : EthPort := Tab.get (fun _ => EthPort.down) s.net.ports p

/-- A port changed by `f`. -/
def State.modPort (s : State) (p : Nat) (f : EthPort → EthPort) : State :=
  { s with net := { s.net with ports := Tab.modify (fun _ => EthPort.down) s.net.ports p f } }

/-- Bytes that wait in a network stream's part of the transmit riser. -/
def NStream.waiting (n : NStream) : Nat := n.queue.foldl (fun a q => a + q.2.length) 0

/-- A stream's entry in a pour. -/
def State.netCfg (s : State) (t sub : Nat) : Nat := s.bcfg (.net (Fin.ofNat 32 t)) (0x2D10 + t) sub

/-- The queue of a stream: the priority of its tag, 0 untagged (R579). -/
def State.netQueue (s : State) (t : Nat) : Nat := if s.netCfg t 9 = 0xFFFF then 0 else s.netCfg t 9 / 2 ^ 13

/-- A multicast destination (R566). -/
def State.multicast (s : State) (t : Nat) : Bool :=
  if s.netCfg t 3 = 4 then s.netCfg t 5 % 2 ^ 32 / 2 ^ 28 == 14 else s.netCfg t 4 / 2 ^ 56 == 0xFF

/-- The destination MAC: the configured one, a multicast group's, or the resolved one (R567). -/
def State.netMac (s : State) (t : Nat) : Option Nat :=
  if s.netCfg t 6 ≠ 0 then some (s.netCfg t 6 % 2 ^ 48)
  else if s.multicast t then
    some (if s.netCfg t 3 = 4 then 0x01005E000000 + s.netCfg t 5 % 2 ^ 23 else 0x333300000000 + s.netCfg t 5 % 2 ^ 32)
  else (s.nstream t).mac

/-- Bytes that wait in one of a port's transmit queues (R579). -/
def State.queueWaiting (s : State) (p q : Nat) : Nat :=
  s.net.streams.foldl (fun a n => if s.netCfg n.1 1 = p ∧ s.netQueue n.1 = q then a + n.2.waiting else a) 0

/-- Host slots of a host ring (R511). -/
def Runner.hostSlots (r : Runner) : Nat := 2 ^ r.hostE

/-- The destination can take the record in front of a runner. -/
def State.destinationTakes (s : State) (r : Runner) (len : Nat) : Bool :=
  if r.dest = 1 then decide ((r.wh - r.rdh).toNat < r.hostSlots)
  else if r.dest = 2 ∨ r.dest = 3 then
    let t := r.handle.toNat
    let w := s.queueWaiting (s.netCfg t 1) (s.netQueue t)
    (s.netMac t).isSome && (w == 0 || decide (w + len ≤ 32768))
  else if r.dest = 4 then s.streamOpen r.handle.toNat (ceilTo 64 len) && s.scfg r.handle.toNat 1 == 1
  else false

/-- A beat of a record zeroed: its CRC no longer matches (R530). -/
def zeroBeat (bytes : List Byte) (beat : Nat) : List Byte :=
  bytes.take (beat * 64) ++ List.replicate (min 64 (bytes.length - beat * 64)) 0 ++ bytes.drop (beat * 64 + 64)

/-- The record in front of a runner is passed to its destination, which takes it; a failed beat is a free one (R530). -/
def State.forward (s : State) (n : Nat) (bad : Bool) : State :=
  let r := s.runner n
  let bytes := s.frontRecord n
  let s := if bad then
    (s.drew).report { severity := 2, subsys := 15, kind := 9, runners := [(n, field bytes 8 8, field bytes 8 8)], code := 0xFF00 }
    else s
  let bytes := if bad then zeroBeat bytes (Config.freeValue (s.ctl.drawn - 1) % ((bytes.length + 63) / 64)) else bytes
  let h := r.handle.toNat
  let s := s.queueBursts (0x11 + r.group) 1 (r.slotAddr r.rd) bytes.length false
  let s :=
    if r.dest = 1 then
      (s.emit (.hostWrite (BitVec.ofNat 64 (r.hostBase + (r.wh.toNat % r.hostSlots) * r.slotBytes))
        (padTo (ceilTo 64 bytes.length) bytes))).modRunner n (fun r => { r with wh := r.wh + 1 })
    else if r.dest = 4 then
      (s.emit (.toPort r.dest r.handle bytes)).appendSeries h bytes (field bytes 8 8) (BitVec.ofNat 96 (field bytes 20 12))
    else (s.emit (.toPort r.dest r.handle bytes)).modNstream h (fun q => { q with queue := q.queue ++ [(n, bytes)] })
  let s := (s.freeSlot n).modRunner n (fun r => { r with
    fwdDone := 0, state := if r.state = .stopping then .stopped else .active })
  let s := if r.dest = 1 then s.writeBack n else s
  s.complete n bad

/-! ### Transfers (R514-R530) -/

/-- A transfer ready to move, or one that a check has ended. -/
def Xfer.start (op control count src dst tag total : Nat) : Xfer :=
  { opcode := op, control := control, count := count, src := src, dst := dst, tag := tag, total := total, done := 0,
    descending := false, pageReqs := false, parked := none, status := none, failed := none, written := [], reads := [],
    elements := [], pattern := [], waitingAts := none, unread := none }

/-- A range that breaks R521: a device address in the corner-turn region or beyond HBM, or bits [62:37] set. -/
def badRange (a len : Nat) : Bool :=
  !isHost a && (decide (2 ^ 37 ≤ a) || decide (cornerTurnBase < a + len))

/-- Whether two ranges of one address space meet (R522). -/
def overlap (a b len₁ len₂ : Nat) : Bool := isHost a == isHost b && rangesMeet a (a + len₁) b (b + len₂)

/-- A length within R516. -/
def lengthOk (n : Nat) : Bool := decide (64 ≤ n) && decide (n ≤ 2 ^ 32 - 64)

/-- Another writer of record runner n (R499): the configuration, a replay, or a descriptor runner's transfer. -/
def State.otherWriter (s : State) (self n : Nat) : Bool :=
  s.runnerNamed n || s.sto.replays.any (fun (_, p) => p.runner == n && (p.st == 1 || p.st == 2))
    || s.dma.runners.any (fun (m, r) => m != self && (r.xfer.map (fun x => x.opcode == 4 && x.dst == n)).getD false)

/-- The transfer that a descriptor asks for, checked in the order opcode and fields, alignment, length, region, overlap
(R516, R519-R522). `rest` is what a gather list or a fill pattern in host memory holds. -/
def State.checkDescriptor (s : State) (self : Nat) (d rest : List Byte) : Xfer :=
  let op := field d 0 1
  let ctl := field d 1 1
  let count := field d 4 4
  let src := field d 8 8
  let dst := field d 16 8
  let tag := field d 24 8
  let x := Xfer.start op ctl count src dst tag count
  let fail (code : Nat) : Xfer := { x with status := some code }
  if op = 0 ∨ 4 < op ∨ 1 < ctl ∨ field d 2 2 ≠ 0 then fail 0x05
  else if op = 4 then
    let a := src % 2 ^ 16
    let b := dst % 2 ^ 16
    if src ≠ a ∨ dst ≠ b ∨ (s.runner a).kind ≠ 1 ∨ (s.runner a).dest ≠ 0 ∨ (s.runner b).kind ≠ 1 ∨ s.otherWriter self b then
      fail 0x05
    else if count = 0 ∨ 16777216 < count then fail 0x06
    else if a = b then fail 0x04
    else x
  else if op = 3 then
    let list := if isHost src then rest else s.load src (16 * count)
    let els := (List.range (min count 65536)).map (fun i => (field list (16 * i) 8, field list (16 * i + 8) 4))
    let total := els.foldl (fun t p => t + p.2) 0
    if (List.range (min count 65536)).any (fun i => field list (16 * i + 12) 4 != 0) then fail 0x05
    else if src % 64 ≠ 0 ∨ dst % 64 ≠ 0 ∨ els.any (fun p => p.1 % 64 != 0 || p.2 % 64 != 0) then fail 0x03
    else if count = 0 ∨ 65536 < count ∨ !lengthOk total ∨ els.any (fun p => p.2 == 0) then fail 0x06
    else if badRange src (16 * count) ∨ badRange dst total ∨ els.any (fun p => badRange p.1 p.2) then fail 0x07
    else if overlap src dst (16 * count) total ∨ els.any (fun p => overlap p.1 dst p.2 total) then fail 0x04
    else { x with elements := els, total := total }
  else
    let span := if op = 2 then 64 else count
    if src % 64 ≠ 0 ∨ dst % 64 ≠ 0 ∨ count % 64 ≠ 0 then fail 0x03
    else if !lengthOk count then fail 0x06
    else if badRange src span ∨ badRange dst count then fail 0x07
    else if op = 2 then
      if overlap src dst 64 count then fail 0x04
      else { x with pattern := if isHost src then padTo 64 rest else s.load src 64 }
    else { x with descending := overlap src dst count count && decide (src < dst) }

/-- Bytes from an address to the next boundary that a burst may not cross (R517). -/
def toBoundary (a : Nat) : Nat := if isHost a then 4096 - a % 4096 else 2048 - a % 2048

/-- Bytes behind an address back to that boundary. -/
def fromBoundary (a : Nat) : Nat :=
  let m := if isHost a then 4096 else 2048
  if a % m = 0 then m else a % m

/-- The element of a gather that byte `off` of the output lies in: its source address there and the bytes left in it. -/
def gatherAt : List (Nat × Nat) → Nat → Nat × Nat
  | [], _ => (0, 0)
  | (a, n) :: t, off => if off < n then (a + off, n - off) else gatherAt t (off - n)

/-- The next burst: offset of its first byte, source address, destination address and length (R517, R522). -/
def Xfer.burst (x : Xfer) : Nat × Nat × Nat × Nat :=
  if x.descending then
    let top := x.total - x.done
    let n := min (min 2048 top) (min (fromBoundary (x.src + top)) (fromBoundary (x.dst + top)))
    (top - n, x.src + top - n, x.dst + top - n, n)
  else
    let left := x.total - x.done
    if x.opcode = 3 then
      let (a, m) := gatherAt x.elements x.done
      let n := min (min 2048 (min left m)) (min (toBoundary a) (toBoundary (x.dst + x.done)))
      (x.done, a, x.dst + x.done, n)
    else if x.opcode = 2 then
      let n := min (min 2048 left) (toBoundary (x.dst + x.done))
      (x.done, x.src, x.dst + x.done, n)
    else
      let n := min (min 2048 left) (min (toBoundary (x.src + x.done)) (toBoundary (x.dst + x.done)))
      (x.done, x.src + x.done, x.dst + x.done, n)

/-- `n` bytes of a 64-byte pattern from an output offset. -/
def patternBytes (p : List Byte) (off n : Nat) : List Byte :=
  (List.range n).map (fun i => p.getD ((off + i) % 64) 0)

/-- Bytes written from an offset, kept for the CRC: zeros are listed like the others (R523). -/
def keepBytes (t : List (Nat × Byte)) (off : Nat) : List Byte → List (Nat × Byte)
  | [] => t
  | b :: bs => keepBytes (Tab.put t off b) (off + 1) bs

/-- The service class of a transfer's requests, and of the descriptor that asks for it: 0x2800.06 where both ends are in HBM, else
0x2800.07 (R520). -/
def State.xferClass (s : State) (src dst : Nat) : Nat := s.num 0x2800 (if isHost src || isHost dst then 7 else 6)

/-- A best-effort request of a transfer, where the address is in HBM (R378). -/
def State.xferBurst (s : State) (cls a len : Nat) (write : Bool) : State :=
  if isHost a then s else s.queueBursts 0 cls a len write

/-- A beat failed: nothing further is issued, and the first failure gives the error address (R530). -/
def Xfer.fail (x : Xfer) (a : Nat) : Xfer := if x.failed.isNone then { x with failed := some a } else x

/-- Bytes written to a transfer's destination, and remembered for its CRC (R523). -/
def State.deliver (s : State) (n : Nat) (x : Xfer) (off dst : Nat) (bytes : List Byte) : State :=
  let s := if isHost dst then s.emit (.hostWrite (BitVec.ofNat 64 dst) bytes)
           else (s.store dst bytes).xferBurst (s.xferClass x.src dst) dst bytes.length true
  s.modRunner n (fun r => { r with xfer := r.xfer.map (fun y => { y with written := keepBytes y.written off bytes }) })

/-- The beats of a read that succeeded, written to their destination, and the first failed one recorded (R530). -/
def State.deliverBeats (s : State) (n : Nat) (x : Xfer) (src off dst : Nat) (bytes : List Byte) (bad : List Nat) : State :=
  let beats := (bytes.length + 63) / 64
  match (List.range beats).find? (fun i => bad.contains i) with
  | none => s.deliver n x off dst bytes
  | some first =>
    let s := ((List.range beats).filter (fun i => !bad.contains i)).foldl
      (fun s i => s.deliver n x (off + 64 * i) (dst + 64 * i) ((bytes.drop (64 * i)).take 64)) s
    s.modRunner n (fun r => { r with xfer := r.xfer.map (fun y => y.fail (src + 64 * first)) })

/-- A transfer's field changed. -/
def State.modXfer (s : State) (n : Nat) (f : Xfer → Xfer) : State :=
  s.modRunner n (fun r => { r with xfer := r.xfer.map f })

/-- Engine e goes to a state of R519. -/
def State.engineTo (s : State) (e code : Nat) : State :=
  { s with dma := { s.dma with engines := Tab.set (fun _ => 0) s.dma.engines e code } }

/-- A tag for a host read request is free: 16,384 in flit mode, 1,024 otherwise (R518, R583). -/
def State.tagFree (s : State) : Bool := decide (s.dma.inFlight < if s.net.flit then 16384 else 1024)

/-- A place among the outstanding operations taken or given back (R518). -/
def State.inFlight (s : State) (up : Bool) : State :=
  let k := if up then s.dma.inFlight + 1 else s.dma.inFlight - 1
  { s with dma := { s.dma with inFlight := k, peak := max s.dma.peak k } }

/-- The final status, residue and error address of a transfer that has ended, or none (R530, R531). -/
def Xfer.outcome (x : Xfer) : Option (Nat × Nat × Nat) :=
  if !x.reads.isEmpty || (x.unread.isSome && x.status.isNone) then none
  else
    match x.status with
    | some c => some (c, if c = 3 ∨ c = 4 ∨ c = 5 ∨ c = 6 ∨ c = 7 then x.total else x.total - x.done,
                      if c = 8 ∨ c = 9 then (x.parked.map (· * 4096 + 2 ^ 63)).getD 0 else 0)
    | none =>
      match x.failed with
      | some a => if x.done = x.total then some (0x01, 0, a) else some (0x0A, x.total - x.done, a)
      | none => if x.done = x.total then some (0x00, 0, 0) else none

/-- CRC of the bytes written, in ascending order (R523). -/
def Xfer.crc (x : Xfer) : Nat := (crc32c (x.written.map Prod.snd)).toNat

/-- The status part of a descriptor (R515). -/
def Xfer.statusPart (x : Xfer) (code residue addr : Nat) (now : T96) : List Byte :=
  leBytes 1 code
    ++ leBytes 1 ((if x.failed.isSome then 1 else 0) + (if x.descending then 2 else 0) + (if x.pageReqs then 4 else 0))
    ++ leBytes 2 0 ++ leBytes 4 residue ++ leBytes 8 addr ++ leBytes 4 x.crc ++ leBytes 12 now.toNat

/-- The writeback of a descriptor: status part, read index, write-back area, signal (R514, R528). -/
def State.writeStatus (s : State) (n : Nat) (x : Xfer) (code residue addr : Nat) : State :=
  let r := s.runner n
  let a := r.slotAddr r.rd + 32
  let part := x.statusPart code residue addr s.now
  let s := if isHost r.base then s.emit (.hostWrite (BitVec.ofNat 64 a) part)
    else (s.store a part).xferBurst (s.xferClass x.src x.dst) a part.length true
  let s := s.modRunner n (fun r => { r with
    rd := r.rd + 1, lastStatus := code, xfer := none,
    state := if r.state = .stopping then .stopped else if r.state = .stopped then .stopped else .active })
  ((s.writeBack n).complete n (code != 0 || x.control.testBit 0)).engineTo r.engineNow 0

/-- A transfer of runner n ends with a status: at once, or after the read requests already issued have completed, the engine being
in Aborting until then (R519, R526, R529). One that has ended already keeps the status it ended with. -/
def State.endXfer (s : State) (n code : Nat) : State :=
  match (s.runner n).xfer with
  | none => s
  | some x =>
    let x := { x with status := if x.failed.isSome then x.status else x.status.or (if x.unread.isNone ∧ x.done = x.total then none else some code) }
    match x.outcome with
    | none => (s.modXfer n (fun y => { y with status := x.status })).engineTo (s.runner n).engineNow 6
    | some (c, residue, addr) => s.writeStatus n x c residue addr

/-- Transfers parked on an engine (R525). -/
def State.parkedOn (s : State) (e : Nat) : Nat :=
  (s.dma.runners.filter (fun (_, r) => r.engineNow == e &&
    ((r.xfer.map (fun x => x.parked.isSome)).getD false || r.fwdParked.isSome))).length

/-- A runner that its engine may serve: active, and the engine is not held by a ninth page fault (R517, R525). -/
def State.ready (s : State) (n : Nat) : Bool :=
  let r := s.runner n
  (r.state == .active || r.state == .stalled || r.state == .stopping) && decide (s.parkedOn r.engineNow ≤ 8)

/-- A descriptor runner's next work: a descriptor to fetch, its list or pattern to read, or a burst to move; a ring-to-ring one
waits for a record and for a free slot (R512, R517). -/
def State.xferWork (s : State) (r : Runner) : Bool :=
  match r.xfer with
  | none => r.w != r.rd
  | some x => x.parked.isNone && x.status.isNone && x.failed.isNone && x.waitingAts.isNone &&
      (x.unread.isSome || (x.done != x.total &&
        (x.opcode != 4 || ((s.runner x.src).w != (s.runner x.src).rd && !(s.runner x.dst).full))))

/-- A runner with a burst that its engine can take: it waits neither for space nor for a page nor for its port (R517). -/
def State.hasBurst (s : State) (n : Nat) : Bool :=
  let r := s.runner n
  s.ready n &&
    (if r.kind = 1 then r.w != r.rd && r.dest != 0 && r.fwdParked.isNone && s.destinationTakes r (s.frontRecord n).length
     else r.kind == 2 && r.fwdParked.isNone && s.xferWork r)

/-- How far runner n stands behind the one that its engine served last (R517). -/
def State.turnOf (s : State) (n : Nat) : Nat :=
  (n + 65535 - Tab.get (fun _ => 65535) s.dma.turn (s.runner n).engineNow) % 65536

/-- The engine of runner n takes its next burst from that runner: it has one, none of higher priority has, and round robin among
equals names it; and a place among the 16,384 operations is free (R517, R518). -/
def State.engineTakes (s : State) (n : Nat) : Bool :=
  let r := s.runner n
  s.hasBurst n && decide (s.dma.inFlight < 16384) &&
    s.dma.runners.all (fun (m, q) => m == n || q.engineNow != r.engineNow || decide (r.prio < q.prio) || !s.hasBurst m ||
      (q.prio == r.prio && decide (s.turnOf n ≤ s.turnOf m)))

/-- The engine has served runner n; its burst has held a place until its port took it (R517, R518). -/
def State.engineServed (s : State) (n : Nat) : State :=
  { s with dma := { s.dma with
    turn := Tab.set (fun _ => 65535) s.dma.turn (s.runner n).engineNow n
    peak := max s.dma.peak (s.dma.inFlight + 1) } }

/-- An engine's state as 0x2B09 shows it: between bursts Select where a runner of it is ready, else Idle (R519). -/
def State.engineShown (s : State) (e : Nat) : Nat :=
  let c := Tab.get (fun _ => 0) s.dma.engines e
  if c ≤ 1 then (if s.dma.runners.any (fun (m, q) => q.engineNow == e && s.hasBurst m) then 1 else 0) else c

/-- The host ranges that a descriptor's gather list or fill pattern lies in (R516). -/
def descriptorList (d : List Byte) : List (Nat × Nat) :=
  let src := field d 8 8
  if !isHost src then []
  else if field d 0 1 = 2 then [(src, 64)]
  else if field d 0 1 = 3 then [(src, 16 * min (field d 4 4) 65536)]
  else []

/-- A descriptor that has been read is checked, once its list or pattern can be read under a valid translation. Until a list has been
read the total is a free value (R519-R524). -/
def State.takeDescriptor (s : State) (n : Nat) (d rest : List Byte) : State :=
  let r := s.runner n
  match s.missingPage (descriptorList d) with
  | some p =>
    let y := Xfer.start (field d 0 1) (field d 1 1) (field d 4 4) (field d 8 8) (field d 16 8) (field d 24 8)
      (if field d 0 1 = 3 then s.fresh % 2 ^ 32 else field d 4 4)
    ((s.drew).requestPage p).modRunner n (fun r => { r with xfer := some { y with unread := some d, waitingAts := some p } })
  | none =>
    let x := s.checkDescriptor n d rest
    let s := (s.engineTo r.engineNow (if x.status.isSome then 5 else 4)).xferBurst (s.xferClass x.src x.dst) x.src
      (16 * x.elements.length + x.pattern.length) false
    s.modRunner n (fun r => { r with xfer := some x })

/-- Engine retired: its runners pass to the next one in service (R532). -/
def State.retireEngine (s : State) (e : Nat) : State :=
  let s := { s with dma := { s.dma with
    retired := Tab.set (fun _ => false) s.dma.retired e true
    engines := Tab.set (fun _ => 0) s.dma.engines e 7 } }
  (s.dma.runners.filter (fun (_, r) => r.engineNow == e)).foldl
    (fun s (n, _) => s.modRunner n (fun r => { r with engineNow := s.engineFrom e, fwdDone := 0 })) s

/-- A fault event of an engine (R532): a transient one reissues the burst; a lasting one retires the engine. -/
def State.engineFault (s : State) (e : Nat) : State :=
  let s := { s with dma := { s.dma with faultEvents := s.dma.faultEvents + 1 } }
  let (s, c, lasting) := s.countFault .engine e
  let rs := (s.dma.runners.filter (fun (_, r) => r.engineNow == e)).map
    (fun (n, r) => if r.kind = 1 then (n, (r.nextSeq - BitVec.ofNat 64 (r.w - r.rd).toNat).toNat, r.nextSeq.toNat)
                   else (n, r.rd.toNat, r.rd.toNat))
  let s := s.journalFault .engine e c lasting true (if lasting then rs else [])
  if lasting then s.retireEngine e else s

end Sys2Proof.Machine
end

