-- ==== Sys2Proof/Machine/LadleOps.lean ====
section
/-! DEFINITION. Ladles: registers and their delays, memories, input rings, publishing, exceptions, restarts and pauses
(R397-R464). -/

namespace Sys2Proof.Machine

/-! ### Ladles and clusters -/

/-- Logical ladle l, and cluster g. -/
def State.ladle (s : State) (l : Nat) : Ladle := Tab.get (fun l => Ladle.reset (l % 16)) s.ladles l
def State.cluster (s : State) (g : Nat) : Cluster := Tab.get (fun _ => Cluster.idle) s.clusters g

/-- The same, put in its place. -/
def State.setLadle (s : State) (l : Nat) (q : Ladle) : State :=
  { s with ladles := Tab.set (fun l => Ladle.reset (l % 16)) s.ladles l q }
def State.setCluster (s : State) (g : Nat) (q : Cluster) : State :=
  { s with clusters := Tab.set (fun _ => Cluster.idle) s.clusters g q }
def State.modLadle (s : State) (l : Nat) (f : Ladle → Ladle) : State := s.setLadle l (f (s.ladle l))

/-- The block of ladle l, and an entry of it under the configuration in force, at an offset from 0x2900 (R436). -/
def ladleBlock (l : Nat) : BlockId := .ladle (Fin.ofNat 256 l)
def State.ladleCfg (s : State) (l offset : Nat) : Nat :=
  s.bcfg (ladleBlock l) (0x2900 + 16 * (l / 16) + offset) (l % 16 + 1)

/-- Ladle l's runners, by publish slot (R418). -/
def State.slotRunner (s : State) (l k : Nat) : Nat := s.bcfg (ladleBlock l) (0x2907 + 16 * (l / 16)) (8 * (l % 16) + k + 1)
def State.ladleRunners (s : State) (l : Nat) : List Nat := (s.pubRunners (s.pourOf (ladleBlock l)) l).eraseDups

/-! ### Fields of ST (R439) -/

def bitN : Nat := 3
def bitZ : Nat := 2
def bitC : Nat := 1
def bitV : Nat := 0
def bitSV : Nat := 5
def bitAV : Nat := 6
def bitPF : Nat := 16
def bitME : Nat := 17
def bitMB : Nat := 18
def bitLK : Nat := 19
def bitSAT : Nat := 27
def bitIE : Nat := 30
def bitEX : Nat := 31

/-- A bit of a word put to a value. -/
def putBit (x : U32) (i : Nat) (b : Bool) : U32 := if b then x ||| ((1 : U32) <<< i) else x &&& ~~~((1 : U32) <<< i)

/-- A bit of ST. -/
def Ladle.bit (q : Ladle) (i : Nat) : Bool := q.st.getLsbD i

/-- ST with a bit put. -/
def Ladle.setBit (q : Ladle) (i : Nat) (b : Bool) : Ladle := { q with st := putBit q.st i b }

/-- The loop depth LD. -/
def Ladle.depth (q : Ladle) : Nat := q.st.toNat / 2 ^ 28 % 4

/-- A word with a loop depth put in it. -/
def putDepth (x : U32) (d : Nat) : U32 := (x &&& ~~~((3 : U32) <<< 28)) ||| (BitVec.ofNat 32 (d % 4) <<< 28)

/-- ST with the loop depth put. -/
def Ladle.setDepth (q : Ladle) (d : Nat) : Ladle := { q with st := putDepth q.st d }

/-- The bits of ST that an MTS writes: all but EX, LD, LK and MB and the reserved ones (R438, R439). -/
def stWritable : U32 := 0x480300EF

/-! ### Registers -/

/-- A D register and an address register. -/
def Ladle.dr (q : Ladle) (n : DReg) : U32 := q.d.get n
def Ladle.ar (q : Ladle) (n : AReg) : U32 := q.a.get n

/-- The same, written. -/
def Ladle.putD (q : Ladle) (n : DReg) (v : U32) : Ladle := { q with d := q.d.set n.val v n.isLt }
def Ladle.putA (q : Ladle) (n : AReg) (v : U32) : Ladle := { q with a := q.a.set n.val v n.isLt }

/-- The parts of an accumulator (R438). -/
def accLow (x : BitVec 40) (v : Nat) : BitVec 40 := BitVec.ofNat 40 (x.toNat / 2 ^ 32 * 2 ^ 32 + v % 2 ^ 32)
def accHigh (x : BitVec 40) (v : Nat) : BitVec 40 := BitVec.ofNat 40 (v % 256 * 2 ^ 32 + x.toNat % 2 ^ 32)

/-- A delayed write lands (R459). -/
def Ladle.applyWrite (q : Ladle) (r : LReg) (v : Nat) : Ladle :=
  let w : U32 := BitVec.ofNat 32 v
  let ix : BitVec 13 := BitVec.ofNat 13 v
  match r with
  | .d n => q.putD n w
  | .a n => q.putA n w
  | .bs n => { q with bs := q.bs.set n.val w n.isLt }
  | .ln n => { q with ln := q.ln.set n.val w n.isLt }
  | .lps n => { q with lps := q.lps.set n.val ix n.isLt }
  | .lpe n => { q with lpe := q.lpe.set n.val ix n.isLt }
  | .lpc n => { q with lpc := q.lpc.set n.val w n.isLt }
  | .accE k => { q with accE := q.accE.set k.val (BitVec.ofNat 40 v) k.isLt }
  | .accLo k => { q with accE := q.accE.set k.val (accLow (q.accE.get k) v) k.isLt
                         accM := q.accM.set k.val (accLow (q.accM.get k) v) k.isLt }
  | .accHi k => { q with accE := q.accE.set k.val (accHigh (q.accE.get k) v) k.isLt
                         accM := q.accM.set k.val (accHigh (q.accM.get k) v) k.isLt }
  | .mxv => { q with mxvM := w, mxvE := w }
  | .mxi => { q with mxiM := w, mxiE := w }
  | .mxvE => { q with mxvE := w }
  | .mxiE => { q with mxiE := w }
  | .st => { q with st := (q.st &&& ~~~stWritable) ||| (w &&& stWritable) }
  | .ld => q.setDepth v
  | .endl => q.setDepth (q.depth - 1)
  | .av k => q.setBit (bitAV + k.val) true
  | .epc => { q with epc := ix }
  | .est => { q with est := w }
  | .ec => { q with ec := w }
  | .ea => { q with ea := w }
  | .ebt => { q with ebt := ix }
  | .vec => { q with vec := ix }
  | .ien => { q with ien := w }

/-- The writes whose delay has passed land, in program order (R459). -/
def Ladle.land (q : Ladle) : Ladle :=
  let ws := q.writes.map (fun w => { w with left := w.left - 1 })
  (ws.filter (fun w => w.left == 0)).foldl (fun q w => q.applyWrite w.reg w.val)
    { q with writes := ws.filter (fun w => w.left != 0) }

/-- Every write on its way lands, in the order of visibility: no delay is longer than 3 (R459, R461). -/
def Ladle.settle (q : Ladle) : Ladle := q.land.land.land

/-! ### Order of execution (R441, R449-R451, R460) -/

/-- Level l is active and ends at p. -/
def Ladle.endsAt (q : Ladle) (p : BitVec 13) : Bool :=
  (List.range 3).any (fun l => decide (l < q.depth) && decide (q.lpe.toList[l]? = some p))

/-- The loop-end test at p for the levels below depth n (R450): whether an iteration completes to a level's start. -/
def loopTest (q : Ladle) (p : BitVec 13) : Nat → Ladle × Bool
  | 0 => (q, false)
  | n + 1 =>
    let k : Fin 3 := Fin.ofNat 3 n
    if q.lpe.get k = p then
      let c := q.lpc.get k - 1
      let q := { q with lpc := q.lpc.set k.val c k.isLt }
      if c = 0 then loopTest (q.setDepth n) p n else ({ q with pc := q.lps.get k }, true)
    else (q, false)

/-- The instruction after the present one becomes the next: a pending branch is taken after its delay slots, and a loop's last
instruction runs the loop-end test. Whether a loop iteration has completed. -/
def Ladle.advance (q : Ladle) : Ladle × Bool :=
  let p := q.pc
  let q := { q with pc := p + 1 }
  match q.branch with
  | some (t, n) => if n ≤ 1 then ({ q with pc := t, branch := none }, false) else ({ q with branch := some (t, n - 1) }, false)
  | none => loopTest q p q.depth

/-- Whether the present instruction breaks R460: a branch in a delay slot, a branch or loop instruction at the end of an active
level, or the end of an active level in a delay slot. -/
def Ladle.seqError (q : Ladle) (branch loop : Bool) : Bool :=
  (branch && q.branch.isSome) || ((branch || loop || q.branch.isSome) && q.endsAt q.pc)

/-- An instruction completes: earlier writes whose delay has passed land, its own results follow, its delayed writes start, and the
next instruction is found. A pause that is due takes place at a completed loop iteration (R432). -/
def Ladle.retire (q : Ladle) (eff : Ladle → Ladle) (later : List PWrite) : Ladle :=
  let q := eff q.land
  let (q, iter) := Ladle.advance { q with writes := q.writes ++ later }
  if iter && q.pauseDue then { q with run := .paused, before := .running, pauseDue := false } else q

/-! ### Windows and addresses (R398, R399, R446) -/

/-- Bytes of DM and of cluster memory, and the address of the latter (R398). -/
def dmBytes : Nat := 0x20000
def clusterBase : Nat := 0x100000
def clusterBytes : Nat := 0x200000

/-- A range in DM, and in cluster memory. -/
def inDm (a n : Nat) : Bool := decide (a + n ≤ dmBytes)
def inCluster (a n : Nat) : Bool := decide (clusterBase ≤ a) && decide (a + n ≤ clusterBase + clusterBytes)

/-- The bank of a cluster address (R398). -/
def bankOf (a : Nat) : Nat := (a - clusterBase) / 0x20000

/-- What is wrong with an access of n bytes at a, aligned to m: 1 outside a window, 2 misaligned (R399, R447, R461). -/
def accessFault (a n m : Nat) : Option Nat :=
  if !(inDm a n || inCluster a n) then some 1 else if a % m ≠ 0 then some 2 else none

/-- circ(An, m) (R446). -/
def Ladle.circ (q : Ladle) (n : AReg) (m : Int) : U32 :=
  let a := q.ar n
  let b := q.bs.get n
  let l := (q.ln.get n).toNat
  if l = 0 then BitVec.ofInt 32 ((a.toNat : Int) + m)
  else BitVec.ofInt 32 ((b.toNat : Int) + ((a.toNat : Int) - b.toNat + m) % (l : Int))

/-- Bytes of a memory. -/
def readBytes (t : Tab Byte) (a n : Nat) : List Byte := (List.range n).map (fun i => Tab.get memDefault t (a + i))

/-- n bytes at a ladle address (R398). -/
def State.ladleRead (s : State) (l a n : Nat) : List Byte :=
  if inDm a n then readBytes (s.ladle l).dm a n else readBytes (s.cluster (l / 16)).mem (a - clusterBase) n

/-! ### Input rings (R412-R417) -/

/-- The offset of a port's ring in cluster memory and the size of its data area; none where it subscribes to nothing (R412,
R414). -/
def ringOf (cfg : U64) : Option (Nat × Nat) :=
  if cfg.toNat / 2 ^ 56 = 0 then none else some (cfg.toNat / 2 ^ 16 % 512 * 4096, cfg.toNat % 1024 * 4096 - 64)

/-- A word of cluster memory by offset. -/
def State.clusterWord (s : State) (g off : Nat) : Nat := ofLeBytes (readBytes (s.cluster g).mem off 4)

/-- Bytes written to cluster memory by offset. -/
def State.clusterWrite (s : State) (g off : Nat) (bs : List Byte) : State :=
  s.setCluster g { s.cluster g with mem := storeBytes (s.cluster g).mem off bs }

/-- Bytes written to the data area of a ring from an offset, wrapping at its end (R415). -/
def State.ringWrite (s : State) (g base size off : Nat) (bs : List Byte) : State :=
  let first := bs.take (size - off)
  (s.clusterWrite g (base + 64 + off) first).clusterWrite g (base + 64) (bs.drop first.length)

/-- n bytes of the data area of a ring from an offset. -/
def State.ringRead (s : State) (g base size off n : Nat) : List Byte :=
  (List.range n).map (fun i => Tab.get memDefault (s.cluster g).mem (base + 64 + (off + i) % size))

/-- Port p of ladle l. -/
def Ladle.port (q : Ladle) (p : Fin 4) : Port := q.ports.get p
def Ladle.setPort (q : Ladle) (p : Fin 4) (x : Port) : Ladle := { q with ports := q.ports.set p.val x p.isLt }

/-- The mask of ports that have an entry: their ring's head differs from its tail (R455). -/
def State.portsReady (s : State) (l : Nat) : Nat :=
  (List.range 4).foldl (fun m p =>
    match ringOf ((s.ladle l).port (Fin.ofNat 4 p)).cfg with
    | none => m
    | some (base, _) =>
      if s.clusterWord (l / 16) base = s.clusterWord (l / 16) (base + 4) then m else m + 2 ^ p) 0

/-- The entries of a ring from one offset to another, as marks: pour, R176 flags and whether the entry is pour-mixed; gap entries
carry none (R420). `fuel` bounds the walk by the entries that the ring can hold. -/
def State.releasedMarks (s : State) (g base size : Nat) : (fuel off stop : Nat) → List Mark
  | 0, _, _ => []
  | fuel + 1, off, stop =>
    if off = stop then []
    else
      let h := s.ringRead g base size off 64
      let len := ceilTo 64 (max 64 (field h 4 4))
      let rest := s.releasedMarks g base size fuel ((off + len) % size) stop
      if field h 0 1 = 1 then rest
      else
        { flags := field h 36 4 % 16, pour := some (BitVec.ofNat 32 (field h 16 4)), mixed := (field h 36 4).testBit 4 } :: rest

/-- The tails of ladle l's rings: port, ring and tail. -/
def State.tails (s : State) (l : Nat) : List (Nat × Nat × Nat) :=
  (List.range 4).filterMap (fun p =>
    (ringOf ((s.ladle l).port (Fin.ofNat 4 p)).cfg).map (fun r => (r.1, r.2, s.clusterWord (l / 16) (r.1 + 4))))

/-- After a store into cluster memory: every tail that has moved folds the entries that it released into the accumulators (R417,
R420). -/
def State.foldReleased (s : State) (l : Nat) (old : List (Nat × Nat × Nat)) : State :=
  old.foldl (fun s (base, size, tail) =>
    let new := s.clusterWord (l / 16) (base + 4)
    let marks := if size = 0 then [] else s.releasedMarks (l / 16) base size (size / 64) (tail % size) (new % size)
    marks.foldl (fun s m => s.modLadle l (fun q => { q with acc := q.acc.join m, lastAcc := m })) s) s

/-- Bytes written at a ladle address (R398), and what the rings make of it. -/
def State.ladleWrite (s : State) (l a : Nat) (bs : List Byte) : State :=
  if inDm a bs.length then s.modLadle l (fun q => { q with dm := storeBytes q.dm a bs })
  else
    let old := s.tails l
    (s.clusterWrite (l / 16) (a - clusterBase) bs).foldReleased l old

/-! ### Arbiters (R401-R408) -/

/-- The arbiter of a resource. -/
def State.arb (s : State) (g res : Nat) : Arb := Tab.get (fun _ => Arb.idle) (s.cluster g).arbs res

/-- Bit r of the drained mask: resource r is frozen and has no owner (R408). -/
def State.showDrained (s : State) (g : Nat) : State :=
  s.put (0x2909 + 16 * g) 2 ((List.range 18).foldl (fun m r =>
    if (s.num (0x2909 + 16 * g) 1).testBit r && (s.arb g r).owner.isNone then m + 2 ^ r else m) 0)

/-- An arbiter put in its place. -/
def State.setArb (s : State) (g res : Nat) (a : Arb) : State :=
  (s.setCluster g { s.cluster g with arbs := Tab.set (fun _ => Arb.idle) (s.cluster g).arbs res a }).showDrained g

/-- Resource r of cluster g is frozen. -/
def State.frozen (s : State) (g r : Nat) : Bool := (s.num (0x2909 + 16 * g) 1).testBit r

/-- Ladle l can have resource r at once: it holds it locked, or nobody owns or waits for it and it is not frozen. -/
def State.free (s : State) (l r : Nat) : Bool :=
  let a := s.arb (l / 16) r
  ((s.ladle l).lock.map Fin.val) == some r || (a.owner.isNone && a.queue.isEmpty && !s.frozen (l / 16) r)

/-- An uncontended grant: the last owner of the rank (R404). -/
def State.granted (s : State) (l r : Nat) : State :=
  if ((s.ladle l).lock.map Fin.val) == some r then s
  else
    let a := s.arb (l / 16) r
    s.setArb (l / 16) r { a with lastOf := Tab.set (fun _ => 0) a.lastOf (s.ladleCfg l 1) ((s.ladle l).phys + 1) }

/-- Ladle l is held with an instruction, its request for resource r queued at its rank (R406, R454). -/
def State.request (s : State) (l r words done : Nat) (lock : Bool) (i : Instr) : State :=
  let a := s.arb (l / 16) r
  let q : Req := { ladle := l, rank := s.ladleCfg l 1, words := words, moved := 0, lock := lock }
  (s.setArb (l / 16) r { a with queue := a.queue ++ [q] }).modLadle l (fun q => { q with held := some { instr := i, done := done } })

/-- Every request and grant of ladle l is withdrawn, but for a locked sequence and the mover's transfers where `all` is false; one that
has a grant and has moved no word costs a dead cycle (R407, R428). -/
def State.withdrawAll (s : State) (l : Nat) (all : Bool := true) : State :=
  (List.range 18).foldl (fun s r =>
    let a := s.arb (l / 16) r
    let mover (q : Req) : Bool := r == 16 && !q.lock
    let mine (q : Req) : Bool := q.ladle == l && (all || !mover q)
    let owns := (a.owner.map (fun q => mine q && (all || !q.lock))).getD false
    let dead := (a.owner.map (fun q => mine q && q.moved == 0 && !q.lock)).getD false
    let s := if dead then s.bump (0x2909 + 16 * (l / 16)) 4 else s
    if owns || a.queue.any mine then
      s.setArb (l / 16) r { a with owner := if owns then none else a.owner, queue := a.queue.filter (fun q => !mine q) }
    else s) s

/-! ### Watchdog events (R427-R430) -/

/-- The element number of a physical ladle: its die, and 17 g + position (R427, R623). -/
def State.ladleElement (s : State) (l : Nat) : Nat := l / 128 * 2 ^ 56 + 17 * (l / 16) + (s.ladle l).phys

/-- A watchdog event of ladle l: it restarts in place, moves to the spare, or fails (R427-R430). -/
def State.watchdogEvent (s : State) (l : Nat) : State :=
  let g := l / 16
  let q := s.ladle l
  if q.run != .running && q.run != .waiting && q.run != .paused then s
  else
    let (s, c, lasting) := s.countFault .ladle (s.ladleElement l)
    let spare := !(s.cluster g).spare
    let rs := s.ladleRunners l
    let hit := (rs.filter s.isRecordRunner).map (fun n => let k := (s.runner n).nextSeq.toNat; (n, k, k + 1))
    let s := s.report
      { severity := if lasting then 3 else 1, subsys := 14, kind := if lasting then (if spare then 2 else 3) else 1, cls := 6
        element := s.ladleElement l, runners := hit, count := c, notes := if lasting && !spare then 1 else 0, detail := l
        code := 0x5000 }
    let s := match q.lock with
      | none => s
      | some r => s.report { severity := 1, subsys := 14, kind := 9, cls := 6, element := s.ladleElement l, detail := r.val }
    let s := (s.withdrawAll l).stopRunners rs s.now 4 true
    let s := if lasting && spare then s.setCluster g { s.cluster g with spare := true } else s
    s.modLadle l (fun q => { q with
      run := if lasting && !spare then .failed else .restarting, held := none, lock := none, lockLost := none, waitOn := none
      toSpare := lasting && spare, pauseDue := false, movers := [], events := q.events + 1 })

/-! ### The watchdog count (R427) -/

/-- A ladle that waited executes again: its watchdog count goes on from where it stood. -/
def Ladle.goesOn (now : Nat) (q : Ladle) : Ladle :=
  { q with run := .running, kicked := q.kicked + (if q.run = .running then 0 else now - q.idleAt) }

/-- A ladle that executes stops doing so: its watchdog count stands. -/
def Ladle.stands (now : Nat) (q : Ladle) : Ladle := { q with idleAt := if q.run = .running then now else q.idleAt }

/-- A paused ladle resumes where it paused (R432). -/
def Ladle.resumes (now : Nat) (q : Ladle) : Ladle :=
  { q with run := q.before, kicked := q.kicked + (if q.before = .running then now - q.idleAt else 0) }

/-! ### Exceptions (R461) -/

/-- Bits of a word below 2^k. -/
def low (k v : Nat) : Nat := v % 2 ^ k

/-- The ladle as an exception enters: every write lands, EPC, EC, EA, EBT and EST are set, and execution continues at VEC. -/
def Ladle.enter (q : Ladle) (cause detail ea : Nat) : Ladle :=
  let w := !q.writes.isEmpty
  let pc := q.pc
  let br := q.branch
  let q := q.settle
  let ds := match br with
    | some (_, n) => 2 ^ 30 + 2 ^ 28 * low 2 n
    | none => 0
  let ec := low 8 cause + 2 ^ 8 * low 8 detail + ds + (if w then 2 ^ 31 else 0)
  { q with
    epc := pc, ebt := (br.map Prod.fst).getD q.ebt, est := q.st, ec := BitVec.ofNat 32 ec, ea := BitVec.ofNat 32 ea
    st := putDepth (putBit (putBit q.st bitEX true) bitIE false) 0, pc := q.vec, branch := none, waitOn := none
    run := if q.run = .paused then .paused else .running }

/-- Ladle l takes an exception at its present instruction; one that comes while a handler runs, or with no handler, is a watchdog
event (R461). -/
def State.exception (s : State) (l cause detail ea : Nat) : State :=
  let q := (s.ladle l).settle
  if q.bit bitEX || !q.ien.getLsbD 31 then s.watchdogEvent l
  else s.modLadle l (fun q => (if q.run = .waiting then q.goesOn s.ctl.crystalCount else q).enter cause detail ea)

/-- A lock timeout that waits is delivered before the next instruction (R411, R456). -/
def State.deliverLost (s : State) (l : Nat) : State :=
  match (s.ladle l).lockLost with
  | none => s
  | some r =>
    let q := s.ladle l
    if (q.run == .running || q.run == .waiting) && q.held.isNone then
      (s.modLadle l (fun q => { q with lockLost := none })).exception l 4 r.val 0
    else s

/-! ### Issue and completion -/

/-- The instruction of ladle l completes. A pause at the end of a loop iteration stops its runners (R432). -/
def State.finish (s : State) (l : Nat) (eff : Ladle → Ladle) (later : List PWrite := []) : State :=
  let s := s.modLadle l (fun q => Ladle.retire { q with held := none } eff later)
  let s := if (s.ladle l).run = .paused then
      (s.modLadle l (fun q => { q with idleAt := s.ctl.crystalCount })).stopRunners (s.ladleRunners l) s.now 5 false
    else s
  s.deliverLost l

/-- Ladle l executes instructions: it runs and is not held. -/
def Ladle.issues (q : Ladle) : Bool := q.run == .running && q.held.isNone

/-- Ladle l issues an instruction: one that is not legal, or breaks the sequence rules, is an illegal instruction (R442, R460). -/
def State.issue (s : State) (l : Nat) (legal branch loop : Bool) (f : State → State) : State :=
  let q := s.ladle l
  if !q.issues then s
  else if !legal || q.seqError branch loop then s.watchdogEvent l
  else f s

/-- An instruction that reaches registers only: `eff` gives its results from the registers as it reads them, with its delayed
writes. -/
def State.alu (s : State) (l : Nat) (eff : Ladle → (Ladle → Ladle) × List PWrite) : State :=
  s.issue l true false false (fun s =>
    let (f, later) := eff (s.ladle l)
    s.finish l f later)

/-! ### Publishing (R418-R420, R457) -/

/-- The mark that a publish stamps, and the accumulators after it (R420). -/
def Ladle.stampMark (q : Ladle) : Mark := if q.acc.pour.isNone then q.lastAcc else q.acc

/-- A publish of n bytes at a payload address with a template address: whether the record was dropped (R418-R420). A record that
its slot cannot hold is dropped too. -/
def State.pub (s : State) (l slot pa ta n : Nat) : State × Bool :=
  let q := s.ladle l
  let t := s.ladleRead l ta 16
  let rn := s.slotRunner l slot
  let prog := field t 14 2
  let m := q.stampMark
  let time : T96 := BitVec.ofNat 96 (field t 0 12)
  let r : Rec :=
    { typ := 128 ||| field t 13 1, chan := field t 12 1, source := l, prog := prog, time := time, stop := time, fields := []
      payload := s.ladleRead l pa n, mark := { m with flags := m.flags ||| prog % 512 }, cfgPour := s.pourOf (ladleBlock l) }
  let s := s.modLadle l (fun q => { q with acc := Mark.empty })
  if !s.isRecordRunner rn then (s, false)
  else
    let drops := (s.runner rn).drops
    let s := if 64 + n ≤ (s.runner rn).slotBytes then s.publish rn r
      else s.setRunner rn ((s.runner rn).drop time time 1)
    let lost := (s.runner rn).drops != drops
    (if lost then s.modLadle l (fun q => { q with dropped := q.dropped + 1 }) else s, lost)

/-! ### Programs, starts and stops (R421-R424, R428, R437) -/

/-- The fields of a program image (R421). -/
structure Image where
  code  : Nat
  data  : Nat
  entry : Nat

/-- An image's header, when its layout is that of R421. -/
def readImage (b : List Byte) : Option Image :=
  let c := field b 0 4
  let d := field b 4 4
  let e := field b 8 4
  if 16 ≤ b.length ∧ c % 4 = 0 ∧ 4 ≤ c ∧ c ≤ 32768 ∧ d ≤ 131072 ∧ e < c / 4 ∧ b.length = 16 + c + d
      ∧ field b 12 4 = (crc32c (b.drop 16)).toNat then some { code := c, data := d, entry := e }
  else none

/-- What IM holds beyond the code length: an illegal word (R437). -/
def imDefault (_ : Nat) : U32 := 0xFFFFFFFF

/-- Words of code from an index on. -/
def loadWords (t : Tab U32) (i : Nat) : (n : Nat) → List Byte → Tab U32
  | 0, _ => t
  | n + 1, b => loadWords (Tab.set imDefault t i (BitVec.ofNat 32 (field b 0 4))) (i + 1) n (b.drop 4)

/-- The image of ladle l (R421). -/
def State.imageOf (s : State) (l : Nat) : List Byte := (s.val (0x4000 + l) 0).data

/-- Ladle l starts at its entry address, its memories loaded from its image and every register at its reset value (R422, R428,
R437); a lock that it still holds ends. Its ports, accumulated counts and position stay. -/
def State.startLadle (s : State) (l : Nat) : State :=
  let b := s.imageOf l
  match readImage b with
  | none => s
  | some im =>
    (s.withdrawAll l).modLadle l (fun q => { Ladle.reset q.phys with
      run := .running, pc := BitVec.ofNat 13 im.entry, im := loadWords [] 0 (im.code / 4) (b.drop 16)
      dm := storeBytes [] 0 (slice b (16 + im.code) im.data), ports := q.ports, events := q.events, discards := q.discards
      dropped := q.dropped, lastAcc := q.lastAcc, pauseDue := decide (2 ≤ s.hea.level), kicked := s.ctl.crystalCount })

/-- Ladle l halts with its state kept; a request that waits is withdrawn, and a lock is left to its watchdog (R411, R424). -/
def State.haltLadle (s : State) (l : Nat) : State :=
  ((s.withdrawAll l false).modLadle l (fun q => { q with run := .stopped, held := none, waitOn := none, due := none, pauseDue := false }))

/-- The subscription of ladle l's port k under a pour (R412). -/
def State.tapCfg (s : State) (l k : Nat) (p : U32) : U64 :=
  BitVec.ofNat 64 (s.cfg p (0x2903 + 16 * (l / 16) + k) (l % 16 + 1))

/-- Port k of ladle l takes its subscription under a pour: a changed one starts with an empty ring, its unreleased entries
discarded (R424). -/
def State.switchPort (s : State) (l k : Nat) (p : U32) : State :=
  let g := l / 16
  let x := (s.ladle l).port (Fin.ofNat 4 k)
  let cfg := s.tapCfg l k p
  if x.cfg = cfg then s
  else
    let lost := match ringOf x.cfg with
      | none => 0
      | some (base, size) =>
        if size = 0 then 0
        else (s.releasedMarks g base size (size / 64) (s.clusterWord g (base + 4) % size) (s.clusterWord g base % size)).length
    let s := s.modLadle l (fun q =>
      { q.setPort (Fin.ofNat 4 k) { Port.none with cfg := cfg, pour := p } with discards := q.discards + lost + x.queue.length })
    match ringOf cfg with
    | none => s
    | some (base, _) => s.clusterWrite g base (List.replicate 64 0)

/-- All ports of ladle l take their subscriptions under a pour. -/
def State.switchPorts (s : State) (l : Nat) (p : U32) : State :=
  (List.range 4).foldl (fun s k => s.switchPort l k p) s

/-- The block whose boundary a subscription follows: its source (R412, R424). -/
def tapBlock (cfg : U64) : Option BlockId :=
  let k := cfg.toNat / 2 ^ 56
  let c : Ch := Fin.ofNat 4 (cfg.toNat / 2 ^ 48)
  let ix := cfg.toNat / 2 ^ 40 % 256
  if k = 1 then some (.reduction c (Fin.ofNat 6 ix)) else if k = 2 then some (.main c) else if k = 3 then some (.ddc c (Fin.ofNat 8 ix))
  else if k = 4 then some (.tiInput (Fin.ofNat 8 ix)) else none

/-- Whether port k of ladle l can take a pour: its source, or the one it leaves for none, has switched to it (R424). -/
def State.portDue (s : State) (l k : Nat) (p : U32) : Bool :=
  match (tapBlock (s.tapCfg l k p)).orElse (fun _ => tapBlock ((s.ladle l).port (Fin.ofNat 4 k)).cfg) with
  | none => true
  | some b => s.pourOf b == 0 || !older (s.pourOf b) p

/-- Whether a pour changes a port of ladle l. -/
def State.portsChange (s : State) (l : Nat) (p : U32) : Bool :=
  (List.range 4).any (fun k => ((s.ladle l).port (Fin.ofNat 4 k)).cfg != s.tapCfg l k p)

/-- A ladle port that an entry of the dictionary subscribes: 0x29g3 to 0x29g6 (R436). -/
def portOfKey (key : Nat) : Option (Nat × Nat) :=
  let i := key / 256
  let sub := key % 256
  if i / 256 = 0x29 ∧ 3 ≤ i % 16 ∧ i % 16 ≤ 6 ∧ 1 ≤ sub ∧ sub ≤ 16 then some (16 * (i / 16 % 16) + sub - 1, i % 16 - 3) else none

/-- A source has switched to a pour: the ports that the pour changes to it, or from it to none, switch there (R424). -/
def State.switchPortsOf (s : State) (b : BlockId) (p : U32) : State :=
  match b with
  | .reduction _ _ | .main _ | .ddc _ _ | .tiInput _ =>
    if s.pourOf b != p then s
    else
      (s.ctl.pours.flatMap (fun q => q.delta.filterMap (fun e => portOfKey e.1))).foldl (fun s (l, k) =>
        if s.portDue l k p && older (s.pourOf (ladleBlock l)) p then s.switchPort l k p else s) s
  | _ => s

/-- The rest of ladle l's changes take effect: it starts, or halts, or goes on under the new pour (R424). A failed ladle starts
again once an image has been written (R430). -/
def State.applyLadle (s : State) (l : Nat) (p : U32) : State :=
  let s := (s.setPour (ladleBlock l) p).modLadle l (fun q => { q with due := none })
  let run := s.ladleCfg l 0 == 1
  let q := s.ladle l
  let s := if run then s.noteWriter (ladleBlock l) else s
  if run && q.run == .stopped then
    (s.startLadle l).restartRunners (s.ladleRunners l) s.now
  else if !run && (q.run == .running || q.run == .waiting || q.run == .paused) then s.haltLadle l
  else s

/-- Ladle l takes a pour: its ports where their sources have switched, and after the last of them the rest at its next
wait-for-input; a ladle that is not executing takes the rest at once (R424). -/
def State.switchLadle (s : State) (l : Nat) (p : U32) : State :=
  let s := (List.range 4).foldl (fun s k => if s.portDue l k p then s.switchPort l k p else s) s
  let q := s.ladle l
  if s.portsChange l p then s
  else if q.run == .running || q.run == .paused || q.run == .restarting then s.modLadle l (fun q => { q with due := some p })
  else s.applyLadle l p

/-- A wait-for-input: changes that are due take effect, and a pause that is due takes place (R424, R432). Whether the ladle still
runs. -/
def State.atWait (s : State) (l : Nat) : State × Bool :=
  let s := match (s.ladle l).due with
    | none => s
    | some p => s.applyLadle l p
  let q := s.ladle l
  if q.run != .running then (s, false)
  else if q.pauseDue then
    ((s.modLadle l (fun q => { q.stands s.ctl.crystalCount with run := .paused, before := .running, pauseDue := false })).stopRunners
      (s.ladleRunners l) s.now 5 false, false)
  else (s, true)

/-- Entry to Q2: a ladle pauses at its next loop iteration or wait; one that waits pauses at once (R432). -/
def State.pauseLadles (s : State) : State :=
  s.ladles.foldl (fun s (l, _) =>
    let q := s.ladle l
    if q.run = .waiting then
      (s.modLadle l (fun q => { q with run := .paused, before := .waiting })).stopRunners (s.ladleRunners l) s.now 5 false
    else if q.run = .running then s.modLadle l (fun q => { q with pauseDue := true }) else s) s

/-- Exit from Q2: a paused ladle resumes where it paused (R432). -/
def State.resumeLadles (s : State) : State :=
  s.ladles.foldl (fun s (l, _) =>
    let q := s.ladle l
    let s := s.modLadle l (fun q => { q with pauseDue := false })
    if q.run = .paused then
      ((s.modLadle l (Ladle.resumes s.ctl.crystalCount)).restartRunners (s.ladleRunners l) s.now).deliverLost l
    else s) s

end Sys2Proof.Machine
end

