-- ==== Sys2Proof/Machine/Flags.lean ====
section
/-! DEFINITION. The flag computations and operand forms of the ladle instructions (R439, R441, R444-R446). -/

namespace Sys2Proof.Machine

/-! ### Flags (R439, R441) -/

/-- N and Z from a result. -/
def Ladle.flagsNZ (q : Ladle) (v : U32) : Ladle := (q.setBit bitN v.msb).setBit bitZ (v == 0)

/-- N, Z, C and V. -/
def Ladle.flagsNZCV (q : Ladle) (v : U32) (c o : Bool) : Ladle := ((q.flagsNZ v).setBit bitC c).setBit bitV o

/-- The result, carry and signed overflow of a + b. -/
def addFlags (a b : U32) : U32 × Bool × Bool :=
  (a + b, decide (2 ^ 32 ≤ a.toNat + b.toNat), decide ((a + b).toInt ≠ a.toInt + b.toInt))

/-- The result, carry (no borrow) and signed overflow of a − b. -/
def subFlags (a b : U32) : U32 × Bool × Bool :=
  (a - b, decide (b.toNat ≤ a.toNat), decide ((a - b).toInt ≠ a.toInt - b.toInt))

/-- Kinds of shift. -/
inductive Shift where
  | left | logical | arithmetic
deriving DecidableEq, Repr

/-- A shift by n below 32, and the last bit out; none for a shift of 0 (R441). -/
def shiftOut (k : Shift) (a : U32) (n : Nat) : U32 × Option Bool :=
  match k with
  | .left => (a <<< n, if n = 0 then none else some (a.getLsbD (32 - n)))
  | .logical => (a >>> n, if n = 0 then none else some (a.getLsbD (n - 1)))
  | .arithmetic => (a.sshiftRight n, if n = 0 then none else some (a.getLsbD (n - 1)))

/-- A signed result clamped to 32 bits, and whether it was clamped (R441). -/
def clamp32 (x : Int) : U32 × Bool := (BitVec.ofInt 32 (clampBits 32 x), clamps (-(2 ^ 31)) (2 ^ 31 - 1) x)

/-! ### Operand forms (R440, R441) -/

/-- An 18-bit immediate with its sign, and with zeros. -/
def sx18 (imm : BitVec 18) : U32 := imm.signExtend 32
def zx18 (imm : BitVec 18) : U32 := imm.setWidth 32

/-- A half of a register as an integer, signed or unsigned (R444). -/
def halfOf (x : U32) (high unsigned : Bool) : Int :=
  let h : U16 := if high then (x >>> 16).setWidth 16 else x.setWidth 16
  if unsigned then h.toNat else h.toInt

/-- The product p of R444, before it is extended to 40 bits. -/
def product (a b : U32) (hs ht u f : Bool) : Int := halfOf a hs u * halfOf b ht u * (if f then 2 else 1)

/-- An accumulation: wrapped, or clamped with ST.SAT, and whether AVk is set (R444). -/
def accumulate (x : Int) (sat : Bool) : BitVec 40 × Bool :=
  (BitVec.ofInt 40 (if sat then clampBits 40 x else x), clamps (-(2 ^ 39)) (2 ^ 39 - 1) x)

/-- EXT: the accumulator shifted right, to minus infinity or to nearest with ties to even, and clamped (R445). -/
def extract (x : BitVec 40) (sh : Nat) (round : Bool) : U32 × Bool :=
  clamp32 (if round then roundShift x.toInt sh else x.toInt.fdiv (2 ^ sh))

/-! ### Results in registers -/

/-- Dd with N and Z. -/
def Ladle.resultNZ (q : Ladle) (d : DReg) (v : U32) : Ladle := (q.putD d v).flagsNZ v

/-- Dd with N, Z, C and V. -/
def Ladle.resultNZCV (q : Ladle) (d : DReg) (r : U32 × Bool × Bool) : Ladle := (q.putD d r.1).flagsNZCV r.1 r.2.1 r.2.2

/-- Dd with N and Z; V when clamped. -/
def Ladle.resultClamped (q : Ladle) (d : DReg) (r : U32 × Bool) : Ladle := (q.resultNZ d r.1).setBit bitV r.2

/-- Dd with N and Z; C the last bit out, when there is one. -/
def Ladle.resultShift (q : Ladle) (d : DReg) (r : U32 × Option Bool) : Ladle :=
  let q := q.resultNZ d r.1
  match r.2 with
  | none => q
  | some c => q.setBit bitC c

/-! ### Special registers (R438) -/

/-- What MFS reads of a code for logical ladle l. -/
def Ladle.special (q : Ladle) (l : Nat) (code : Nat) : U32 :=
  if code < 8 then q.bs.get (Fin.ofNat 8 code)
  else if code < 16 then q.ln.get (Fin.ofNat 8 code)
  else if code < 0x13 then (q.lps.get (Fin.ofNat 3 (code - 0x10))).setWidth 32
  else if code < 0x16 then (q.lpe.get (Fin.ofNat 3 (code - 0x13))).setWidth 32
  else if code < 0x19 then q.lpc.get (Fin.ofNat 3 (code - 0x16))
  else if code = 0x19 then q.st
  else if code = 0x1A then q.mxvE
  else if code = 0x1B then q.mxiE
  else if code = 0x1C ∨ code = 0x1E then (q.accE.get (Fin.ofNat 2 ((code - 0x1C) / 2))).setWidth 32
  else if code = 0x1D ∨ code = 0x1F then ((q.accE.get (Fin.ofNat 2 ((code - 0x1D) / 2))).sshiftRight 32).setWidth 32
  else if code = 0x20 then q.epc.setWidth 32
  else if code = 0x21 then q.est
  else if code = 0x22 then q.ec
  else if code = 0x23 then q.ea
  else if code = 0x24 then q.ebt.setWidth 32
  else if code = 0x25 then q.vec.setWidth 32
  else if code = 0x26 then q.ien
  else if code = 0x27 then q.mve
  else BitVec.ofNat 32 (q.phys * 256 + l)

/-- The delayed writes of an MTS to a code; none to a read-only register (R438, R459). -/
def specialWrites (code : Nat) (v : U32) : List PWrite :=
  let n := v.toNat
  let w (r : LReg) (val left : Nat) : List PWrite := [{ reg := r, val := val, left := left }]
  if code < 8 then w (.bs (Fin.ofNat 8 code)) n 1
  else if code < 16 then w (.ln (Fin.ofNat 8 code)) (n % 2 ^ 22 / 4 * 4) 1
  else if code < 0x13 then w (.lps (Fin.ofNat 3 (code - 0x10))) n 3
  else if code < 0x16 then w (.lpe (Fin.ofNat 3 (code - 0x13))) n 3
  else if code < 0x19 then w (.lpc (Fin.ofNat 3 (code - 0x16))) n 3
  else if code = 0x19 then w .st n 1 ++ w .ld (n / 2 ^ 28) 3
  else if code = 0x1A then w .mxv n 1
  else if code = 0x1B then w .mxi n 1
  else if code = 0x1C ∨ code = 0x1E then w (.accLo (Fin.ofNat 2 ((code - 0x1C) / 2))) n 1
  else if code = 0x1D ∨ code = 0x1F then w (.accHi (Fin.ofNat 2 ((code - 0x1D) / 2))) n 1
  else if code = 0x20 then w .epc n 1
  else if code = 0x21 then w .est n 1
  else if code = 0x22 then w .ec n 1
  else if code = 0x23 then w .ea n 1
  else if code = 0x24 then w .ebt n 1
  else if code = 0x25 then w .vec n 1
  else if code = 0x26 then w .ien n 1
  else []

/-! ### Conditions (R443) -/

/-- Whether condition `cond` of B holds. -/
def Ladle.holds (q : Ladle) (cond : BitVec 4) : Bool :=
  let n := q.bit bitN
  let z := q.bit bitZ
  let c := q.bit bitC
  let v := q.bit bitV
  match cond.toNat with
  | 0 => true
  | 1 => z
  | 2 => !z
  | 3 => n != v
  | 4 => n == v
  | 5 => z || n != v
  | 6 => !z && n == v
  | 7 => !c
  | 8 => c
  | 9 => n
  | 10 => !n
  | 11 => v
  | 12 => !v
  | 13 => q.bit bitPF
  | 14 => q.bit bitME
  | _ => q.bit bitMB

/-- The search step of MAX and MIN: whether Ds replaces MXV (R453). -/
def replaces (isMax unsigned onEqual : Bool) (x best : U32) : Bool :=
  (onEqual && x == best) ||
    (match isMax, unsigned with
     | true, true => decide (best.toNat < x.toNat)
     | true, false => decide (best.toInt < x.toInt)
     | false, true => decide (x.toNat < best.toNat)
     | false, false => decide (x.toInt < best.toInt))

end Sys2Proof.Machine
end

