-- ==== Sys2Proof/Machine/LadleMem.lean ====
section
/-! DEFINITION. Ladle instructions that reach memories and shared resources: loads and stores, XF, locks, publishing and the mover
(R447, R448, R454-R458); a contended one is held until ARBITER_GRANT lets it complete. -/

namespace Sys2Proof.Machine

/-- An address exception (R461). -/
def State.addressError (s : State) (l detail ea : Nat) : State := s.exception l 1 detail ea

/-- A request for a resource below the locked one is an order error, counted (R410, R456). -/
def State.orderError (s : State) (l r : Nat) : State := (s.bump (0x2909 + 16 * (l / 16)) 6).exception l 3 r 0

/-- Ladle l holds a lock on a resource numbered above r. -/
def Ladle.breaksOrder (q : Ladle) (r : Nat) : Bool := (q.lock.map (fun x => decide (r < x.val))).getD false

/-- An instruction of ladle l that needs resource r for some words: at once when r is free, else held (R454, R456). -/
def State.withResource (s : State) (l r words : Nat) (i : Instr) (f : State → State) : State :=
  if (s.ladle l).breaksOrder r then s.orderError l r
  else if s.free l r then f (s.granted l r)
  else s.request l r words 0 false i

/-! ### LD and SD (R447) -/

/-- Bytes of an access by its size field. -/
def formBytes (m : MemForm) : Nat := if m.size = 2 then 4 else if m.size = 3 then 8 else 2

/-- The modifier: sx(imm15), or Dm read as signed. -/
def Ladle.modifier (q : Ladle) (m : MemForm) : Int := if m.x then (q.dr (Fin.ofNat 16 m.m.toNat)).toInt else m.m.toInt

/-- The effective address: An, or circ(An, m) when indexed. -/
def Ladle.effective (q : Ladle) (m : MemForm) : Nat := (if m.p then q.circ m.a (q.modifier m) else q.ar m.a).toNat

/-- An post-modified, unless the mode is indexed. -/
def Ladle.postModify (q : Ladle) (m : MemForm) : Ladle → Ladle :=
  let v := q.circ m.a (q.modifier m)
  fun q => if m.p then q else q.putA m.a v

/-- What a load of the given bytes puts in Dr and, for a pair, in D(r + 1). -/
def loadValue (m : MemForm) (bs : List Byte) : List (DReg × Nat) :=
  let v := ofLeBytes bs
  match m.size with
  | 0 => [(m.r, bitsOf 32 (signedOf 16 v))]
  | 1 => [(m.r, v)]
  | 2 => [(m.r, v)]
  | _ => [(m.r, v % 2 ^ 32), (m.r + 1, v / 2 ^ 32)]

/-- A load completes: from DM its result is visible two instructions late, from cluster memory at once; a poisoned word of cluster
memory raises cause 7, and one of DM is a watchdog event (R427, R447, R454, R459). -/
def State.loadNow (s : State) (l : Nat) (m : MemForm) (ecc : Ecc) : State :=
  let s := s.sramRead ecc
  let q := s.ladle l
  let e := q.effective m
  let vs := loadValue m (s.ladleRead l e (formBytes m))
  if inDm e (formBytes m) then
    if ecc = .uncorrectable then s.watchdogEvent l
    else s.finish l (q.postModify m) (vs.map (fun (v : DReg × Nat) => { reg := .d v.1, val := v.2, left := 2 }))
  else if ecc = .uncorrectable then (s.modLadle l (fun q => { q with held := none })).exception l 7 0 (e / 8 * 8)
  else s.finish l (fun r => vs.foldl (fun r (v : DReg × Nat) => r.putD v.1 (BitVec.ofNat 32 v.2)) (q.postModify m r))

/-- The bytes that a store writes. -/
def Ladle.storeData (q : Ladle) (m : MemForm) : List Byte :=
  leBytes (formBytes m) ((q.dr m.r).toNat + (if m.size = 3 then 2 ^ 32 * (q.dr (m.r + 1)).toNat else 0))

/-- A store completes. -/
def State.storeNow (s : State) (l : Nat) (m : MemForm) : State :=
  let q := s.ladle l
  (s.ladleWrite l (q.effective m) (q.storeData m)).finish l (q.postModify m)

/-- LD or SD after its checks: from DM at once, to cluster memory through the bank's port A (R447, R454, R456). -/
def State.access (s : State) (l : Nat) (m : MemForm) (i : Instr) (f : State → State) : State :=
  let e := (s.ladle l).effective m
  match accessFault e (formBytes m) (formBytes m) with
  | some d => s.addressError l d e
  | none => if inDm e (formBytes m) then f s else s.withResource l (bankOf e) 1 i f

/-- LD (R441, R447). -/
def execLd (l : LadleIx) (m : MemForm) (ecc : Ecc) (st : State) : Out State :=
  st.guarded (fun st => st.issue l m.legal false false (fun st =>
    st.access l m (.ld l m ecc) (fun st => st.loadNow l m ecc)))

/-- SD (R441, R447). -/
def execSd (l : LadleIx) (m : MemForm) (st : State) : Out State :=
  st.guarded (fun st => st.issue l m.legal false false (fun st => st.access l m (.sd l m) (fun st => st.storeNow l m)))

/-! ### XF (R448) -/

/-- The DM and cluster addresses of word j of a transfer. -/
def Ladle.xfWord (q : Ladle) (ad ac : AReg) (j : Nat) : Nat × Nat := ((q.circ ad (8 * j : Nat)).toNat, (q.circ ac (8 * j : Nat)).toNat)

/-- The first offending address of a transfer of n words, and what is wrong with it. -/
def Ladle.xfFault (q : Ladle) (ad ac : AReg) (n : Nat) : Option (Nat × Nat) :=
  (List.range n).findSome? (fun j =>
    let (a, c) := q.xfWord ad ac j
    if !inDm a 8 then some (1, a) else if a % 8 ≠ 0 then some (2, a)
    else if !inCluster c 8 then some (1, c) else if c % 8 ≠ 0 then some (2, c) else none)

/-- The run of consecutive words in one bank that starts at word j of n: its bank and length (R448). -/
def Ladle.xfRun (q : Ladle) (ad ac : AReg) (n j : Nat) : Nat × Nat :=
  let b := bankOf (q.xfWord ad ac j).2
  (b, ((List.range n).drop j).takeWhile (fun i => bankOf (q.xfWord ad ac i).2 == b) |>.length)

/-- Words [j, k) of a transfer move, but for one that a write through port B has overtaken (R394); what their check bits showed is
counted (R393). -/
def State.xfMove (s : State) (l : Nat) (toCluster : Bool) (ad ac : AReg) (j k : Nat) (lost : Option Nat) (ecc : List Ecc) : State :=
  ((List.range k).drop j).foldl (fun s i =>
    let s := s.sramRead (ecc.getD i .clean)
    let (a, c) := (s.ladle l).xfWord ad ac i
    if toCluster then
      if lost = some i then s else s.ladleWrite l c (s.ladleRead l a 8)
    else s.ladleWrite l a (s.ladleRead l c 8)) s

/-- A transfer ends: both registers advance when P is set. -/
def State.xfEnd (s : State) (l : Nat) (ad ac : AReg) (n : Nat) (p : Bool) : State :=
  let q := s.ladle l
  let va := q.circ ad (8 * n : Nat)
  let vc := q.circ ac (8 * n : Nat)
  s.finish l (fun q => if p then (q.putA ad va).putA ac vc else q)

/-- The words of a transfer that move before a poisoned one (R393, R454). -/
def xfPoison (ecc : List Ecc) (n : Nat) : Option Nat := (List.range n).find? (fun j => ecc.getD j .clean == .uncorrectable)

/-- A transfer has read a poisoned word x: of cluster memory it raises cause 7, and of DM it is a watchdog event (R427, R454). -/
def State.xfPoisoned (s : State) (l : Nat) (toCluster : Bool) (ad ac : AReg) (x : Nat) : State :=
  let s := s.sramRead .uncorrectable
  if toCluster then s.watchdogEvent l
  else (s.modLadle l (fun q => { q with held := none })).exception l 7 0 ((s.ladle l).xfWord ad ac x).2

/-- A transfer goes on from word j, run by run, until it is held or has moved n words. `fuel` bounds the runs by n. -/
def State.xfGo (s : State) (l : Nat) (toCluster : Bool) (ad ac : AReg) (n : Nat) (p : Bool) (ecc : List Ecc) (i : Instr) :
    (fuel j : Nat) → State
  | 0, _ => s.xfEnd l ad ac n p
  | fuel + 1, j =>
    if n ≤ j then s.xfEnd l ad ac n p
    else
      let (b, len) := (s.ladle l).xfRun ad ac n j
      if !s.free l b then s.request l b len j false i
      else
        match xfPoison ecc n with
        | some x =>
          if j ≤ x ∧ x < j + len then
            ((s.granted l b).xfMove l toCluster ad ac j x none ecc).xfPoisoned l toCluster ad ac x
          else ((s.granted l b).xfMove l toCluster ad ac j (j + len) none ecc).xfGo l toCluster ad ac n p ecc i fuel (j + len)
        | none => ((s.granted l b).xfMove l toCluster ad ac j (j + len) none ecc).xfGo l toCluster ad ac n p ecc i fuel (j + len)

/-- XF: every address is checked first, then every run against a lock that is held (R448, R456). -/
def execXf (l : LadleIx) (dir : Bool) (ad ac : AReg) (n : BitVec 6) (p : Bool) (ecc : List Ecc) (st : State) : Out State :=
  st.guarded (fun st => st.issue l true false false (fun st =>
    let words := n.toNat + 1
    let q := st.ladle l
    match q.xfFault ad ac words with
    | some (d, a) => st.addressError l d a
    | none =>
      match ((List.range words).map (fun j => bankOf (q.xfWord ad ac j).2)).find? q.breaksOrder with
      | some r => st.orderError l r
      | none => st.xfGo l dir ad ac words p ecc (.xf l dir ad ac n p ecc) words 0))

/-! ### Requests for the mover (R401) -/

/-- The mover, resource 16, is asked for ladle l's oldest transfer: it owns it at once where nobody owns or waits for it and it is not
frozen, else its request is queued. A ladle that holds the mover's lock, or has asked already, makes no new request (R400, R401,
R408, R456). -/
def State.askMover (s : State) (l : Nat) : State :=
  let g := l / 16
  let a := s.arb g 16
  match (s.ladle l).movers with
  | [] => s
  | m :: _ =>
    let q : Req := { ladle := l, rank := s.ladleCfg l 1, words := m.len / 8, moved := 0, lock := false }
    if ((s.ladle l).lock.map Fin.val) == some 16 || (a.owner.toList ++ a.queue).any (fun x => x.ladle == l && !x.lock) then s
    else if s.free l 16 then (s.granted l 16).setArb g 16 { (s.granted l 16).arb g 16 with owner := some q }
    else s.setArb g 16 { a with queue := a.queue ++ [q] }

/-! ### Locks (R409, R456) -/

/-- LOCK is granted: LK is set and the resource is held until UNLK. -/
def State.lockNow (s : State) (l : Nat) (r : Fin 18) : State :=
  s.finish l (fun q => { q.setBit bitLK true with lock := some r, lockedAt := s.ctl.crystalCount })

/-- LOCK: opens a locked sequence; while one is held it is a lock error (R409, R456). A resource above 17 is illegal (R440). -/
def execLock (l : LadleIx) (r : BitVec 5) (st : State) : Out State :=
  st.guarded (fun st => st.issue l (decide (r.toNat ≤ 17)) false false (fun st =>
    let n := r.toNat
    if (st.ladle l).lock.isSome then st.exception l 2 n 0
    else if st.free l n then
      let st := st.granted l n
      let own : Req := { ladle := l.val, rank := st.ladleCfg l 1, words := 0, moved := 0, lock := true }
      (st.setArb (l.val / 16) n { st.arb (l.val / 16) n with owner := some own }).lockNow l (Fin.ofNat 18 n)
    else st.request l n 0 0 true (.lock l r)))

/-- The lock of ladle l ends; its transfers no longer run under one of the mover and ask for it again. -/
def State.unlock (s : State) (l : Nat) : State :=
  match (s.ladle l).lock with
  | none => s
  | some r =>
    let s := (s.setArb (l / 16) r.val { s.arb (l / 16) r.val with owner := none }).modLadle l (fun q => { q.setBit bitLK false with lock := none })
    if r.val = 16 then s.askMover l else s

/-- UNLK: ends the locked sequence; with none held it is a lock error (R456). -/
def execUnlk (l : LadleIx) (st : State) : Out State :=
  st.guarded (fun st => st.issue l true false false (fun st =>
    if (st.ladle l).lock.isNone then st.exception l 2 0 0 else (st.unlock l).finish l id))

/-! ### PUB (R457) -/

/-- What is wrong with the operands of a PUB: the detail and the address. -/
def Ladle.pubFault (q : Ladle) (ap at' : AReg) (s : DReg) : Option (Nat × Nat) :=
  let n := (q.dr s).toNat
  let a := (q.ar ap).toNat
  let t := (q.ar at').toNat
  if 65536 < n then some (4, a)
  else
    match accessFault a n 4 with
    | some d => some (d, a)
    | none => (accessFault t 16 4).map (fun d => (d, t))

/-- The publish port has read the payload. -/
def State.pubNow (s : State) (l : Nat) (slot : Nat) (ap at' : AReg) (n : DReg) : State :=
  let q := s.ladle l
  let (s, dropped) := s.pub l slot (q.ar ap).toNat (q.ar at').toNat (q.dr n).toNat
  s.finish l (fun q => q.setBit bitPF dropped)

/-- PUB (R418-R420, R457). -/
def execPub (l : LadleIx) (slot ap at' : Fin 8) (s : DReg) (st : State) : Out State :=
  st.guarded (fun st => st.issue l true false false (fun st =>
    let q := st.ladle l
    match q.pubFault ap at' s with
    | some (d, a) => st.addressError l d a
    | none =>
      st.withResource l 17 (((q.dr s).toNat + 7) / 8) (.pub l slot ap at' s) (fun st => st.pubNow l slot ap at' s)))

/-! ### The mover (R400, R458) -/

/-- What is wrong with the operands of an MVH. -/
def mvhFault (loc hbm n : Nat) : Option (Nat × Nat) :=
  if n % 64 ≠ 0 ∨ n < 64 ∨ 65536 < n then some (4, loc)
  else
    match accessFault loc n 64 with
    | some d => some (d, loc)
    | none => if inRemainder hbm n then none else some (3, hbm)

/-- Ladle l's oldest transfer may run: the ladle owns or has locked the mover, or nobody else owns or waits for it and it is not
frozen. -/
def State.moverRuns (s : State) (l : Nat) : Bool :=
  let a := s.arb (l / 16) 16
  match a.owner with
  | some o => o.ladle == l
  | none => ((s.ladle l).lock.map Fin.val) == some 16 || (!s.frozen (l / 16) 16 && a.queue.all (fun q => q.ladle == l))

/-- Ladle l's request for the mover ends with its transfer; the next transfer asks again. -/
def State.moverNext (s : State) (l : Nat) : State :=
  let a := s.arb (l / 16) 16
  let mine (q : Req) : Bool := q.ladle == l && !q.lock
  let s :=
    if (a.owner.toList ++ a.queue).any mine then
      s.setArb (l / 16) 16 { a with
        owner := if (a.owner.map mine).getD false then none else a.owner, queue := a.queue.filter (fun q => !mine q) }
    else s
  s.askMover l

/-- A transfer is queued and MB is set. -/
def State.mvhNow (s : State) (l : Nat) (m : Mover) : State :=
  (s.finish l (fun q => { q.setBit bitMB true with movers := q.movers ++ [m] })).askMover l

/-- MVH: queued in one of four places, or held until one frees (R400, R458). -/
def execMvh (l : LadleIx) (dir : Bool) (al : AReg) (sh sn : DReg) (st : State) : Out State :=
  st.guarded (fun st => st.issue l true false false (fun st =>
    let q := st.ladle l
    let m : Mover := { toHbm := dir, loc := (q.ar al).toNat, hbm := 64 * (q.dr sh).toNat, len := (q.dr sn).toNat }
    match mvhFault m.loc m.hbm m.len with
    | some (d, a) => st.addressError l d a
    | none =>
      if q.breaksOrder 16 then st.orderError l 16
      else if q.movers.length < 4 then st.mvhNow l m
      else st.modLadle l (fun q => { q with held := some { instr := .mvh l dir al sh sn, done := 0 } })))

/-- MVWAIT: held until MB = 0 (R441). -/
def execMvwait (l : LadleIx) (st : State) : Out State :=
  st.guarded (fun st => st.issue l true false false (fun st =>
    if (st.ladle l).bit bitMB then st.modLadle l (fun q => { q with held := some { instr := .mvwait l, done := 0 } })
    else st.finish l id))

/-- The bytes of a transfer from HBM, an uncorrectable word read as 0 (R458). -/
def badAsZero (bs : List Byte) (bad : Option Nat) : List Byte :=
  match bad with
  | none => bs
  | some w => bs.take (8 * w) ++ (List.replicate 8 0 ++ bs.drop (8 * w + 8)) |>.take bs.length

/-- MOVER_TRANSFER_COMPLETE: the oldest transfer of ladle l, which has the mover, has moved its bytes; MB clears with the last one, an
uncorrectable word sets ME and, when ME was clear, MVE; an instruction that waited for the mover completes (R401, R458). From Q4 on
the cluster memories then enter retention (R613). -/
def execMoverTransferComplete (l : LadleIx) (bad : Option Nat) (st : State) : Out State :=
  st.guarded (fun st =>
    if !st.moverRuns l then st
    else
    match (st.ladle l).movers with
    | [] => st
    | m :: rest =>
      let st := if m.toHbm then st.store m.hbm (st.ladleRead l m.loc m.len)
        else st.ladleWrite l m.loc (badAsZero (st.load m.hbm m.len) bad)
      let st := st.queueBursts 0 (st.num 0x2800 5) m.hbm m.len m.toHbm
      let st := st.modLadle l (fun q =>
        let q := { q with movers := rest }
        let q := if rest.isEmpty then q.setBit bitMB false else q
        match (if m.toHbm then none else bad) with
        | none => q
        | some w => { q.setBit bitME true with
            mve := if q.bit bitME then q.mve else BitVec.ofNat 32 ((m.hbm + 8 * w) / 64) })
      let st := st.moverNext l
      let st := if 4 ≤ st.hea.level && st.ladles.all (fun q => q.2.movers.isEmpty) then st.retain .cluster else st
      match (st.ladle l).held with
      | some { instr := .mvh _ dir al sh sn, done := _ } =>
        let q := st.ladle l
        st.mvhNow l { toHbm := dir, loc := (q.ar al).toNat, hbm := 64 * (q.dr sh).toNat, len := (q.dr sn).toNat }
      | some { instr := .mvwait _, done := _ } => if rest.isEmpty then st.finish l id else st
      | _ => st)

end Sys2Proof.Machine
end

