-- ==== Sys2Proof/Machine/Array.lean ====
section
/-! DEFINITION. Commands of the ladle array: arbiters, tap delivery, programs, the watchdog and pauses (chapter 10). -/

namespace Sys2Proof.Machine

/-! ### Arbitration (R401-R408) -/

/-- Cycles of the round robin from the last owner of a rank to a requester: the lower comes first (R404). -/
def State.turn (s : State) (a : Arb) (q : Req) : Nat :=
  let last := Tab.get (fun _ => 0) a.lastOf q.rank
  ((s.ladle q.ladle).phys + 17 + 17 - last) % 17

/-- The request that an arbiter grants next: the highest rank, round-robin within it (R404). -/
def State.nextReq (s : State) (a : Arb) : Option Req :=
  a.queue.foldl (fun b q =>
    match b with
    | none => some q
    | some p =>
      if q.rank < p.rank then some q
      else if q.rank = p.rank ∧ s.turn a q < s.turn a p then some q else some p) none

/-- What ladle l's held instruction does once its grant has moved the words asked for. -/
def State.heldDone (s : State) (l : Nat) : State :=
  match (s.ladle l).held with
  | none => s
  | some h =>
    match h.instr with
    | .ld _ m ecc => s.loadNow l m ecc
    | .sd _ m => s.storeNow l m
    | .pub _ slot ap at' n => s.pubNow l slot ap at' n
    | .xf _ dir ad ac n p ecc => s.xfGo l dir ad ac (n.toNat + 1) p ecc h.instr (n.toNat + 1) h.done
    | .lock _ r => s.lockNow l (Fin.ofNat 18 r.toNat)
    | _ => s

/-- Words of ladle l's held instruction that its grant has moved; the first of them is lost in a write collision (R394). -/
def State.heldMoves (s : State) (l n : Nat) (collision : Bool) : State :=
  match (s.ladle l).held with
  | none => s
  | some h =>
    match h.instr with
    | .xf _ dir ad ac _ _ ecc =>
      (s.xfMove l dir ad ac h.done (h.done + n) (if collision then some h.done else none) ecc).modLadle l (fun q =>
        { q with held := some { h with done := h.done + n } })
    | _ => s

/-- The poisoned word among the next n of ladle l's held transfer (R393, R454). -/
def State.heldPoison (s : State) (l n : Nat) : Option Nat :=
  match (s.ladle l).held with
  | some { instr := .xf _ _ _ _ m _ ecc, done := k } =>
    (xfPoison ecc (m.toNat + 1)).filter (fun x => decide (k ≤ x) && decide (x < k + n))
  | _ => none

/-- A held transfer meets a poisoned word: the words before it have moved (R454). -/
def State.heldPoisoned (s : State) (l x : Nat) : State :=
  match (s.ladle l).held with
  | some { instr := .xf _ dir ad ac _ _ ecc, done := k } =>
    (s.xfMove l dir ad ac k x none ecc).xfPoisoned l dir ad ac x
  | _ => s

/-- Whether the present owner of a resource is writing, so that a collision costs it a word. -/
def State.heldWrites (s : State) (l : Nat) : Bool :=
  match (s.ladle l).held with
  | some { instr := .xf _ dir _ _ _ _ _, done := _ } => dir
  | some { instr := .sd _ _, done := _ } => true
  | _ => false

/-- The words that a request may move before its grant of at most 64 words ends (R402). -/
def Req.grantLeft (q : Req) : Nat := min q.words (64 - q.moved % 64)

/-- The owner of a resource has moved n of its words and goes on; after 64 words its grant ends, and it asks again (R402, R404). -/
def Arb.moves (a : Arb) (o : Req) (n : Nat) : Arb :=
  let o' := { o with words := o.words - n, moved := o.moved + n }
  if 0 < n ∧ n = o.grantLeft ∧ n < o.words then { a with owner := none, queue := a.queue ++ [o'] } else { a with owner := some o' }

/-- The owner of a resource has moved words: its transfer ends when none is left (R402); one of the mover ends with
MOVER_TRANSFER_COMPLETE. A store that lost its word in a collision completes without it (R394). -/
def State.ownerMoves (s : State) (g res moved : Nat) (collision : Bool) : State :=
  let a := s.arb g res
  match a.owner with
  | none => s
  | some o =>
    if o.lock then s
    else if res = 16 then s.setArb g res (a.moves o (min moved o.grantLeft))
    else
      let n := min moved o.grantLeft
      let hit := collision && decide (0 < n) && s.heldWrites o.ladle
      let s := if hit then s.bumpLive 0x2810 4 else s
      match s.heldPoison o.ladle n with
      | some x => (s.setArb g res { a with owner := none }).heldPoisoned o.ladle x
      | none =>
      let s := s.heldMoves o.ladle n hit
      if n < o.words then s.setArb g res (a.moves o n)
      else
        let s := s.setArb g res { a with owner := none }
        match hit, (s.ladle o.ladle).held with
        | true, some { instr := .sd _ m, done := _ } => s.finish o.ladle ((s.ladle o.ladle).postModify m)
        | _, _ => s.heldDone o.ladle

/-- A request is granted: it is the last owner of its rank; a lock starts its locked sequence (R404, R456). -/
def State.grant (s : State) (g res : Nat) (q : Req) : State :=
  let a := s.arb g res
  let s := s.setArb g res { a with
    owner := some q, queue := a.queue.erase q, lastOf := Tab.set (fun _ => 0) a.lastOf q.rank ((s.ladle q.ladle).phys + 1) }
  if q.lock then s.heldDone q.ladle else s

/-- The arbitration phase: the next owner, or the preemption of an owner of lower rank at its word boundary (R403-R406, R408). -/
def State.arbitrate (s : State) (g res : Nat) : State :=
  let a := s.arb g res
  if s.frozen g res then s
  else
    match s.nextReq a, a.owner with
    | none, _ => s
    | some q, none => s.grant g res q
    | some q, some o =>
      if q.rank < o.rank && !o.lock && !((s.ladle o.ladle).lock.map (fun r => decide (res < r.val))).getD false then
        ((s.setArb g res { a with owner := none, queue := a.queue ++ [o] }).bump (0x2909 + 16 * g) 3).grant g res q
      else s

/-- ARBITER_GRANT: the owner has moved `moved` more words, and the arbitration phase decides (R402-R408); `collision`: one of them met
a write through port B (R394). -/
def execArbiterGrant (g : Fin 16) (res : Fin 18) (moved : Nat) (collision : Bool) (st : State) : Out State :=
  st.guarded (fun st => (st.ownerMoves g res moved collision).arbitrate g res)

/-- LADLE_REQUEST_WITHDRAW: before the first word it costs one dead cycle, after it none; the next owner is decided at once (R407).
The instruction that waited has not completed and issues again; a transfer of the mover stays queued in its ladle. -/
def execLadleRequestWithdraw (l : LadleIx) (res : Fin 18) (st : State) : Out State :=
  st.guarded (fun st =>
    let g := l.val / 16
    let a := st.arb g res
    let mine (q : Req) : Bool := q.ladle == l.val && !q.lock
    let owns := (a.owner.map mine).getD false
    let waits := a.queue.any (fun q => q.ladle == l.val)
    if !owns && !waits then st
    else
      let dead := owns && ((a.owner.map (fun q => q.moved == 0)).getD false)
      let st := if dead then st.bump (0x2909 + 16 * g) 4 else st
      let st := st.setArb g res { a with owner := if owns then none else a.owner, queue := a.queue.filter (fun q => q.ladle != l.val) }
      let st := st.modLadle l (fun q => { q with held := none })
      (st.deliverLost l).arbitrate g res)

/-- FREEZE_MASK_WRITE: bits 0-17 of 0x29g9.01; frozen resources make no new grant (R408). -/
def execFreezeMaskWrite (r : Requester) (g : Fin 16) (mask : U32) (st : State) : Out State :=
  st.guarded (fun st => st.mayWrite r (keyOf (0x2909 + 16 * g.val) 1) (fun st =>
    if 2 ^ 18 ≤ mask.toNat then st.refuse r 0x06090030 (keyOf (0x2909 + 16 * g.val) 1)
    else (st.put (0x2909 + 16 * g.val) 1 mask.toNat).showDrained g))

/-- LOCK_WATCHDOG_EXPIRY: a locked sequence of 10 µs is released and journalled, and the ladle takes the lock timeout at its next
instruction (R411, R456). -/
def execLockWatchdogExpiry (l : LadleIx) (st : State) : Out State :=
  st.guarded (fun st =>
    let q := st.ladle l
    match q.lock with
    | none => st
    | some r =>
      if st.ctl.crystalCount < q.lockedAt + 10 * microCount then st
      else
      let st := (st.unlock l).bump (0x2909 + 16 * (l.val / 16)) 5
      let st := st.report
        { severity := 1, subsys := 14, kind := 9, cls := 0xFF, element := st.ladleElement l, first := q.pc.toNat, detail := r.val }
      (st.modLadle l (fun q => { q with lockLost := some r })).deliverLost l)

/-! ### Tap delivery (R414-R416, R424) -/

/-- The gap entry of a port's discards, whose sequence is that of the entry it precedes (R416, R508, R509). -/
def gapEntry (p : Port) (seq first : Nat) (e : TapEntry) : List Byte :=
  gapBytes 0xFFFF seq first { start := p.gapSpan.1, stop := p.gapSpan.2, cause := 2 } (field e.bytes 32 1)
    (BitVec.ofNat 32 (field e.bytes 16 4))

/-- Entries put at the head of a ring, which advances past them; its control block counts gap entries (R414-R416). -/
def State.ringAppend (s : State) (g base size : Nat) (bs : List Byte) (gap : Bool) : State :=
  let head := s.clusterWord g base % size
  let s := s.ringWrite g base size head bs
  let s := if gap then s.clusterWrite g (base + 12) (leBytes 4 (s.clusterWord g (base + 12) + 1)) else s
  s.clusterWrite g base (leBytes 4 ((head + bs.length) % size))

/-- An entry that does not fit, or comes while the memory is in retention, is discarded for this port alone and counted, in the control
block too where it can be written (R416, R613). -/
def State.discardEntry (s : State) (l : Nat) (k : Fin 4) (base seq : Nat) (e : TapEntry) : State :=
  let g := l / 16
  let s := if s.awake .cluster then s.clusterWrite g (base + 8) (leBytes 4 (s.clusterWord g (base + 8) + 1)) else s
  s.modLadle l (fun q =>
    let p := q.port k
    { q.setPort k { p with
        gapFirst := some (p.gapFirst.getD seq)
        gapSpan := if p.gapFirst.isSome then (p.gapSpan.1, e.stop) else (e.start, e.stop) } with
      discards := q.discards + 1 })

/-- TAP_ENTRY_DELIVERY: the oldest entry of a port goes into its ring, after the gap entry of earlier discards, or is discarded; an
entry of a pour older than the subscription is not written (R415, R416, R424). -/
def execTapEntryDelivery (l : LadleIx) (port : Fin 4) (st : State) : Out State :=
  st.guarded (fun st =>
    let g := l.val / 16
    let p := (st.ladle l).port port
    match p.queue, ringOf p.cfg with
    | [], _ => st
    | _ :: rest, none => st.modLadle l (fun q => q.setPort port { p with queue := rest })
    | e :: rest, some (base, size) =>
      let st := st.modLadle l (fun q => q.setPort port { p with queue := rest })
      if older (BitVec.ofNat 32 (field e.bytes 16 4)) p.pour then st
      else
          let head := st.clusterWord g base
          let tail := st.clusterWord g (base + 4)
          let room := size - (((head : Int) - tail) % (size : Int)).toNat
          let seq := field e.bytes 8 8
          if !st.awake .cluster then st.discardEntry l port base seq e
          else match p.gapFirst with
          | none =>
            if e.bytes.length ≤ room then st.ringAppend g base size e.bytes false else st.discardEntry l port base seq e
          | some first =>
            if 64 + e.bytes.length ≤ room then
              ((st.ringAppend g base size (gapEntry p seq first e) true).ringAppend g base size e.bytes false).modLadle l (fun q =>
                q.setPort port { q.port port with gapFirst := none })
            else st.discardEntry l port base seq e)

/-! ### Programs (R421, R422, R430) -/

/-- LADLE_IMAGE_WRITE: accepted when its layout is right and the ladle is stopped or failed (R421). -/
def execLadleImageWrite (r : Requester) (l : LadleIx) (image : List Byte) (st : State) : Out State :=
  st.guarded (fun st => st.mayWrite r (keyOf (0x4000 + l.val) 0) (fun st =>
    let q := st.ladle l
    if (readImage image).isNone then st.refuse r 0x06090030 (keyOf (0x4000 + l.val) 0)
    else if q.run != .stopped && q.run != .failed then st.refuse r 0x08000020 (keyOf (0x4000 + l.val) 0)
    else (st.putVal (0x4000 + l.val) 0 (.bytes image)).modLadle l (fun q => { q with run := .stopped })))

/-! ### Watchdog, restart and pause (R427-R432) -/

/-- The watchdog count of ladle l, which executes, has reached its timeout 0x29g2 (R427). -/
def State.watchdogDue (s : State) (l : Nat) : Bool :=
  decide ((s.ladle l).kicked + s.ladleCfg l 2 * microCount ≤ s.ctl.crystalCount)

/-- LADLE_WATCHDOG_EXPIRY: the count of an executing ladle has reached its timeout; a ladle that waits for input does not count
(R427). -/
def execLadleWatchdogExpiry (l : LadleIx) (st : State) : Out State :=
  st.guarded (fun st => if (st.ladle l).run = .running ∧ st.watchdogDue l then st.watchdogEvent l else st)

/-- LADLE_RESTART_COMPLETE: the ladle runs again from its entry address, in place or on the spare, with its ports, rings and publish
slots; its next publishes report the stop (R428, R429). A pour that was due takes effect with it. -/
def execLadleRestartComplete (l : LadleIx) (st : State) : Out State :=
  st.guarded (fun st =>
    let g := l.val / 16
    let q := st.ladle l
    if q.run != .restarting then st
    else
      let st := if q.toSpare then
          ((st.modLadle l (fun q => { q with phys := 16 })).put (0x290B + 16 * g) (l.val % 16 + 1) 16).put (0x290B + 16 * g) 0x11 1
        else st
      let st := match q.due with
        | none => st
        | some p => (st.setPour (ladleBlock l) p).noteWriter (ladleBlock l)
      let st := st.restartRunners (st.ladleRunners l) st.now
      if q.due.isSome && st.ladleCfg l 0 != 1 then st.haltLadle l else st.startLadle l)

/-- LADLE_PAUSE: 10 µs after entry to Q2 the ladle pauses at its next instruction boundary (R432). -/
def execLadlePause (l : LadleIx) (st : State) : Out State :=
  st.guarded (fun st =>
    let q := st.ladle l
    if 2 ≤ st.hea.level ∧ (q.run = .running ∨ q.run = .waiting) then
      (st.modLadle l (fun q => { q.stands st.ctl.crystalCount with run := .paused, before := q.run, pauseDue := false })).stopRunners (st.ladleRunners l) st.now 5
        false
    else st)

end Sys2Proof.Machine
end

