-- ==== Sys2Proof/Machine/Crystal.lean ====
section
/-! DEFINITION. The crystal as frequency reference: its measured offset, its ageing, and the correction of SYNA, SYNB and the timebase
increment (R102, R131, R141, R142). -/

namespace Sys2Proof.Machine

/-- Counts of the fault clock in a second and in a day of the crystal. -/
def secondCount : Nat := 1600000000
def dayCount : Nat := 86400 * secondCount

/-- Measurements kept: one a second for 30 days (R142). -/
def offsetDepth : Nat := 2592001

/-- The measurements of at most `span` counts before `now`, newest first. -/
def recentOffsets (l : List (Nat × Int)) (now span : Nat) : List (Nat × Int) := l.takeWhile (fun p => decide (now ≤ p.1 + span))

/-- The crystal offset averaged over the averaging window before now; the newest one where the window holds none, and 0 where there
is none at all (R141; DESIGN CHOICE, log entry 19). -/
def State.averageOffset (s : State) : Int :=
  match recentOffsets s.clk.offsets s.ctl.crystalCount (s.num 0x2125 1 * secondCount) with
  | [] => (s.clk.offsets.head?.map Prod.snd).getD 0
  | l => roundDiv ((l.map Prod.snd).foldl (· + ·) 0) l.length

/-- The ageing rate in 10^-12 a day, from the first to the last measurement of the last 30 days (R142; DESIGN CHOICE, log entry 19:
R142 does not say how the rate is formed). -/
def State.measuredAgeing (s : State) : Int :=
  match recentOffsets s.clk.offsets s.ctl.crystalCount (30 * dayCount) with
  | [] => 0
  | a :: l =>
    let b := l.getLastD a
    if a.1 ≤ b.1 then 0 else roundDiv ((a.2 - b.2) * dayCount) (a.1 - b.1)

/-- A measurement of the crystal against a good REFIN: 0x2102.05 shows it, and 0x2125.04 the ageing (R142). -/
def State.measureCrystal (s : State) (offset : Int) : State :=
  let s := { s with clk := { s.clk with offsets := ((s.ctl.crystalCount, offset) :: s.clk.offsets).take offsetDepth } }
  (s.putInt 0x2102 5 offset).putInt 0x2125 4 s.measuredAgeing

/-- A second of the crystal ends: REFIN is measured while it is good (R142). -/
def State.crystalSecond (s : State) : State :=
  if s.num 0x2102 3 = 2 then s.measureCrystal (Config.crystalOffset s.ctl.crystalCount) else s

/-- f_h + a t + c(Tj), in 10^-12 (R141). -/
def State.crystalCorrection (s : State) : Int :=
  match s.clk.crystalSince with
  | none => 0
  | some t0 =>
    s.clk.fh + (s.int 0x2125 2 * ((s.ctl.crystalCount - t0 : Nat) : Int)).tdiv dayCount
      + Config.crystalTemperature (Config.ioTemperature s.ctl.crystalCount)

/-- The crystal becomes the frequency reference, or gives way to REFIN (R102, R117 step 4, R141). -/
def State.takeReference (s : State) (refin : Bool) : State :=
  let fh := s.averageOffset
  let since := s.ctl.crystalCount
  let s := { s with clk := { s.clk with refin := refin, crystalSince := if refin then none else some since, fh := if refin then 0 else fh } }
  { s with clk := { s.clk with correction := s.crystalCorrection } }

end Sys2Proof.Machine
end

