-- ==== Sys2Proof/Machine/Reduction.lean ====
section
/-! DEFINITION. The reduction slots and the envelope generators (R332-R344). -/

namespace Sys2Proof.Machine

/-- Slot r of channel c. -/
def State.red (s : State) (c r : Nat) : Red := Tab.get (fun _ => Red.idle) s.reds (6 * c + r)

/-- It changed by `f`. -/
def State.modRed (s : State) (c r : Nat) (f : Red → Red) : State :=
  { s with reds := Tab.modify (fun _ => Red.idle) s.reds (6 * c + r) f }

/-- Its block. -/
def redBlock (c r : Nat) : BlockId := .reduction (Fin.ofNat 4 c) (Fin.ofNat 6 r)

/-! ### Reducing one bin (R333, R334) -/

/-- The power of a bin of a source: the auto product carries it already. -/
def sourcePower (source : Nat) (z : U32 × U32) : U32 := if source = 1 then z.1 else power32 z

/-- 2^-85 as binary32. -/
def tinyPower : Nat := (127 - 85) * 2 ^ 23

/-- 10 log10 P in binary64, within the conversion's error; −256 dB below 2^-85 (R334, R345). -/
def logPower (p : U32) : U64 :=
  if p.toNat < tinyPower then f64OfRat (-256) 1
  else
    let v := f32Value p
    ({ m := decibels v.num.toNat v.den + clampInt (-(2 ^ 64 / 1000)) (2 ^ 64 / 1000) (Config.logNoise p), e := -64 } : Dy).to64

/-- What a frame's bin adds, as the two accumulators of a type. -/
def firstTerm (typ source : Nat) (z : U32 × U32) : U64 × U64 :=
  if 2 ≤ source then (f64Of32 z.1, f64Of32 z.2)
  else
    let p := sourcePower source z
    match typ with
    | 2 => (f64Sqrt32 p, 0)
    | 3 => (logPower p, 0)
    | 6 => (f64Of32 p, f64Mul (f64Of32 p) (f64Of32 p))
    | _ => (f64Of32 p, 0)

/-- The accumulators of a bin after one more frame. -/
def combine (typ : Nat) (a b : U64 × U64) : U64 × U64 :=
  match typ with
  | 0 => (if a.1.toNat < b.1.toNat then b.1 else a.1, 0)
  | 1 => (if b.1.toNat < a.1.toNat then b.1 else a.1, 0)
  | 5 => b
  | _ => (f64Add a.1 b.1, f64Add a.2 b.2)

/-- The value delivered for a bin after m frames (R333, R334). -/
def deliveredBytes (typ source fmt m : Nat) (a : U64 × U64) : List Byte :=
  let mean (x : U64) : U64 := f64Div x (f64OfNat m)
  if 2 ≤ source then
    let v := if typ = 2 then (mean a.1, mean a.2) else a
    leBytes 4 (f32Of64 v.1).toNat ++ leBytes 4 (f32Of64 v.2).toNat
  else
    match typ with
    | 2 => let x := mean a.1; powerBytes fmt (f32Of64 (f64Mul x x))
    | 3 =>
      let x := mean a.1
      if fmt = 2 then
        let v := f64Value x
        leBytes 2 (bitsOf 16 (clampBits 16 (roundDiv (128 * v.num) v.den)))
      else leBytes 4 (powerOfDb x).toNat
    | 4 => powerBytes fmt (f32Of64 (mean a.1))
    | 6 => leBytes 8 a.1.toNat ++ leBytes 8 a.2.toNat
    | _ => powerBytes fmt (f32Of64 a.1)

/-- Whether a spectral-kurtosis bin is flagged (R340). -/
def kurtosisFlag (lo hi : U32) (m : Nat) (a : U64 × U64) : Bool :=
  if m < 2 ∨ a.1 = 0 then true
  else
    let ratio := f64Div (f64OfNat (m + 1)) (f64OfNat (m - 1))
    let q := f64Add (f64Div (f64Mul (f64OfNat m) a.2) (f64Mul a.1 a.1)) (f64OfRat (-1) 1)
    let v := f64Value (f64Mul ratio q)
    !(f32Value lo).le v || (f32Value hi).le v

/-- A bitmap, eight bins a byte, padded to a multiple of 8 bytes (R344). -/
def bitmap (bs : List Bool) : List Byte :=
  (List.range ((bs.length + 63) / 64 * 8)).map (fun i =>
    BitVec.ofNat 8 ((List.range 8).foldl (fun a j => a + (if bs.getD (8 * i + j) false then 2 ^ j else 0)) 0))

/-! ### Intervals (R336, R338, R339) -/

/-- The interval length that a slot takes with a configuration: M hops of the configured main transform (R336). It stays while M does,
whatever becomes of the hop (R338). -/
def State.interval (s : State) (p : U32) (c r : Nat) (z : ZFrame) : Nat :=
  let q := s.red c r
  let i := 0x2602 + 16 * c + r
  if q.started && s.cfg p i 4 == s.cfg q.pour i 4 then q.len else max 1 (s.cfg p i 4 * (s.mainShape z.pour c).step)

/-- Multiples of a hop in [a, b). -/
def hopsIn (hop a b : Nat) : Nat := (b + hop - 1) / hop - (a + hop - 1) / hop

/-- The bins that a slot reduces of a frame: first and count, scaled in a fallback frame (R335, R338). -/
def State.slotBins (s : State) (p : U32) (c r : Nat) (z : ZFrame) : Nat × Nat :=
  let i := 0x2602 + 16 * c + r
  let n := (s.mainShape z.pour c).len
  let k0 := s.cfg p i 5
  let k := if s.cfg p i 6 = 0 then n / 2 - k0 else s.cfg p i 6
  if z.fallback then
    let f := 2 ^ z.n
    (k0 * f / n, ((k0 + k) * f + n - 1) / n - k0 * f / n)
  else (k0, k)

/-- Two frames have one geometry (R338). -/
def sameGeometry (a b : ZFrame) : Bool :=
  a.n == b.n && a.hopHalf == b.hopHalf && a.mode == b.mode && a.p == b.p && a.fallback == b.fallback

/-- The interval that holds a frame, under the configuration in force: on its grid, but after a change of M from the end of the interval
before to the first multiple of the new length (R336, R339). -/
def State.openInterval (s : State) (c r : Nat) (z : ZFrame) : State :=
  let q := s.red c r
  let p := s.pourOf (redBlock c r)
  let len := s.interval p c r z
  let base := z.s0 / 2 ^ 64 * 2 ^ 64
  let i := (z.s0 - base) / len
  let moved := q.started && len != q.len && decide (q.stop ≤ z.s0) && decide (base + i * len < q.stop)
  let start := if moved then q.stop else base + i * len
  let stop := min (base + (i + 1) * len) (base + 2 ^ 64)
  s.modRed c r (fun q => { q with
    started := true, pour := p, start := start, stop := stop, index := i, len := len, m := 0, s1 := [], s2 := [], like := some z
    short := moved || decide (base + (i + 1) * len ≠ stop), mark := Mark.empty })

/-- One record of an interval: bins from `first` on (R344). -/
def State.reductionRecord (s : State) (c r : Nat) (q : Red) (z : ZFrame) (expected first0 first count : Nat) : Rec :=
  let i := 0x2602 + 16 * c + r
  let typ := s.cfg q.pour i 2
  let source := s.cfg q.pour i 3
  let fmt := s.cfg q.pour i 7
  let flagging := typ == 6 && s.cfgOn q.pour i 0x0A
  let accs := ((q.s1.zip q.s2).drop (first - first0)).take count
  let flags := (if q.m < expected then 1 else 0) + (if q.short then 2 else 0) + (if z.fallback then 4 else 0)
    + (if flagging then 8 else 0)
  let code := if typ = 6 then 3 else fmt
  let lo := BitVec.ofNat 32 (s.cfg q.pour i 0x0B)
  let hi := BitVec.ofNat 32 (s.cfg q.pour i 0x0C)
  { typ := 0x18, chan := c, source := r, prog := 0, time := s.sampleTime c q.start, stop := s.sampleTime c q.stop, fields := []
    payload := leBytes 8 q.index ++ leBytes 4 expected ++ leBytes 4 q.m ++ leBytes 4 first ++ leBytes 4 count ++ leBytes 1 r
      ++ leBytes 1 typ ++ leBytes 1 source ++ leBytes 1 code ++ leBytes 1 z.n ++ leBytes 1 flags ++ leBytes 2 0
      ++ accs.flatMap (deliveredBytes typ source fmt q.m)
      ++ (if flagging then bitmap (accs.map (kurtosisFlag lo hi q.m)) else [])
    mark := q.mark, cfgPour := q.pour }

/-- The present interval delivered, or missed where it has no frame (R337); closed early, at a sample, it is short (R338). -/
def State.closeInterval (s : State) (c r : Nat) (early : Option Nat) : State :=
  let s := match early with
    | some n => s.modRed c r (fun q => { q with short := true, stop := max q.start (min q.stop n) })
    | none => s
  let q := s.red c r
  match q.like with
  | none => s
  | some z =>
    let i := 0x2602 + 16 * c + r
    let expected := hopsIn z.hop q.start q.stop
    let (k0, k) := s.slotBins q.pour c r z
    let parts := binParts k0 k (s.cfg q.pour i 8)
    let runners := s.slotRunners q.pour c r
    let s := parts.foldl (fun s ((first, count) : Nat × Nat) =>
      if q.m = 0 then
        runners.foldl (fun s n => s.missRecord n (s.sampleTime c q.start) (s.sampleTime c q.stop) q.lossCause) s
      else
        let rec' := s.reductionRecord c r q z expected k0 first count
        (runners.foldl (fun s n => s.publish n rec') s).offer .reduced c r rec') s
    let s := s.modRed c r (fun q => { q with like := none, m := 0, s1 := [], s2 := [] })
    let j := 0x2608 + 16 * c
    let s := if q.m = 0 then s else s.bumpLive j (2 + r)
    (if q.m < expected then s.bumpLive j (8 + r) else s).showGroup j

/-- The accumulators with a frame folded in. -/
def State.foldFrame (s : State) (c r : Nat) (z : ZFrame) : State :=
  let q := s.red c r
  let i := 0x2602 + 16 * c + r
  let typ := s.cfg q.pour i 2
  let (k0, k) := s.slotBins q.pour c r z
  let terms := ((z.bins.drop k0).take k).map (firstTerm typ (s.cfg q.pour i 3))
  let accs := if q.m = 0 then terms else List.zipWith (combine typ) (q.s1.zip q.s2) terms
  s.modRed c r (fun q => { q with
    m := q.m + 1, s1 := accs.map Prod.fst, s2 := accs.map Prod.snd, mark := q.mark.join z.recMark })

/-- The interval that a frame belongs to is open, and an older one or one of another geometry is closed (R336, R338). -/
def State.intervalFor (s : State) (c r : Nat) (z : ZFrame) : State :=
  let q := s.red c r
  match q.like with
  | none => if q.started && q.start ≤ z.s0 && z.s0 < q.stop && !(q.pour != s.pourOf (redBlock c r)) then
      s.modRed c r (fun q => { q with like := some z, mark := Mark.empty }) else s.openInterval c r z
  | some g =>
    if q.stop ≤ z.s0 then (s.closeInterval c r none).openInterval c r z
    else if sameGeometry g z then s
    else (s.closeInterval c r (some z.s0)).openInterval c r z

/-- REDUCTION_FRAME: the slot folds its oldest frame into its interval, and delivers the interval after its last frame (R336,
R337). -/
def execReductionFrame (c : Ch) (slot : Fin 6) (s : State) : Out State :=
  s.guarded (fun s =>
    match (s.red c slot).queue with
    | [] => s
    | x :: rest =>
      let s := s.modRed c slot (fun q => { q with queue := rest })
      let z := match x with | .frame z => z | .lost z _ => z
      let s := s.intervalFor c slot z
      let s := match x with
        | .frame z => s.foldFrame c slot z
        | .lost _ cause => s.modRed c slot (fun q => { q with lossCause := cause })
      if (s.red c slot).stop ≤ z.s0 + z.hop then s.closeInterval c slot none else s)

/-- Bytes per bin of a slot's accumulators (R333). -/
def slotState (typ source : Nat) : Nat :=
  if 2 ≤ source then (if typ = 5 then 8 else 16) else [4, 4, 8, 8, 8, 4, 16].getD typ 0

/-- Accumulator bytes of slot r of channel c under a pour (R335). -/
def State.slotBytes (s : State) (p main : U32) (c r : Nat) : Nat :=
  let i := 0x2602 + 16 * c + r
  if s.cfgOn p i 1 then
    let k := if s.cfg p i 6 = 0 then (s.mainShape main c).len / 2 - s.cfg p i 5 else s.cfg p i 6
    k * slotState (s.cfg p i 2) (s.cfg p i 3)
  else 0

/-- The state in use shown in 0x2608.0E (R347). -/
def State.showReductions (s : State) (c : Nat) : State :=
  s.showState (0x2608 + 16 * c) 0x0E ((upTo 6).foldl (fun a r =>
    a + s.slotBytes (s.pourOf (redBlock c r)) (s.pourOf (.main (Fin.ofNat 4 c))) c r) 0)

/-! ### Envelopes (R342, R343) -/

/-- Generator g of channel c. -/
def State.env (s : State) (c g : Nat) : Env := Tab.get (fun _ => Env.idle) s.envs (2 * c + g)

/-- It changed by `f`. -/
def State.modEnv (s : State) (c g : Nat) (f : Env → Env) : State :=
  { s with envs := Tab.modify (fun _ => Env.idle) s.envs (2 * c + g) f }

/-- A generator's enable and exponent under a pour. -/
def State.envOn (s : State) (p : U32) (c g : Nat) : Bool := s.cfgOn p (0x2609 + 16 * c) (1 + 4 * g)
def State.envExp (s : State) (p : U32) (c g : Nat) : Nat := s.cfg p (0x2609 + 16 * c) (2 + 4 * g)

/-- A point as delivered (R342). -/
def Env.toPoint (v : Env) (len : Nat) : EnvPoint :=
  { lo := v.lo, hi := v.hi, mean := roundDiv (16 * v.sum) (max 1 v.count)
    flags := (if v.lo = -2048 ∨ v.hi = 2047 then 1 else 0) + (if v.count < len then 2 else 0) + (if v.repaired then 4 else 0) }

/-- The open point is done; one with no sample is not produced (R342). -/
def Env.endPoint (v : Env) (len : Nat) : Env :=
  if v.count = 0 then v else { v with points := v.toPoint len :: v.points, count := 0 }

/-- The bytes of a point (R344). -/
def EnvPoint.image (p : EnvPoint) : List Byte :=
  leBytes 2 (bitsOf 16 p.lo) ++ leBytes 2 (bitsOf 16 p.hi) ++ leBytes 2 (bitsOf 16 p.mean) ++ leBytes 2 p.flags

/-- The open record closed: a point in progress ends it (R343, R344). -/
def State.closeEnv (s : State) (c g : Nat) : State :=
  let e := s.envExp (s.env c g).pour c g
  let v := (s.env c g).endPoint (2 ^ e)
  let s := s.modEnv c g (fun _ => { v with points := [], mark := Mark.empty })
  if v.points.isEmpty then s
  else
    let n := v.points.length
    let r : Rec := {
      typ := 0x19, chan := c, source := g, prog := 0, time := v.t0, stop := s.sampleTime c (v.first + n * 2 ^ e), fields := []
      payload := leBytes 8 v.first ++ leBytes 1 g ++ leBytes 1 e ++ leBytes 1 (if v.uncorrected then 1 else 0) ++ leBytes 1 0
        ++ leBytes 4 n ++ v.points.reverse.flatMap EnvPoint.image
      mark := { v.mark with steps := some (s.stepsBefore c v.first, s.stepsBefore c (min (v.first + n * 2 ^ e) (s.chan c).counter - 1)) }
      cfgPour := v.pour }
    (s.envRunners v.pour c g).foldl (fun s n => s.publish n r) s

/-- One sample of the raw tap taken into the open point (R342). -/
def Env.sample (v : Env) (len n : Nat) (x : Int) (t : T96) (repaired uncorrected : Bool) (mark : Mark) : Env :=
  let v := if v.points.isEmpty ∧ v.count = 0 then { v with first := n / len * len, t0 := t, uncorrected := uncorrected } else v
  if v.count = 0 then
    { v with point := n / len, count := 1, lo := x, hi := x, sum := x, repaired := repaired, mark := v.mark.join mark }
  else { v with count := v.count + 1, lo := min v.lo x, hi := max v.hi x, sum := v.sum + x, repaired := v.repaired || repaired
                mark := v.mark.join mark }

/-- Generator g takes a pour at a sample: an open record ends where the enable, the exponent or the runner changes, and otherwise
goes on as one of both configurations (R28, R29, R343). -/
def State.takeEnvPour (s : State) (c g : Nat) (p : U32) : State :=
  let v := s.env c g
  if [1, 2, 4].all (fun b => s.cfg v.pour (0x2609 + 16 * c) (b + 4 * g) == s.cfg p (0x2609 + 16 * c) (b + 4 * g)) then
    let m := if v.points.isEmpty && v.count == 0 then v.mark else v.mark.take 0 v.pour false
    s.modEnv c g (fun v => { v with pour := p, next := none, mark := m })
  else (s.closeEnv c g).modEnv c g (fun v => { v with pour := p, next := none })

/-- A sample at generator g: the next configuration where it starts there, the point, and the record once it holds Q points. -/
def State.envSample (s : State) (c g : Nat) (f : Frame) (k : Nat) (x : Int) : State :=
  let n := f.s0 + k
  let s := match (s.env c g).next with
    | some (b, p) => if b ≤ n then s.takeEnvPour c g p else s
    | none => s
  let p := (s.env c g).pour
  if !s.envOn p c g then s
  else
    let len := 2 ^ s.envExp p c g
    let s := s.modEnv c g (fun v =>
      let v := if v.count ≠ 0 ∧ v.point ≠ n / len then v.endPoint len else v
      let v := v.sample len n x (s.frameTime c f (n / len * len)) (f.repaired.contains k) f.uncorrected f.mark
      if n % len = len - 1 then v.endPoint len else v)
    if s.cfg p (0x2609 + 16 * c) (3 + 4 * g) ≤ (s.env c g).points.length then s.closeEnv c g else s

/-- A conditioner frame's raw tap taken in by both generators of channel c. -/
def State.feedEnvs (s : State) (c : Nat) (f : Frame) : State :=
  (upTo 2).foldl (fun s g => (f.raw.zipIdx).foldl (fun s ((x, k) : Int × Nat) => s.envSample c g f k x) s) s

/-- A generator takes a pour: a change of e waits for the first multiple of both lengths at or after sample n (R343). -/
def State.switchEnv (s : State) (c g n : Nat) (new : U32) : State :=
  let old := (s.env c g).pour
  let m := if s.envOn old c g then max (2 ^ s.envExp old c g) (2 ^ s.envExp new c g) else 1
  s.modEnv c g (fun v => { v with next := some (ceilTo m n, new) })

end Sys2Proof.Machine
end

