-- ==== Sys2Proof/WellFormed.lean ====
section
/-! DEFINITION. Which commands the surroundings can send. A command that brings a number of samples, rates or table entries
brings as many as the rule of its row names; a command of a ladle has only field values that R440-R442 admit (other
field values are an illegal instruction, R442, and are handled by the ladle). -/

namespace Sys2Proof

/-- The samples that the stages of the conditioner look ahead (R168, R170, R193). -/
def lookAhead : Nat := 17

/-- The most samples a conditioner frame brings: 4,096 of its own and those that its stages look ahead. A frame that a stop cuts short
brings fewer (R172). -/
def frameSamples : Nat := 4096 + lookAhead

/-- Whether a command can come from the surroundings. -/
def Instr.wellFormed : Instr → Bool
  | .conditionerFrame _ samples => decide (lookAhead < samples.length) && decide (samples.length ≤ frameSamples)
  | .bgCalWindowEnd _ pairs _ => !pairs.isEmpty
  | .fgCalComplete _ cal => decide (cal.elements.length = 65) && decide (cal.taps.length = 33)
  | .interpCalComplete _ hits => decide (hits.length = 384)
  | .sentinelWindowEnd rates => decide (rates.length = 64)
  | _ => true

end Sys2Proof
end

