-- ==== Sys2Proof/Machine/Conditioner.lean ====
section
/-! DEFINITION. The channel conditioner: its stages, the flags of a frame, slice and comparator faults, raw records, and what a frame
hands to the taps (R160-R176, R192-R197). -/

namespace Sys2Proof.Machine

/-- The conditioner's block. -/
def condBlock (c : Nat) : BlockId := .conditioner (Fin.ofNat 4 c)

/-! ### Stages (R168-R170, R193) -/

/-- Converter samples kept before a frame: 1,023 of the delay, 16 of the equaliser, 2 of the repair. -/
def tailLen : Nat := 1041

/-- A Q12.4 value clamped, and whether the clamp changed it. -/
def sat16 (x : Int) : Int × Nat := (clampBits 16 x, if clamps (-32768) 32767 x then 1 else 0)

/-- Stage 1: (code − offset) × gain (R168). -/
def sliceCorrect (e : Element) (code : BitVec 12) : Int × Nat :=
  sat16 (roundShift ((16 * code.toInt - e.offset) * e.gain) 15)

/-- A flagged sample replaced by its neighbours (R193), from the left: the output before, and whether that one was flagged. -/
def repairRun : Int → Bool → List (Int × Bool) → List Int
  | _, _, [] => []
  | _, _, (x, false) :: rest => x :: repairRun x false rest
  | prev, perr, (_, true) :: rest =>
    let next := rest.head?
    let v := match next with
      | some (y, false) => if perr then y else roundShift (prev + y) 1
      | _ => prev
    v :: repairRun v true rest

/-- Stage 3 over a list that starts 16 samples before the first output: the taps in reverse, before saturation. -/
def firRun (taps : List Int) : Nat → List Int → List Int
  | 0, _ => []
  | _ + 1, [] => []
  | n + 1, x :: xs =>
    roundShift ((List.zipWith (· * ·) taps (x :: xs)).foldl (· + ·) 0) 16 :: firRun taps n xs

/-- Stage 4: x × G + O (R168). -/
def gainStage (g : Nat) (o x : Int) : Int × Nat := sat16 (roundShift (x * g + o * 2 ^ 14) 14)

/-- Stage 5: the raw tap's rounding (R168). -/
def rawRound (x : Int) : Int × Nat :=
  let v := roundShift x 4
  (clampBits 12 v, if clamps (-2048) 2047 v then 1 else 0)

/-- The factory set of channel c (R190). -/
def factoryElements (c : Nat) : List Element := (List.range 65).map (Config.factoryElement c)
def factoryTaps (c : Nat) : List Int := (List.range 33).map (Config.factoryTap c)

/-- The elements and taps in force: the factory set's before any set has been activated (R190, R200). -/
def State.elementsOf (s : State) (c : Nat) : List Element :=
  if (s.chan c).elements.isEmpty then factoryElements c else (s.chan c).elements
def State.tapsOf (s : State) (c : Nat) : List Int := if (s.chan c).taps.isEmpty then factoryTaps c else (s.chan c).taps

/-- The equaliser's taps under a pour (R173). -/
def State.eqTaps (s : State) (p : U32) (c : Nat) : List Int :=
  (List.range 33).map (fun i =>
    match s.cfg p (0x2200 + 16 * c) 6 with
    | 0 => if i = 16 then 65536 else 0
    | 1 => (s.tapsOf c).getD i 0
    | _ => s.cfgInt p (0x2202 + 16 * c) (i + 1))

/-- What a frame's samples become. -/
structure CondOut where
  q        : List Int
  raw      : List Int
  sats     : Nat
  repaired : Nat
  offsets  : List Nat
  /-- The repair's output just before the next frame's window, and whether it was flagged (R193). -/
  prior    : Int × Bool

/-- Converter samples from s0 − 1,041 on, with the slots that are always repaired flagged (R196). -/
def State.condInput (s : State) (c : Nat) (samples : List RawSample) : List RawSample :=
  let h := s.chan c
  let tail := h.tail.reverse
  let pad := (List.range (tailLen - tail.length)).map (fun (i : Nat) =>
    { code := Config.priorCode c (h.counter - tailLen + i), err := false, overload := false : RawSample })
  (pad ++ tail ++ samples)

/-- A frame of n samples through the stages, under one set of values (R168, R175). -/
def State.condition (s : State) (c n : Nat) (samples : List RawSample) : CondOut :=
  let h := s.chan c
  let els := s.elementsOf c
  let p := s.pourOf (condBlock c)
  let d := s.cfg p (0x2200 + 16 * c) 3
  let input := s.condInput c samples
  let slot (i : Nat) : Nat := (h.counter + 64 * tailLen + i - tailLen) % 64
  let flagged (r : RawSample) (i : Nat) : Bool := r.err || h.degraded.contains (slot i)
  let one := (input.zipIdx).map (fun ((r, i) : RawSample × Nat) =>
    (sliceCorrect (els.getD (slot i) default) r.code, flagged r i))
  let own := (one.drop tailLen).take n
  let fixed := repairRun h.prior.1 h.prior.2 (one.map (fun a => (a.1.1, a.2)))
  let y := (firRun (s.eqTaps p c).reverse n (fixed.drop (tailLen - d - 16))).map sat16
  let z := y.map (fun a => gainStage (s.cfg p (0x2200 + 16 * c) 4) (s.cfgInt p (0x2200 + 16 * c) 5) a.1)
  let r := z.map (fun a => rawRound a.1)
  let total (l : List (Int × Nat)) : Nat := l.foldl (fun n a => n + a.2) 0
  let codes := (input.drop (tailLen - d)).take n
  { q := z.map Prod.fst
    raw := if s.cfg p (0x2200 + 16 * c) 2 = 1 then codes.map (fun a => a.code.toInt) else r.map Prod.fst
    sats := total (own.map Prod.fst) + total y + total z + total r
    repaired := (own.filter (fun a => a.2)).length
    offsets := ((((one.drop (tailLen - d)).take n).zipIdx).filter (fun a => a.1.2)).map Prod.snd
    prior := (fixed.getD (n - 1) 0, ((one[n - 1]?).map Prod.snd).getD false) }

/-! ### Faults of a frame (R192-R197) -/

/-- The calibration state of 0x2201.07 (R195, R196, R200). -/
def State.showCal (s : State) (c : Nat) : State :=
  let h := s.chan c
  s.showState (0x2201 + 16 * c) 7 (if !h.degraded.isEmpty then 3 else if s.num (0x2203 + 16 * c) 1 = 2 then 2 else if h.factory then 1 else 0)

/-- A shadow window abandoned: the next one starts with the same slot (R182). -/
def State.abandonWindow (s : State) (c : Nat) : State :=
  if (s.chan c).shadow.isNone then s
  else
    let s := (s.modChan c (fun h => { h with shadow := none })).put (0x2203 + 16 * c) 3 255
    if s.num (0x2203 + 16 * c) 1 = 1 then s.put (0x2203 + 16 * c) 1 0 else s

/-- The slice that serves a slot: the spare counts as slice 64. -/
def State.sliceOf (s : State) (c slot : Nat) : Nat :=
  if s.num (0x2203 + 16 * c) 2 = slot then 64 else slot

/-- The slot that the spare serves. -/
def State.served (s : State) (c : Nat) : Option Nat :=
  if s.num (0x2203 + 16 * c) 2 < 64 then some (s.num (0x2203 + 16 * c) 2) else none

/-- The first and last repaired sample of a slot taken on by those of one event: afresh where its window opens (R194, R620). -/
def State.noteErrors (s : State) (c slot : Nat) (span : Option (Nat × Nat)) (afresh : Bool) : State :=
  s.modChan c (fun h => { h with
    errSpan := Tab.modify (fun _ => (0, 0)) h.errSpan slot (fun a =>
      match span with
      | some b => (if afresh then b.1 else a.1, b.2)
      | none => if afresh then (0, 0) else a) })

/-- A slice fault event of a slot, with its repaired samples where it has any: counted under the slice that serves the slot. A lasting
slice passes to the spare at the next boundary, where the event is journalled, or is repaired for good; a slot that is passing or is
repaired for good already is counted on, and its entries show a transient event (R192, R194, R196, R620). No entry names a runner: a
repair takes no record from any (R625; DEDUCED, log entry 21). -/
def State.sliceFault (s : State) (c slot : Nat) (span : Option (Nat × Nat)) : State :=
  let h := s.chan c
  let slice := s.sliceOf c slot
  let passing := h.takeover == some slot
  let spare := decide (s.num (0x2203 + 16 * c) 1 ≤ 1) && h.takeover.isNone
  let (s, n, lasting) := (s.bump (0x2203 + 16 * c) 4).countFault .slice (elementOf c slice)
  let s := s.noteErrors c slot span (n == 1 && !passing)
  let e := Tab.get (fun _ => (0, 0)) (s.chan c).errSpan slot
  let declared := lasting && !passing && !h.degraded.contains slot
  if declared && spare then (s.abandonWindow c).modChan c (fun h => { h with takeover := some slot, takeoverN := n })
  else
    let s := s.journalFault .slice (elementOf c slice) n declared false [] e.1 e.2
    if !declared then s
    else
      let s := s.modChan c (fun h => { h with degraded := h.degraded ++ [slot] })
      (if slice = 64 then s.put (0x2203 + 16 * c) 1 3 else s).showCal c

/-- The largest code of a frame in one polarity (R197). -/
def peakCode (negative : Bool) (own : List RawSample) : Nat :=
  own.foldl (fun a r => max a (if negative then -r.code.toInt else r.code.toInt).toNat) 0

/-- A comparator disagrees with a frame's codes: it stayed silent at a threshold of full scale or less while its rail was reached, or
it responded while every code of its polarity lay more than its accuracy of 0.5 dB below the threshold, or below full scale where the
threshold is higher (R161, R197, R198; DESIGN CHOICE, log entry 21: R197 does not say what the check compares). -/
def comparatorDisagrees (threshold : Int) (negative : Bool) (own : List RawSample) (fired : Bool) : Bool :=
  let peak := peakCode negative own
  let reached := decide ((if negative then 2048 else 2047) ≤ peak)
  (reached && !fired && decide (threshold ≤ 0))
    || (fired && !reached && decide (10 * l16 (peak * peak) (2048 * 2048) + 640 < 128 * min threshold 0))

/-- A fault event of the overload comparator pair (R197). -/
def State.comparatorFault (s : State) (c : Nat) : State :=
  let spare := s.num (0x2203 + 16 * c) 7 == 0 && !(s.chan c).cmpTakeover
  let (s, n, lasting) := s.countFault .comparator (elementOf c 0)
  let s := s.journalFault .comparator (elementOf c 0) n lasting spare
  if lasting && spare then s.modChan c (fun h => { h with cmpTakeover := true }) else s

/-! ### Raw records (R172) -/

/-- The raw record in progress up to index `stop`. -/
def State.closeRaw (s : State) (c stop : Nat) : State :=
  match (s.chan c).rawStart with
  | none => s
  | some a =>
    let s := s.modChan c (fun h => { h with rawStart := none })
    if stop ≤ a then s
    else
      let p := s.pourOf (condBlock c)
      let h := s.chan c
      let r : Rec := {
        typ := 0x10, chan := c, source := 0, prog := 0, time := s.sampleTime c a, stop := s.sampleTime c stop
        fields := leBytes 8 a ++ leBytes 4 (stop - a) ++ leBytes 1 (if h.uncorrectedAt a then 1 else 0)
        payload := packRaw (h.rawSamples a stop), mark := s.markOf c a stop, cfgPour := (s.markOf c a stop).pour.getD p }
      (s.cfgRunner p (0x2200 + 16 * c) 8).foldl (fun s n => s.publish n r) s

/-- A frame at the raw runner: a record starts at a multiple of its count, and is closed when it is full (R172). -/
def State.rawFrame (s : State) (c s0 : Nat) : State :=
  let p := s.pourOf (condBlock c)
  let want := s.cfg p (0x2200 + 16 * c) 9
  let h := s.chan c
  let count := if s0 % h.rawCount = 0 ∧ s0 % want = 0 then want else h.rawCount
  let open' := h.rawStart.isNone && s0 % count == 0 && !(s.cfgRunner p (0x2200 + 16 * c) 8).isEmpty && !(s.cap c).shed
  let s := s.modChan c (fun h => { h with rawCount := count, rawStart := if open' then some s0 else h.rawStart })
  match (s.chan c).rawStart with
  | some a => if count ≤ (s.chan c).counter - a then s.closeRaw c (s.chan c).counter else s
  | none => s

/-! ### The frame -/

/-- A frame's flags as R505 places them (R176, R643); the time-step flag is that of a record's own span (R137). -/
def condFlags (overloaded repaired factory degraded holdover : Bool) : Nat :=
  (if overloaded then 1 else 0) + (if repaired then 2 else 0) + (if factory then 4 else 0) + (if degraded then 8 else 0)
    + (if holdover then 128 else 0)

/-- The samples of a frame to the time-domain units (R286). -/
def State.feedTriggers (s : State) (c : Nat) (f : Frame) : State :=
  s.feedUnits c f.s0 (fun kind _ => kind == 3 || kind == 4) (.samples f.s0 f.t0 f.q f.mark)

/-- The slots with a sample-error bit among a frame's own samples, each with the first and last such sample (R192, R194). -/
def errorSlots (s0 : Nat) (own : List RawSample) : List (Nat × Nat × Nat) :=
  let hit := (own.zipIdx).filterMap (fun ((r, i) : RawSample × Nat) => if r.err then some (s0 + i) else none)
  (upTo 64).filterMap (fun k =>
    match hit.filter (fun n => n % 64 == k) with
    | [] => none
    | a :: l => some (k, a, l.getLastD a))

/-- The samples of a frame with the overload bit and a code at a rail, as excursions that end with themselves (R163, R167). -/
def overdrives (s0 : Nat) (own : List RawSample) (recovery : Nat) : List Excursion :=
  (own.zipIdx).filterMap (fun ((r, i) : RawSample × Nat) =>
    if r.overload && (r.code.toInt == -2048 || r.code.toInt == 2047) then
      some { first := s0 + i, last := s0 + i, clear := s0 + i + recovery, negative := decide (r.code.toInt < 0) }
    else none)

/-- The samples of channel c that lie within 2 ns of the input's return inside full scale (R163). -/
def State.recoverySamples (s : State) (c : Nat) : Nat := s.clk.rate * 2 / (s.divider c * 1000000000)

/-- A conditioner frame boundary passes: 0x2180 pairs its counter value with its T96 (R147). -/
def State.showBoundary (s : State) (c s0 : Nat) (t0 : T96) : State :=
  ((s.putLive (0x2180 + 16 * c) 2 (s0 % 2 ^ 64)).putLive (0x2180 + 16 * c) 3 t0.toNat).showGroup (0x2180 + 16 * c)

/-- The groups of channel c that are updated at every conditioner frame: 0x2201, 0x2308 and 0x2508 (R64, R200, R234, R317). -/
def State.showFrameGroups (s : State) (c : Nat) : State :=
  ((s.showGroup (0x2201 + 16 * c)).showGroup (0x2308 + 16 * c)).showGroup (0x2508 + 16 * c)

/-- The T96 of the boundary at sample s0: on the grid by its index, off it as the timebase measures it now (R144, R146). -/
def State.boundaryTime (s : State) (c s0 : Nat) : T96 := if s.onGrid c then BitVec.ofNat 96 (s.samplesToT c s0) else s.now

/-- A boundary passes while the converter runs and the channel delivers nothing: the counter goes on (R144, R147). -/
def State.passBoundary (s : State) (c : Nat) : State :=
  let s0 := ceilTo frameLen (s.chan c).counter
  let t0 := s.boundaryTime c s0
  let s := s.showFrameGroups c
  (s.modChan c (fun h => { h with counter := s0 + frameLen, anchor := some (s0, t0) })).showBoundary c s0 t0

/-- A frame that the channel delivers: 4,096 samples, or those of before a stop that cuts it, which complete no frame (R168-R176,
R192-R197). -/
def State.deliverFrame (s : State) (c : Nat) (samples : List RawSample) : State :=
  let h := s.chan c
  let p := s.pourOf (condBlock c)
  let s0 := h.counter
  let n := samples.length - lookAhead
  let s1 := s0 + n
  let own := samples.take n
  let o := s.condition c n samples
  let hits := h.overSpans.filter (fun a => decide (a.first < s1) && decide (s0 ≤ a.clear))
  let overload := own.any (fun r => r.overload) || !hits.isEmpty
  let railed := own.any (fun r => r.code.toInt == -2048 || r.code.toInt == 2047)
  let fired (negative : Bool) : Bool :=
    hits.any (fun a => a.negative == negative && decide (s0 ≤ a.last)) || own.any (fun r => r.overload && decide (r.code.toInt < 0) == negative)
  let t0 := s.boundaryTime c s0
  let flags := condFlags (overload || decide (0 < o.sats)) (decide (0 < o.repaired)) h.factory (!h.degraded.isEmpty) (s.timeState == 3)
  let f : Frame := { s0 := s0, t0 := t0, q := o.q, raw := o.raw, uncorrected := s.cfg p (0x2200 + 16 * c) 2 == 1
                     repaired := o.offsets, mark := { flags := flags, pour := some p, mixed := false }, len := n }
  let s := s.modChan c (fun h => { h with
    counter := s1, frames := (f :: h.frames).take 32768
    tail := (own.reverse ++ h.tail).take tailLen, prior := o.prior, anchor := some (s0, t0)
    overSpans := (h.overSpans ++ overdrives s0 own (s.recoverySamples c)).filter (fun a => decide (s1 ≤ a.clear)) })
  let j := 0x2201 + 16 * c
  let whole := n == frameLen
  let peak := o.q.foldl (fun a x => max a x.natAbs) 0
  let s := ((s.bumpLive j 3 (if overload then 1 else 0)).bumpLive j 4 o.sats).bumpLive j 5 o.repaired
  let s := s.when whole (fun s =>
    (((s.bumpLive j 2).putLive j 8 (bitsOf 16 (l16 (peak * peak) (32768 * 32768)))).showFrameGroups c).showBoundary c s0 t0)
  let s := (errorSlots s0 own).foldl (fun s k => s.sliceFault c k.1 (some k.2)) s
  let th := s.cfgInt p (0x2200 + 16 * c) 7
  let s := s.when (railed && (comparatorDisagrees th false own (fired false) || comparatorDisagrees th true own (fired true)))
    (fun s => s.comparatorFault c)
  (((s.rawFrame c s0).cornerTurnWrites c s0 s1).feedTriggers c f).feedEnvs c f |>.capAdvance c

end Sys2Proof.Machine
end

