-- ==== Sys2Proof/Machine/DdcOps.lean ====
section
/-! DEFINITION. The DDC chain from its input history: mixer, CIC, half-bands, CFIR with cross-fades, gain and format (R202-R231). -/

namespace Sys2Proof.Machine

/-- DDC k of channel c. -/
def State.ddc (s : State) (c k : Nat) : Ddc := Tab.get (fun _ => Ddc.off) s.ddcs (8 * c + k)

/-- DDC k of channel c changed by `f`. -/
def State.modDdc (s : State) (c k : Nat) (f : Ddc → Ddc) : State :=
  { s with ddcs := Tab.modify (fun _ => Ddc.off) s.ddcs (8 * c + k) f }

/-! ### Structure (R203, R211, R216, R220) -/

/-- What an entry selects: preset, decimation exponent, CFIR source and ROM index. -/
structure DdcShape where
  preset : Nat
  k      : Nat
  source : Nat
  rom    : Nat
deriving DecidableEq

/-- The shape of DDC k of channel c under a pour. -/
def State.ddcShape (s : State) (p : U32) (c k : Nat) : DdcShape :=
  let i := 0x2300 + 16 * c + k
  { preset := s.cfg p i 2, k := s.cfg p i 3, source := s.cfg p i 7, rom := s.cfg p i 8 }

/-- Tap counts of a preset's half-bands and CFIR, and its greatest number of half-bands (R211). -/
def presetHb (p : Nat) : Nat := [71, 47, 23, 23].getD p 1
def presetCfir (p : Nat) : Nat := [127, 79, 39, 39].getD p 1
def presetMax (p : Nat) : Nat := [3, 2, 1, 1].getD p 0

/-- D, h, c and R_c (R203). -/
def DdcShape.dec (q : DdcShape) : Nat := 2 ^ q.k
def DdcShape.h (q : DdcShape) : Nat := if q.preset = 4 then 0 else min (presetMax q.preset) (q.k - 1)
def DdcShape.cic (q : DdcShape) : Nat := if q.preset = 4 then q.k else q.k - 1 - q.h
def DdcShape.rc (q : DdcShape) : Nat := 2 ^ q.cic

/-- The span S in input samples (R216). -/
def DdcShape.span (q : DdcShape) : Nat :=
  if q.preset = 4 then 5 * q.dec - 4
  else 5 * q.rc - 4 + (presetHb q.preset - 1) * q.rc * (2 ^ q.h - 1) + (presetCfir q.preset - 1) * q.rc * 2 ^ q.h

/-- The label delay τ_L (R216). -/
def DdcShape.delay (q : DdcShape) : Nat :=
  if q.preset = 3 then (5 * (q.rc - 1) + 8 * q.rc * (2 ^ q.h - 1) + 12 * q.rc * 2 ^ q.h) / 2 else (q.span - 1) / 2

/-- The outputs v after a reset whose history reaches before it (R220). -/
def DdcShape.invalid (q : DdcShape) : Nat := (q.span - 1 - q.delay + q.dec - 1) / q.dec

/-- The response that a shape selects: one of the ROM, source 0, whether the preset's own or a chosen one, or a user bank's (R212,
R213). -/
def DdcShape.resp (q : DdcShape) : Resp :=
  match q.source with
  | 0 => { source := 0, index := 5 * q.preset + min q.cic 4 }
  | 1 => { source := 0, index := q.rom }
  | n => { source := n, index := 0 }

/-- The first label whose latest input is at or after an index (R215). -/
def DdcShape.firstLabel (q : DdcShape) (n : Nat) : Int := ((n : Int) - q.delay + q.dec - 1) / q.dec * q.dec

/-- The latest input n_e of the next output (R215). -/
def Ddc.nextEnd (d : Ddc) (q : DdcShape) : Nat := (d.nextLabel + q.delay).toNat

/-- The pour under which DDC k of channel c computes an output whose latest input is n (R24, R27, R219). -/
def State.ddcPour (s : State) (c k n : Nat) : U32 :=
  (((s.ddc c k).pours.find? (fun g => decide (g.1 ≤ n))).map Prod.snd).getD (s.pourOf (.ddc (Fin.ofNat 4 c) (Fin.ofNat 8 k)))

/-- The shape that DDC k of channel c has run with since its last reset: no other change alters it (R219). -/
def State.ddcBase (s : State) (c k : Nat) : DdcShape := s.ddcShape (s.ddc c k).base c k

/-- The configurations of a DDC that an output whose latest input is n, or a later one, still takes. -/
def Ddc.taken (d : Ddc) (n : Nat) : List (Nat × U32) :=
  d.pours.takeWhile (fun g => decide (n < g.1)) ++ (d.pours.dropWhile (fun g => decide (n < g.1))).take 1

/-! ### NCO and mixer (R208, R209) -/

/-- The phase at sample n of the newest segment that holds it. -/
def Ddc.phase (d : Ddc) (n : Nat) : Nat :=
  match d.nco.find? (fun g => decide (g.1 ≤ n)) with
  | some (n0, ph, ftw, _) => (ph + ftw * (n - n0)) % 2 ^ 48
  | none => 0

/-- The grid-coherent phase at sample n (R209). -/
def gridPhase (ftw pow n : Nat) : Nat := (ftw * n + pow * 2 ^ 32) % 2 ^ 48

/-- Cosine and sine of a phase of 20 bits as the quarter-wave table gives them: Q1.17, to nearest, 1 clamped to 1 − 2^-17 (R202, R205;
DESIGN CHOICE, log entry 23: R202 prints no table). -/
def ncoCos (a : Nat) : Int := clampBits 18 (roundShift (cosTurn a (2 ^ 20)) (trigBits - 17))
def ncoSin (a : Nat) : Int := clampBits 18 (roundShift (sinTurn a (2 ^ 20)) (trigBits - 17))

/-- I and Q of the mixer at input sample t in Q12.11; zero before the last reset (R202, R218). -/
def Ddc.mix (d : Ddc) (h : Chan) (t : Int) : Int × Int :=
  if t < d.resetIx then (0, 0)
  else
    let x := h.sample t.toNat
    let a := d.phase t.toNat / 2 ^ 28
    (roundShift (2 * x * ncoCos a) 10, roundShift (-(2 * x * ncoSin a)) 10)

/-! ### Filters (R202-R205) -/

/-- The coefficient of input j in five boxcars of length r in a row. -/
def box5 (r j : Nat) : Int :=
  ([(0, 1), (1, -5), (2, 10), (3, -10), (4, 5), (5, -1)] : List (Nat × Int)).foldl
    (fun a (i, b) => if j < i * r then a else
      let n := j - i * r + 4
      a + b * ((n * (n - 1) * (n - 2) * (n - 3) / 24 : Nat) : Int)) 0

/-- The CIC at input time t, Q12.19 (R202, R204). -/
def Ddc.cicAt (d : Ddc) (h : Chan) (q : DdcShape) (t : Int) : Int × Int :=
  let (a, b) := (List.range (5 * q.rc - 4)).foldl (fun (acc : Int × Int) (j : Nat) =>
    let (x, y) := d.mix h (t - j)
    (acc.1 + box5 q.rc j * x, acc.2 + box5 q.rc j * y)) (0, 0)
  (roundDiv (256 * a) (q.rc ^ 5), roundDiv (256 * b) (q.rc ^ 5))

/-- A coefficient of the ROM, 20 bits wide (R202, R212). -/
def romTap (index i : Nat) : Int := clampBits 20 (Config.romTap index i)

/-- A FIR of Q2.18 coefficients over Q12.19 values, before saturation. -/
def firSum (taps : Nat → Int) (len : Nat) (x : Nat → Int × Int) : Int × Int :=
  let (a, b) := (List.range len).foldl (fun (acc : Int × Int) i =>
    let (u, v) := x i
    (acc.1 + taps i * u, acc.2 + taps i * v)) (0, 0)
  (roundShift a 18, roundShift b 18)

/-- Half-band stage j at input time t; stage 0 is the CIC. Before saturation. -/
def Ddc.hbRaw (d : Ddc) (h : Chan) (q : DdcShape) : Nat → Int → Int × Int
  | 0, t => d.cicAt h q t
  | j + 1, t => firSum (romTap (20 + q.preset)) (presetHb q.preset) (fun i =>
      let (u, v) := d.hbRaw h q j (t - (i * q.rc * 2 ^ j : Nat))
      (clampBits 32 u, clampBits 32 v))

/-- The last half-band stage, saturated to Q12.19. -/
def Ddc.hbAt (d : Ddc) (h : Chan) (q : DdcShape) (t : Int) : Int × Int :=
  let (u, v) := d.hbRaw h q q.h t
  (clampBits 32 u, clampBits 32 v)

/-- A component saturates in Q12.19. -/
def sat32 (z : Int × Int) : Nat := (if clamps (-(2 ^ 31)) (2 ^ 31 - 1) z.1 then 1 else 0)
  + (if clamps (-(2 ^ 31)) (2 ^ 31 - 1) z.2 then 1 else 0)

/-- A user bank's image (R227): bank 2 is A, bank 3 is B. -/
def State.bankImage (s : State) (c k bank : Nat) : List Byte := (s.val (0x2307 + bank + 16 * c) (k + 1)).data

/-- The taps of a response and their number (R212, R213). -/
def State.respTap (s : State) (c k : Nat) (r : Resp) (i : Nat) : Int :=
  if r.source ≤ 1 then romTap r.index i else signedOf 32 (field (s.bankImage c k r.source) (8 + 4 * i) 4)
def State.respLen (s : State) (c k : Nat) (r : Resp) : Nat :=
  if r.source ≤ 1 then (if r.index < 20 then presetCfir (r.index / 5) else if r.index < 24 then 0 else 79)
  else field (s.bankImage c k r.source) 0 4

/-- The CFIR at input time t under a response, before saturation. -/
def State.cfirAt (s : State) (c k : Nat) (d : Ddc) (q : DdcShape) (r : Resp) (t : Int) : Int × Int :=
  firSum (s.respTap c k r) (s.respLen c k r) (fun i => d.hbAt (s.chan c) q (t - (i * q.rc * 2 ^ q.h : Nat)))

/-- Both components saturated to Q12.19. -/
def satPair (z : Int × Int) : Int × Int := (clampBits 32 z.1, clampBits 32 z.2)

/-- Output i of a fade of F outputs between two values (R223). -/
def fadeValue (i f : Nat) (old new : Int) : Int := old + roundShift (roundDiv (i * 2 ^ 24 : Nat) f * (new - old)) 24

/-- The value before the output gain at input time t, with the saturations of stages 3 and 4 that belong to this output. -/
def State.ddcValue (s : State) (c k : Nat) (d : Ddc) (q : DdcShape) (t : Int) : (Int × Int) × Nat :=
  let h := s.chan c
  let hbSats := (List.range q.h).foldl (fun a j =>
    let step := q.rc * 2 ^ (j + 1)
    (List.range (q.dec / step)).foldl (fun a i => a + sat32 (d.hbRaw h q (j + 1) (t - (i * step : Nat)))) a) 0
  if q.preset = 4 then (d.cicAt h q t, 0)
  else
    match d.fade with
    | none => let z := s.cfirAt c k d q d.resp t; (satPair z, hbSats + sat32 z)
    | some f =>
      let a := s.cfirAt c k d q f.old t
      let b := s.cfirAt c k d q f.new t
      let u := satPair a
      let v := satPair b
      let i := min (f.done + 1) f.len
      ((fadeValue i f.len u.1 v.1, fadeValue i f.len u.2 v.2), hbSats + sat32 a + sat32 b)

/-- The output gain (R202). -/
def ddcGain (sh : Nat) (z : Int × Int) : Int × Int := (z.1 * 2 ^ sh, z.2 * 2 ^ sh)

/-- A component in the delivered format: CI16 or CI32, before its clamp (R207). -/
def ddcCode (fmt : Nat) (x : Int) : Int := if fmt = 0 then roundShift x 15 else 2 * x

/-- The bits of a delivered format. -/
def ddcBits (fmt : Nat) : Nat := if fmt = 0 then 16 else 32

/-- A sample as delivered (R207). -/
def ddcBytes (fmt : Nat) (o : DdcOut) : List Byte :=
  let w := ddcBits fmt
  let one (x : Int) : List Byte := leBytes (w / 8) (bitsOf w (clampBits w (ddcCode fmt x)))
  if o.valid then one o.i ++ one o.q else List.replicate (w / 4) 0

/-- Clamps of the format. -/
def formatSats (fmt : Nat) (z : Int × Int) : Nat :=
  let w := ddcBits fmt
  let one (x : Int) : Nat := if clamps (-(2 ^ (w - 1))) (2 ^ (w - 1) - 1) (ddcCode fmt x) then 1 else 0
  one z.1 + one z.2

/-! ### Records (R231) -/

/-- DDC k's status byte (R234). -/
def Ddc.status (d : Ddc) : Nat :=
  if !d.on then 0
  else if d.outs.head?.all (fun o => !o.valid || decide (o.label < (d.resetIx : Int))) then 1
  else if d.fade.isNone then 2 else if d.slot.isNone then 3 else 4

/-- The status of DDC k, which 0x2308 shows from the next conditioner frame on. -/
def State.showDdc (s : State) (c k : Nat) : State := s.putLive (0x2308 + 16 * c) (2 + k) (s.ddc c k).status

/-- The record in progress is closed under the configuration that it was gathered under: written to the runner and offered to the
ladles (R218, R231, R415). -/
def State.closeDdc (s : State) (c k : Nat) : State :=
  let d := s.ddc c k
  let p := d.recPour
  let i := 0x2300 + 16 * c + k
  let q := s.ddcShape p c k
  match d.recOuts.reverse with
  | [] => s
  | o :: rest =>
    let fmt := s.cfg p i 0x0A
    let last := ((o :: rest).getLast?.getD o).label
    let bad := ((o :: rest).filter (fun x => !x.valid)).length
    let r : Rec := {
      typ := 0x11, chan := c, source := k, prog := 0
      time := s.labelTime c o.label, stop := s.sampleTime c ((last + q.delay).toNat + 1)
      fields := leBytes 8 (bitsOf 64 o.label) ++ leBytes 4 (rest.length + 1) ++ leBytes 2 bad ++ leBytes 1 q.k
        ++ leBytes 1 (fmt + (if d.recFade then 2 else 0))
      payload := (o :: rest).flatMap (ddcBytes fmt)
      mark := d.recMark, cfgPour := d.recMark.pour.getD p }
    let s := s.modDdc c k (fun d => { d with recOuts := [], recFade := false, recMark := Mark.empty })
    let s := (s.cfgRunner p i 0x0D).foldl (fun s n => s.publish n r) s
    s.offer .ddc c k r

end Sys2Proof.Machine
end

