-- ==== Sys2Proof/Machine/Ddc.lean ====
section
/-! DEFINITION. Commands of the DDCs (chapter 05), and their switch to a new configuration. -/

namespace Sys2Proof.Machine

/-- The block of DDC k of channel c. -/
def ddcBlock (c k : Nat) : BlockId := .ddc (Fin.ofNat 4 c) (Fin.ofNat 8 k)

/-! ### Outputs -/

/-- A change of the threshold state: counted, and recorded unless a rising event is held off (R229, R230). -/
def State.ddcEvent (s : State) (c k : Nat) (p : U32) (rising : Bool) (label level : Int) (mark : Mark) : State :=
  let d := s.ddc c k
  let i := 0x2300 + 16 * c + k
  let q := s.ddcShape p c k
  let held := rising && ((d.lastRise.map (fun l => decide (label < l + (s.cfg p i 0x11 * q.dec : Nat)))).getD false)
  let s := (s.modDdc c k (fun d => { d with above := rising, lastRise := if rising then some label else d.lastRise })).bumpLive
    (0x2308 + 16 * c) (0x1A + k)
  if held then s
  else
    (s.cfgRunner p i 0x12).foldl (fun s n => s.publish n {
      typ := 0x12, chan := c, source := k, prog := 0, time := s.labelTime c label, stop := s.labelTime c (label + 1)
      fields := leBytes 8 (bitsOf 64 label) ++ leBytes 2 (bitsOf 16 level) ++ leBytes 1 (if rising then 1 else 0), payload := []
      mark := mark, cfgPour := mark.pour.getD p }) s

/-- The threshold detector at a valid output (R228, R229). -/
def State.ddcDetect (s : State) (c k : Nat) (p : U32) (label level : Int) (mark : Mark) : State :=
  let i := 0x2300 + 16 * c + k
  if s.cfg p i 0x0E = 0 then s
  else if (s.ddc c k).above then (if level < s.cfgInt p i 0x10 then s.ddcEvent c k p false label level mark else s)
  else if s.cfgInt p i 0x0F ≤ level then s.ddcEvent c k p true label level mark
  else s

/-- A fade over F outputs from the current response to another one, F as configured at input n (R223, R225). -/
def State.startFade (s : State) (c k n : Nat) (new : Resp) (pour : U32) (oldPour : U32) : State :=
  let f := s.cfg (s.ddcPour c k n) (0x2300 + 16 * c + k) 9
  (s.modDdc c k (fun d => { d with
    fade := some { old := d.resp, new := new, done := 0, len := f, oldPour := oldPour, newPour := pour } })).showDdc c k

/-- A fade whose F outputs are done ends; the change in the slot starts its own, unless its target is what stands (R224). -/
def State.endFade (s : State) (c k n : Nat) : State :=
  let d := s.ddc c k
  match d.fade with
  | none => s
  | some f =>
    if f.done < f.len then s
    else
      let s := s.modDdc c k (fun d => { d with resp := f.new, fade := none, slot := none })
      match d.slot with
      | none => s.showDdc c k
      | some (r, p) => if r = f.new then s.showDdc c k else s.startFade c k n r p f.newPour

/-- The response that a DDC was last asked for: the change in its slot, the target of its fade, or the one that stands. -/
def Ddc.asked (d : Ddc) : Resp :=
  match d.slot, d.fade with
  | some r, _ => r.1
  | none, some f => f.new
  | none, none => d.resp

/-- The configuration of the output whose latest input is n asks for a response: where it is another one than the last asked for, its
fade starts with this output, the first at or after the boundary of the change, or it waits in the slot (R223, R224). -/
def State.takeResp (s : State) (c k n : Nat) : State :=
  let d := s.ddc c k
  let p := s.ddcPour c k n
  let q := s.ddcShape p c k
  let s := s.modDdc c k (fun d => { d with before := p })
  if q.preset == 4 || q.resp == d.asked then s
  else if d.fade.isNone then s.startFade c k n q.resp p d.before
  else (s.modDdc c k (fun d => { d with slot := some (q.resp, p) })).showDdc c k

/-- The mark of an output: what its input carries, under the pour of the CFIR (R28, R29, R176, R225). -/
def ddcMark (d : Ddc) (input : Mark) (p : U32) : Mark :=
  match d.fade with
  | none => input.through p
  | some f =>
    if f.done + 1 < f.len then { (input.through f.oldPour) with mixed := true } else input.through f.newPour

/-- The next output of DDC k of channel c, whose latest input has been delivered. An invalid one is delivered as zero and sets no flag;
its saturations are counted (R205, R220, R221). -/
def State.ddcStep (s : State) (c k : Nat) : State :=
  let q := s.ddcBase c k
  let ne := (s.ddc c k).nextEnd q
  let s := (s.endFade c k ne).takeResp c k ne
  let d := s.ddc c k
  let p := s.ddcPour c k ne
  let i := 0x2300 + 16 * c + k
  let label := d.nextLabel
  let valid := decide (((d.resetIx + q.invalid * q.dec : Nat) : Int) ≤ label)
  let (z, sats) := s.ddcValue c k d q ne
  let g := ddcGain (s.cfg p i 0x0B) z
  let y := satPair g
  let sats := sats + sat32 g + (if valid then formatSats (s.cfg p i 0x0A) y else 0)
  let input := s.markOf c (max d.resetIx (ne + 1 - q.span)) (ne + 1)
  let m := if valid then ddcMark d { input with flags := input.flags ||| (if 0 < sats then 1 else 0) } p else Mark.empty
  let level := detectorLevel (y.1 * y.1 + y.2 * y.2).toNat (2048 ^ 2 * 2 ^ 38)
  let s := if valid then s.ddcDetect c k p label level m else s
  let fading := match d.fade with | some f => decide (f.done + 1 < f.len) | none => false
  let o : DdcOut := { label := label, i := if valid then y.1 else 0, q := if valid then y.2 else 0, valid := valid,
                      level := level, above := (s.ddc c k).above, mark := m }
  let s := s.modDdc c k (fun d => { d with
    nextLabel := label + q.dec,
    fade := d.fade.map (fun f => { f with done := f.done + 1 }),
    recOuts := o :: d.recOuts, recPour := if d.recOuts.isEmpty then p else d.recPour, recFade := d.recFade || fading, recMark := d.recMark.join m
    outs := (o :: d.outs).take 4096 })
  let s := ((s.bumpLive (0x2308 + 16 * c) (0x0A + k)).bumpLive (0x2308 + 16 * c) (0x12 + k) sats).showDdc c k
  let t := s.labelTime c label
  let s := s.feedUnits c ne (fun kind src => (kind == 5 || kind == 6) && src == k) (.output ne q.dec o t)
  if s.cfg p i 0x0C ≤ (s.ddc c k).recOuts.length then s.closeDdc c k else s

/-- The next output of DDC k of channel c can be computed: its latest input has been delivered, and lies before a reset that is due
and before the sample at which a stopped channel has resumed (R202, R215, R218, R219). -/
def State.ddcReady (s : State) (c k : Nat) : Bool :=
  let d := s.ddc c k
  let ne := d.nextEnd (s.ddcBase c k)
  d.on && (d.resetDue.all (fun n => decide (ne < n))) && (d.resumeIx.all (fun n => decide (ne < n))) && (s.chan c).covers ne (ne + 1)

/-- DDC_OUTPUT: the next output, where it can be computed. -/
def execDdcOutput (c : Ch) (k : DdcIx) (s : State) : Out State :=
  s.guarded (fun s => if s.ddcReady c k then s.ddcStep c k else s)

/-! ### Resets -/

/-- A synchronising reset at n_r (R218): a DDC that its configuration enables starts afresh, another one is off. The stop that a
resumption covers extends to n_r (R219). -/
def State.resetDdc (s : State) (c k nr : Nat) : State :=
  let s := s.closeDdc c k
  let p := s.ddcPour c k nr
  let i := 0x2300 + 16 * c + k
  let q := s.ddcShape p c k
  let ftw := s.cfg p i 4
  let s := s.modDdc c k (fun d => { Ddc.off with
    on := s.cfgOn p i 1, resetIx := nr, nextLabel := q.firstLabel nr
    nco := d.nco.filter (fun g => decide (nr < g.1)) ++ [(nr, gridPhase ftw (s.cfg p i 5) nr, ftw, s.cfg p i 6)]
    pours := d.pours.filter (fun g => decide (nr < g.1)) ++ [(nr, p)], before := p, base := p
    resetDue := d.resetLater.head?, resetLater := d.resetLater.drop 1, resp := q.resp, outs := d.outs })
  (s.restartRunners (s.ddcRunners p c k) (s.sampleTime c nr)).showDdc c k

/-- DDC_SYNC_RESET: the reset that is due, after the last output whose latest input comes before it (R218, R219). -/
def execDdcSyncReset (c : Ch) (k : DdcIx) (s : State) : Out State :=
  s.guarded (fun s =>
    match (s.ddc c k).resetDue with
    | none => s
    | some nr => if s.ddcReady c k then s else s.resetDdc c k nr)

/-! ### Fades -/

/-- DDC_FADE_START: the next output is the first at or after the boundary of a change of response, whose fade starts or waits in the
slot; an output that comes without this command does the same (R223, R224). -/
def execDdcFadeStart (c : Ch) (k : DdcIx) (s : State) : Out State :=
  s.guarded (fun s =>
    let ne := (s.ddc c k).nextEnd (s.ddcBase c k)
    if (s.ddc c k).on && ((s.ddc c k).resetDue.all (fun n => decide (ne < n))) then s.takeResp c k ne else s)

/-- DDC_FADE_END: a fade ends after its F outputs (R224). -/
def execDdcFadeEnd (c : Ch) (k : DdcIx) (s : State) : Out State :=
  s.guarded (fun s => s.endFade c k ((s.ddc c k).nextEnd (s.ddcBase c k)))

/-! ### The switch to a new configuration (R27, R210, R219, R223) -/

/-- A reset becomes due at an index: after those that are due already (R219). -/
def Ddc.addReset (d : Ddc) (n : Nat) : Ddc :=
  match d.resetDue with
  | none => { d with resetDue := some n }
  | some _ => { d with resetLater := d.resetLater ++ [n] }

/-- DDC k takes a pour at the first multiple of its D from index n on: a change of enable, preset, k or format waits for the reset that
it makes due, at a multiple of both D; a requested reset is due at the boundary; a change of the NCO starts a segment there. -/
def State.switchDdc (s : State) (c k n : Nat) (old new : U32) (requested : Bool) : State :=
  let i := 0x2300 + 16 * c + k
  let qo := s.ddcShape old c k
  let qn := s.ddcShape new c k
  let same (sub : Nat) : Bool := s.cfg old i sub == s.cfg new i sub
  let d := s.ddc c k
  let n := max n ((d.pours.head?.map Prod.fst).getD 0)
  let grown := !(same 1 && same 2 && same 3 && same 0x0A)
  let n := ceilTo (if grown then max qo.dec qn.dec else qn.dec) n
  let s := s.modDdc c k (fun d => { d with
    pours := (n, new) :: (if d.pours.isEmpty then [(0, old)] else d.taken (d.nextEnd (s.ddcBase c k))) })
  if grown then s.modDdc c k (fun d => d.addReset n)
  else if requested && d.on then s.modDdc c k (fun d => d.addReset n)
  else
    let s := if same 0x0E then s else s.modDdc c k (fun d => { d with above := false, lastRise := none })
    if same 4 && same 5 && same 6 || !d.on then s
    else
      let ftw := s.cfg new i 4
      let ph :=
        if s.cfg new i 6 = 1 then gridPhase ftw (s.cfg new i 5) n
        else if s.cfg old i 6 = 1 then d.phase n
        else (d.phase n + s.cfg new i 5 * 2 ^ 32 + (2 ^ 48 - s.cfg old i 5 * 2 ^ 32)) % 2 ^ 48
      s.modDdc c k (fun d => { d with nco := (n, ph, ftw, s.cfg new i 6) :: d.nco })

/-! ### User banks (R226, R227) -/

/-- A user bank's image is in order. -/
def bankImageOk (b : List Byte) : Bool :=
  let l := field b 0 4
  decide (1 ≤ l) && decide (l ≤ 127) && b.length == 8 + 4 * l && field b 4 4 == (crc32c (b.drop 8)).toNat
    && (List.range l).all (fun i =>
      let x := signedOf 32 (field b (8 + 4 * i) 4)
      decide (-524288 ≤ x) && decide (x ≤ 524287))

/-- DDC k uses bank `b` (2 or 3): its response, its fade, its slot, a configuration that it has in force or has taken, or an accepted
commit that is not in force (R226). -/
def State.bankUsed (s : State) (c k b : Nat) : Bool :=
  let d := s.ddc c k
  let i := 0x2300 + 16 * c + k
  (d.on && (d.resp.source == b || (d.fade.map (fun f => f.old.source == b || f.new.source == b)).getD false
      || (d.slot.map (fun r => r.1.source == b)).getD false || (d.taken (d.nextEnd (s.ddcBase c k))).any (fun g => (s.ddcShape g.2 c k).resp.source == b)))
    || (s.ctl.pours.takeWhile (fun p => p.number != s.pourOf (ddcBlock c k))).any (fun p =>
      s.cfgOn p.number i 1 && s.cfg p.number i 7 == b)

/-- DDC_BANK_WRITE: bank A (false) or B of DDC k (R226, R227). -/
def execDdcBankWrite (r : Requester) (c : Ch) (k : DdcIx) (bank : Bool) (image : List Byte) (s : State) : Out State :=
  s.guarded (fun s =>
    let index := (if bank then 0x230A else 0x2309) + 16 * c.val
    s.mayWrite r (keyOf index (k.val + 1)) (fun s =>
      if !bankImageOk image then s.refuse r 0x06090030 (keyOf index (k.val + 1))
      else if s.bankUsed c k (if bank then 3 else 2) then s.refuse r 0x08000020 (keyOf index (k.val + 1))
      else s.putVal index (k.val + 1) (.bytes image)))

end Sys2Proof.Machine
end

