-- ==== Sys2Proof/Machine/DensityOps.lean ====
section
/-! DEFINITION. The density engine: periods, counters, the drain pass and its records (R318-R331, R344). -/

namespace Sys2Proof.Machine

/-- Channel c's density engine. -/
def State.density (s : State) (c : Nat) : Dens := Tab.get (fun _ => Dens.off) s.dens c

/-- It changed by `f`. -/
def State.modDensity (s : State) (c : Nat) (f : Dens → Dens) : State :=
  { s with dens := Tab.modify (fun _ => Dens.off) s.dens c f }

/-- Its block. -/
def densBlock (c : Nat) : BlockId := .density (Fin.ofNat 4 c)

/-! ### Periods (R322) -/

/-- Index of the period of length ta that holds an instant, at full precision. -/
def periodOf (ta : Nat) (t : T96) : Nat := t.toNat * 1000000000 / (ta * t96PerSecond)

/-- The first T96 instant at or after a number of nanoseconds since the epoch. -/
def instantAfter (ns : Nat) : T96 := BitVec.ofNat 96 ((ns * t96PerSecond + 999999999) / 1000000000)

/-- The first T96 instant of period k. -/
def periodStart (ta k : Nat) : T96 := instantAfter (k * ta)

/-- The T96 that a record gives for a number of nanoseconds: the nearest one (log entry 2). -/
def instantOf (ns : Nat) : T96 := BitVec.ofInt 96 (roundDiv (ns * t96PerSecond : Nat) 1000000000)

/-- What a configuration gives the engine (R320): level bottom, step, levels, source columns. -/
def State.densGrid (s : State) (p : U32) (c : Nat) : Int × Nat × Nat × Nat :=
  let i := 0x2600 + 16 * c
  (s.cfgInt p i 4, s.cfg p i 5, s.cfg p i 3, 2 ^ s.cfg p (0x2401 + 16 * c) 2 / 2)

/-- The hop of the density transform that the engine's configuration names, times the stride (R319). -/
def State.densStep (s : State) (p : U32) (c : Nat) : Nat :=
  (s.sideShape p c .density).2.2.1 * 2 ^ s.cfg p (0x2600 + 16 * c) 8

/-- The first instant of the present period, in nanoseconds. -/
def Dens.begin (d : Dens) : Nat := d.from'.getD (d.k * d.ta)

/-- The density frames of the present period that pass the stride (R327). -/
def State.framesExpected (s : State) (c : Nat) (d : Dens) : Nat :=
  let step := s.densStep d.pour c
  let n0 := s.indexAt c (instantAfter d.begin)
  let n1 := s.indexAt c (periodStart d.ta (d.k + 1))
  ceilTo step n1 / step - ceilTo step n0 / step

/-! ### Counters (R320, R321, R323) -/

/-- A counter of an array. -/
def counterAt (a : Tab Nat) (k : Nat) : Nat := Tab.get (fun _ => 0) a k

/-- An array with n added to a counter, saturating. -/
def addCounter (a : Tab Nat) (k n : Nat) : Tab Nat := Tab.modify (fun _ => 0) a k (fun v => min 65535 (v + n))

/-- The level index of an L16 level (R320). -/
def levelIndex (bottom : Int) (step levels : Nat) (l : Int) : Nat :=
  (clampInt 0 ((levels : Int) - 1) ((l - bottom).fdiv step)).toNat

/-- The array after a frame. -/
def hitFrame (a : Tab Nat) (bottom : Int) (step levels w : Nat) (cols : List Int) : Tab Nat :=
  (cols.zipIdx).foldl (fun a ((l, j) : Int × Nat) => addCounter a (1024 * j + levelIndex bottom step levels l) w) a

/-- The array seeded with ⌊f · v / 65,536⌋ of every counter of another one (R323, R331). -/
def seedArray (a : Tab Nat) (f : Nat) (from' : Tab Nat) : Tab Nat :=
  from'.foldl (fun a (e : Nat × Nat) => addCounter a e.1 (f * e.2 / 65536)) a

/-- Counters of an array that read 65,535. -/
def saturated (a : Tab Nat) : Nat := (a.filter (fun e => e.2 == 65535)).length

/-! ### Closing a period -/

/-- The present period closed at an instant: the arrays swap and a pass begins, with the factor that seeds the next period
(R323). -/
def State.closePeriod (s : State) (c : Nat) (stop : T96) (flags : Nat) (seed : Option Nat) : State :=
  let d := s.density c
  let expected := s.framesExpected c d
  let flags := d.flags ||| flags ||| (if d.frames < expected then 1 else 0)
  let r : Drain := { k := d.k, ta := d.ta, start := instantOf d.begin, stop := stop, frames := d.frames, skipped := d.skipped, expected := expected
                     flags := flags, pour := d.pour, cols := d.cols, mark := d.mark, seed := seed, begun := s.now }
  let s := s.modDensity c (fun d => { d with
    active := [], readout := d.active, drain := some r, late := false, clear := false, frames := 0, skipped := 0, flags := 0
    mark := Mark.empty })
  let j := 0x2601 + 16 * c
  ((s.putLive j 4 d.frames).putLive j 5 d.skipped).putLive j 6 (saturated d.active)

/-- A period opened, which updates the group 0x2601 (R347): its index and length, its pour and columns, and its first instant where that is not on its grid. -/
def State.openPeriod (s : State) (c : Nat) (p : U32) (k : Nat) (from' : Option Nat) (flags : Nat) : State :=
  let (_, _, _, cols) := s.densGrid p c
  let s := s.modDensity c (fun d => { d with
    started := true, k := k, ta := s.cfg p (0x2600 + 16 * c) 2, pour := p, cols := cols, from' := from', flags := flags })
  let j := 0x2601 + 16 * c
  ((s.putLive j 2 (k % 2 ^ 64)).putLive j 3 1).showGroup j

/-- The boundary that ends the present period: the swap, and the period that starts there under the configuration in force
(R323, R328). A configuration that disables the engine ends it. -/
def State.swapPeriod (s : State) (c : Nat) : State :=
  let d := s.density c
  let p := s.pourOf (densBlock c)
  let b := (d.k + 1) * d.ta
  let i := 0x2600 + 16 * c
  let fresh := d.clear || s.densGrid d.pour c != s.densGrid p c
  let a := s.cfg p i 7
  let s := s.closePeriod c (instantOf b) 0 (if fresh then none else some (256 * a))
  if s.cfgOn p i 1 then
    let ta := s.cfg p i 2
    let short := ta ≠ d.ta ∧ b % ta ≠ 0
    s.openPeriod c p (b / ta) (if short then some b else none)
      ((if short then 2 else 0) + (if fresh then 4 else 0))
  else ((s.modDensity c (fun d => { d with on := false, started := false })).putLive (0x2601 + 16 * c) 3 0).showGroup (0x2601 + 16 * c)

/-! ### The drain pass (R323, R326) -/

/-- Record n of a pass: columns from n · G on (R344). -/
def State.densityRecord (s : State) (c : Nat) (d : Dens) (r : Drain) (n : Nat) : Rec :=
  let i := 0x2600 + 16 * c
  let (bottom, step, _, _) := s.densGrid r.pour c
  let g := s.cfg r.pour i 9
  let lo := s.cfg r.pour i 0x0A
  let levels := s.cfg r.pour i 0x0B - lo + 1
  let cols := min g (r.cols - n * g)
  let counts := (List.range cols).flatMap (fun j =>
    (List.range levels).map (fun l => counterAt d.readout (1024 * (n * g + j) + lo + l)))
  { typ := 0x17, chan := c, source := 0, prog := 0
    time := r.start, stop := r.stop, fields := []
    payload := leBytes 8 r.k ++ leBytes 8 r.ta ++ leBytes 12 r.stop.toNat ++ leBytes 2 (n * g) ++ leBytes 2 cols ++ leBytes 2 lo
      ++ leBytes 2 levels ++ leBytes 4 r.expected ++ leBytes 4 r.frames ++ leBytes 4 r.skipped
      ++ leBytes 4 (counts.filter (· == 65535)).length ++ leBytes 2 step ++ leBytes 2 (bitsOf 16 bottom)
      ++ leBytes 2 (s.cfg r.pour i 7) ++ leBytes 2 (s.cfg r.pour i 6) ++ leBytes 1 (s.cfg r.pour i 8) ++ leBytes 1 r.flags
      ++ leBytes 2 ((r.cols + g - 1) / g) ++ counts.flatMap (leBytes 2)
    mark := r.mark, cfgPour := r.pour }

/-- The pass over the readout array, to its end: the records, the seed and the clearing (R323-R326). -/
def State.finishDrain (s : State) (c : Nat) : State :=
  let d := s.density c
  match d.drain with
  | none => s
  | some r =>
    let i := 0x2600 + 16 * c
    let g := s.cfg r.pour i 9
    let s := (List.range ((r.cols + g - 1) / g)).foldl (fun s n =>
      let rec' := s.densityRecord c d r n
      (s.densityRunners r.pour c).foldl (fun s m => s.publish m rec') s) s
    let s := s.modDensity c (fun d => { d with
      active := match r.seed with | some f => seedArray d.active f d.readout | none => d.active
      readout := [], drain := none })
    s.putLive (0x2601 + 16 * c) 7 (unitsToNs (t96Diff s.now r.begun)).toNat

/-! ### Frames (R319, R320, R329) -/

/-- A frame taken into the present period. -/
def State.takeFrame (s : State) (c : Nat) (f : LFrame) : State :=
  let d := s.density c
  let i := 0x2600 + 16 * c
  let q := 2 ^ s.cfg d.pour i 8
  if f.s0 / f.hop % q ≠ 0 then s
  else if !f.valid then s.modDensity c (fun d => { d with skipped := d.skipped + 1 })
  else if f.levels.length != d.cols then
    s.modDensity c (fun d => { d with
      skipped := d.skipped + 1, mark := { d.mark with mixed := d.mark.mixed || f.mark.outMixed d.pour } })
  else
    let (bottom, step, levels, _) := s.densGrid d.pour c
    s.modDensity c (fun d => { d with
      active := hitFrame d.active bottom step levels (s.cfg d.pour i 6) f.levels
      frames := d.frames + 1, mark := d.mark.join f.mark })

/-- The oldest frame leaves the queue. -/
def State.popDensity (s : State) (c : Nat) : State := s.modDensity c (fun d => { d with queue := d.queue.drop 1 })

end Sys2Proof.Machine
end

