-- ==== Sys2Proof/Machine/Density.lean ====
section
/-! DEFINITION. Commands of the density engines, and their stops and restarts (R318-R331). -/

namespace Sys2Proof.Machine

/-- A frame that begins at t comes before the retained arrays accept an access (R331, R396). -/
def Dens.asleep (d : Dens) (t : T96) : Bool := d.retained && (d.wakeAt.map (fun (w : T96) => decide (t.toNat < w.toNat))).getD true

/-- An instant is at or after the engine's stop. -/
def Dens.stopped (d : Dens) (t : T96) : Bool := (d.stop.map (fun (ts : T96) => decide (ts.toNat ≤ t.toNat))).getD false

/-- DENSITY_ACCUMULATE: the oldest frame enters the present period, or opens the first one; one that starts after the period's end waits
for the boundary (R319, R320, R322). A stopped engine takes only the frames that precede its stop, and passes over those that begin
before its retention wakes (R330, R331). -/
def execDensityAccumulate (c : Ch) (s : State) : Out State :=
  s.guarded (fun s =>
    let d := s.density c
    match d.queue with
    | [] => s
    | f :: _ =>
      if !d.on then s
      else if d.stopped f.t0 then (if d.asleep f.t0 then s.popDensity c else s)
      else if !d.started then
        let p := s.pourOf (densBlock c)
        ((s.openPeriod c p (periodOf (s.cfg p (0x2600 + 16 * c) 2) f.t0) none 0).takeFrame c f).popDensity c
      else if d.k < periodOf d.ta f.t0 ∧ !d.late then s
      else (s.takeFrame c f).popDensity c)

/-- The end of the present period has been reached: by the oldest frame that waits, or, where none comes before it, by the time, but by no
instant after a stop (R322, R330). -/
def State.periodDue (s : State) (c : Nat) : Bool :=
  let d := s.density c
  match d.queue.head?.filter (fun f => !d.stopped f.t0) with
  | some f => decide (d.k < periodOf d.ta f.t0)
  | none =>
    let e := periodStart d.ta (d.k + 1)
    decide (e.toNat ≤ s.now.toNat) && (d.stop.map (fun (ts : T96) => decide (e.toNat ≤ ts.toNat))).getD true

/-- DENSITY_PERIOD_BOUNDARY: the period ends, or, while a pass still runs, goes on until the pass is done (R323, R324). A boundary that
precedes a stop is passed after it too (R330). -/
def execDensityPeriodBoundary (c : Ch) (s : State) : Out State :=
  s.guarded (fun s =>
    let d := s.density c
    if !d.on || !d.started || d.late || !s.periodDue c then s
    else if d.drain.isSome then
      ((s.modDensity c (fun d => { d with late := true, flags := d.flags ||| 8 })).bumpLive (0x2601 + 16 * c) 8).report
        { severity := 2, subsys := 9, kind := 7, element := elementOf c 0 }
    else s.swapPeriod c)

/-- DENSITY_DRAIN_COMPLETE: the pass is over, and a swap that waited for it takes place (R323, R324). A pass in retention is
paused (R330). -/
def execDensityDrainComplete (c : Ch) (s : State) : Out State :=
  s.guarded (fun s =>
    if (s.density c).retained then s
    else
      let late := (s.density c).late
      let s := s.finishDrain c
      if late then s.swapPeriod c else s)

/-- DENSITY_CLEAR: the next boundary starts persistence again (R328). -/
def execDensityClear (r : Requester) (c : Ch) (s : State) : Out State :=
  s.guarded (fun s => s.mayWrite r (keyOf (0x2600 + 16 * c) 0x0D)
    (fun s => s.modDensity c (fun d => { d with clear := true })))

/-- a^m / 256^m in 1/65,536, rounded to nearest, ties to even (R331). -/
def persistenceFactor (a m : Nat) : Nat := (roundDiv ((a ^ m * 65536 : Nat) : Int) (256 ^ m)).toNat

/-- Every boundary before a stop passed, and every pass over, so that the present period is k_s, that of the stop (R331). -/
def State.passPeriods (s : State) (c : Nat) (ts : T96) : State :=
  let d := s.density c
  let late := d.late
  let s := s.finishDrain c
  let s := if late then (s.swapPeriod c).finishDrain c else s
  (List.range (periodOf d.ta ts - (s.density c).k)).foldl (fun s _ =>
    if (s.density c).k < periodOf (s.density c).ta ts ∧ (s.density c).started then (s.swapPeriod c).finishDrain c else s) s

/-- The period of a stop closed at a restart in a later one (R331). -/
def State.closeStopped (s : State) (c : Nat) (ts : T96) (f : LFrame) (flags : Nat) : State :=
  let s := s.passPeriods c ts
  let d := s.density c
  let p := s.pourOf (densBlock c)
  let i := 0x2600 + 16 * c
  let fresh := d.clear || s.densGrid d.pour c != s.densGrid p c
  let m := periodOf d.ta f.t0 - d.k
  let s := s.closePeriod c ts (flags ||| 1) (if fresh then none else some (persistenceFactor (s.cfg p i 7) m))
  s.openPeriod c p (periodOf (s.cfg p i 2) f.t0) none (if fresh then 4 else 0)

/-- DENSITY_RESTART: the first frame after the stop, and after the wake delay of the retention, restarts accumulation (R331). -/
def execDensityRestart (c : Ch) (s : State) : Out State :=
  s.guarded (fun s =>
    let d := s.density c
    match d.stop, d.queue with
    | some ts, f :: _ =>
      if !d.stopped f.t0 || d.asleep f.t0 || !(s.chan c).delivers then s
      else
        let flag := if d.retained then 16 else 0
        let s := (s.modDensity c (fun d => { d with stop := none, retained := false, wakeAt := none })).restartRunners
          (s.densityRunners (if d.started then d.pour else s.pourOf (densBlock c)) c) f.t0
        let s := if !d.started then s
          else if d.k < periodOf d.ta f.t0 then s.closeStopped c ts f flag
          else s.modDensity c (fun d => { d with flags := d.flags ||| 1 ||| flag })
        s.showState (0x2601 + 16 * c) 3 1
    | _, _ => s)

/-! ### Stops (R330) -/

/-- The engine stops at an instant; in Q3 its arrays are retained. -/
def State.stopDensity (s : State) (c : Nat) (t : T96) (cause : Nat) (fault retained : Bool) : State :=
  let d := s.density c
  if !d.on then s
  else
    let s := s.modDensity c (fun d => { d with
      stop := some (d.stop.getD t), retained := d.retained || retained, wakeAt := if retained then none else d.wakeAt })
    (s.showState (0x2601 + 16 * c) 3 (if d.retained || retained then 2 else 3)).stopRunners
      (s.densityRunners (if d.started then d.pour else s.pourOf (densBlock c)) c) t cause fault

/-- Q3 ends: the arrays accept their first access after the wake delay of 4 µs (R331, R396). -/
def State.wakeDensity (s : State) (c : Nat) : State :=
  s.modDensity c (fun d => if d.retained then { d with wakeAt := some (t96Add s.now (nsToT96 4000)) } else d)

/-- An engine that a configuration turns on starts with the next frame; one that it turns off runs to its next boundary (R27,
R328). -/
def State.switchDensity (s : State) (c : Nat) (new : U32) : State :=
  let s := if s.cfgOn new (0x2600 + 16 * c) 1 then s.modDensity c (fun d =>
      if d.on then d else { d with on := true, started := false, queue := [], active := [], readout := [] })
    else if (s.density c).started || !(s.density c).on then s
    else (s.modDensity c (fun _ => Dens.off)).showState (0x2601 + 16 * c) 3 0
  s

end Sys2Proof.Machine
end

