-- ==== Sys2Proof/Machine/Trigger.lean ====
section
/-! DEFINITION. Trigger units: conditions, runs, qualifiers, sequences, decisions and the MON pins (chapter 07). -/

namespace Sys2Proof.Machine

/-- Trigger unit u of the device. -/
def State.trig (s : State) (u : Nat) : Trig := Tab.get (fun _ => Trig.idle) s.trigs u

/-- It changed by `f`. -/
def State.modTrig (s : State) (u : Nat) (f : Trig → Trig) : State :=
  { s with trigs := Tab.modify (fun _ => Trig.idle) s.trigs u f }

/-- The entry index of unit U, and the configuration that it evaluates under. -/
def trigIndex (u : Nat) : Nat := 0x2500 + 16 * (u / 4) + u % 4
def State.tcfg (s : State) (u sub : Nat) : Nat := s.cfg (s.trig u).pour (trigIndex u) sub
def State.tcfgInt (s : State) (u sub : Nat) : Int := s.cfgInt (s.trig u).pour (trigIndex u) sub

/-! ### Conditions (R288-R293) -/

/-- How far column j of level l lies beyond its mask, where it violates (R288, R507). -/
def maskExcess (mode : Nat) (image : List Byte) (j : Nat) (l : Int) : Option Int :=
  let up := l - signedOf 16 (field image (8 + 4 * j) 2)
  let lo := signedOf 16 (field image (10 + 4 * j) 2) - l
  let e := if mode = 0 then up else if mode = 1 then lo else max up lo
  if 0 < e then some e else none

/-- Violating columns in [jlo, jhi] of a frame: column, level and excess (R288). -/
def violations (mode : Nat) (image : List Byte) (jlo jhi : Nat) (levels : List Int) : List (Nat × Int × Int) :=
  (levels.zipIdx).filterMap (fun (l, j) =>
    if jlo ≤ j ∧ j ≤ jhi then (maskExcess mode image j l).map (fun e => (j, l, e)) else none)

/-- The peak among violating columns: the greatest excess, the lowest column among equals (R507). -/
def peakOf (vs : List (Nat × Int × Int)) : Nat × Int :=
  let best := vs.foldl (fun (a : Option (Nat × Int × Int)) v => match a with
    | none => some v
    | some b => if b.2.2 < v.2.2 then some v else some b) none
  match best with
  | some (j, l, _) => (j, l)
  | none => (0, 0)

/-- A mask condition with what its record says (R288, R311). -/
def State.maskCond (s : State) (u : Nat) (levels : List Int) : Bool × TrigInfo :=
  let p := (s.trig u).pour
  let vs := violations (s.tcfg u 3) (s.cfgData p (trigIndex u) 0x1C) (s.tcfg u 5) (s.tcfg u 6) levels
  let pk := peakOf vs
  (decide (s.tcfg u 4 ≤ vs.length),
    { TrigInfo.zero with peak := pk.2, peakCol := pk.1, firstCol := (vs.head?.map Prod.fst).getD 0
                         lastCol := (vs.getLast?.map Prod.fst).getD 0, cols := vs.length })

/-- Hits of one frame (R291). -/
def State.hitsOf (s : State) (u : Nat) (levels : List Int) : Nat :=
  ((levels.zipIdx).filter (fun (l, j) => decide (s.tcfg u 5 ≤ j) && decide (j ≤ s.tcfg u 6)
    && decide (s.tcfgInt u 7 ≤ l) && decide (l < s.tcfgInt u 8))).length

/-- The condition of a value under threshold and hysteresis (R292). -/
def valueCond (sense : Nat) (now : Bool) (v t h : Int) : Bool :=
  if sense = 0 then (if now then !decide (v < t - h) else decide (t ≤ v))
  else (if now then !decide (t + h < v) else decide (v ≤ t))

/-! ### Runs (R295) -/

/-- One evaluation: its index, instant, spacing, condition and description. -/
structure Point where
  ix      : Nat
  t       : T96
  spacing : Nat
  cond    : Bool
  info    : TrigInfo
  mark    : Mark

/-- A unit after an evaluation, with the candidate that it produces (R295). -/
def Trig.point (g : Trig) (mode t1 t2 : Nat) (p : Point) : Trig × Option Cand :=
  let cand (r : TrigRun) (d : Nat) : Cand :=
    { nT := r.nT, t := r.t, evalIx := p.ix, dur := d, info := p.info, mark := r.mark.join p.mark, qualified := false, pour := g.pour }
  let g := { g with cond := p.cond, upTo := p.t }
  if p.cond then
    let r : TrigRun := match g.run with
      | none => { nT := p.ix, t := p.t, count := 1, info := p.info, mark := p.mark, done := false }
      | some r => { r with count := r.count + 1, mark := r.mark.join p.mark }
    let d := r.count * p.spacing
    let fire := !r.done && (mode == 0 || (mode == 1 && decide (t1 ≤ d)))
    let dismiss := mode == 3 && decide (t2 ≤ d)
    ({ g with run := some { r with done := r.done || fire || dismiss } }, if fire then some (cand r d) else none)
  else
    match g.run with
    | none => (g, none)
    | some r =>
      let d := r.count * p.spacing
      let fire := !r.done && ((mode == 2 && decide (d < t1)) || (mode == 3 && decide (t1 ≤ d) && decide (d < t2)))
      ({ g with run := none }, if fire then some (cand r d) else none)

/-- An evaluation of unit U put in: its candidate waits in the queue (R295). -/
def State.evaluate (s : State) (u : Nat) (p : Point) : State :=
  let (g, c) := (s.trig u).point (s.tcfg u 0x0F) (s.tcfg u 0x10) (s.tcfg u 0x11) p
  s.modTrig u (fun _ => { g with cands := g.cands ++ c.toList })

/-- An invalid input ends a run without a candidate, and the next evaluation starts afresh (R296). -/
def State.invalidInput (s : State) (u : Nat) : State :=
  (s.modTrig u (fun g => { g with run := none, cond := false, prev := false })).bumpLive (0x2508 + 16 * (u / 4)) (0x0A + u % 4)

/-- The sum and the joined mark of what a unit evaluates together (R287, R291, R311). -/
def together (l : List (Nat × Mark)) : Nat × Mark := l.foldl (fun a v => (a.1 + v.1, a.2.join v.2)) (0, Mark.empty)

/-- A power window with one more square, and its sum and mark; nothing until it is full (R287). -/
def State.pushWindow (s : State) (u sq w : Nat) (mark : Mark) : State × Option (Nat × Mark) :=
  let l := ((sq, mark) :: (s.trig u).window).take w
  (s.modTrig u (fun g => { g with window := l }), if l.length = w then some (together l) else none)

/-- A frame evaluated by a mask or density unit (R286, R288, R291, R304). -/
def State.evalFrame (s : State) (u : Nat) (f : LFrame) : State :=
  if !f.valid then s.invalidInput u
  else
    let n := f.s0 + f.n / 2
    let t := s.sampleTime (u / 4) n
    if s.tcfg u 1 = 1 then
      let (c, i) := s.maskCond u f.levels
      s.evaluate u { ix := n, t := t, spacing := f.hop, cond := c, info := i, mark := f.mark }
    else
      let s := s.modTrig u (fun g => { g with hits := ((s.hitsOf u f.levels, f.mark) :: g.hits).take (s.tcfg u 9) })
      let (h, mark) := together (s.trig u).hits
      s.evaluate u { ix := n, t := t, spacing := f.hop, cond := decide (s.tcfg u 0x0A ≤ h)
                     info := { TrigInfo.zero with hits := h }, mark := mark }

/-- A value compared with the threshold (R292). -/
def State.evalValue (s : State) (u n : Nat) (t : T96) (spacing : Nat) (v : Int) (mark : Mark) : State :=
  let c := valueCond (s.tcfg u 0x0D) (s.trig u).cond v (s.tcfgInt u 0x0B) (s.tcfg u 0x0C)
  s.evaluate u { ix := n, t := t, spacing := spacing, cond := c, info := { TrigInfo.zero with value := v }, mark := mark }

/-- The samples of a conditioner frame evaluated by a raw unit, one by one, each with the time steps before it (R137, R286, R287). -/
def State.evalSamples (s : State) (u s0 : Nat) (q : List Int) (mark : Mark) : State :=
  (q.zipIdx).foldl (fun s ((x, i) : Int × Nat) =>
    let n := s0 + i
    let t := s.sampleTime (u / 4) n
    let k := s.stepsBefore (u / 4) n
    let mark := { mark with steps := some (k, k) }
    if s.tcfg u 1 = 3 then s.evalValue u n t 1 x mark
    else
      let w := 2 ^ s.tcfg u 0x0E
      match s.pushWindow u (x * x).toNat w mark with
      | (s, some (sum, mark)) => s.evalValue u n t 1 (detectorLevel (2 * sum) (w * 256 * 2048 ^ 2)) mark
      | (s, none) => s.modTrig u (fun g => { g with upTo := t })) s

/-- A DDC output evaluated by a DDC unit (R286, R287, R293). -/
def State.evalOutput (s : State) (u d : Nat) (o : DdcOut) (t : T96) : State :=
  if !o.valid then s.invalidInput u
  else if s.tcfg u 1 = 5 then
    let g := s.trig u
    let cond := if s.tcfg u 0x0D = 0 then o.above else if o.above then false else g.prev || g.cond
    let s := s.modTrig u (fun g => { g with prev := o.above })
    s.evaluate u { ix := o.label.toNat, t := t, spacing := d, cond := cond
                   info := { TrigInfo.zero with value := o.level }, mark := o.mark }
  else
    let w := 2 ^ s.tcfg u 0x0E
    match s.pushWindow u (o.i * o.i + o.q * o.q).toNat w o.mark with
    | (s, some (sum, mark)) => s.evalValue u o.label.toNat t d (detectorLevel sum (w * 2 ^ 38 * 2048 ^ 2)) mark
    | (s, none) => s.modTrig u (fun g => { g with upTo := t })

/-! ### Decisions (R297-R302, R310, R311) -/

/-- An entry of the configuration that a candidate was evaluated under: it is decided under that one (R24). -/
def State.ccfg (s : State) (u : Nat) (c : Cand) (sub : Nat) : Nat := s.cfg c.pour (trigIndex u) sub

/-- A candidate that is not delivered (R297, R298, R301). -/
def State.heldOff (s : State) (u : Nat) : State := s.bumpLive (0x2508 + 16 * (u / 4)) (6 + u % 4)

/-- The payload of a decision record (R507). -/
def Cand.payload (c : Cand) (a : Option (Nat × Nat)) : List Byte :=
  leBytes 8 c.dur ++ leBytes 2 (bitsOf 16 c.info.peak) ++ leBytes 2 c.info.peakCol ++ leBytes 2 c.info.firstCol
    ++ leBytes 2 c.info.lastCol ++ leBytes 2 c.info.cols ++ leBytes 2 0 ++ leBytes 4 c.info.hits
    ++ leBytes 4 (bitsOf 32 c.info.value) ++ leBytes 1 ((a.map Prod.fst).getD 0xFF) ++ leBytes 3 0
    ++ leBytes 8 ((a.map Prod.snd).getD 0)

/-- A decision: counted, kept for B stages, to the capture controller and the MON pins, and to its runner (R310, R311). -/
def State.decide' (s : State) (u : Nat) (c : Cand) (a : Option (Nat × Nat)) : State :=
  let j := 0x2508 + 16 * (u / 4)
  let n := s.liveNum j (2 + u % 4)
  let p := c.pour
  let s := (s.bumpLive j (2 + u % 4)).putLive j (0x12 + u % 4) (c.nT % 2 ^ 64)
  let s := if (s.ccfg u c 0x19).testBit 0 then
      (upTo 4).foldl (fun s m => if s.cur 0x2580 (m + 1) = u + 1 then
        { s with mons := Tab.modify (fun _ => Mon.rest) s.mons m (fun q => { q with waiting := q.waiting + 1 }) } else s)
        (s.offerDecision { unit := u, number := n, nT := c.nT, t := c.t })
    else s
  let ns := if (s.ccfg u c 0x19).testBit 1 then (s.cfgRunner p (trigIndex u) 0x1A).filter (fun r => s.isRecordRunner r) else []
  let s := ns.foldl (fun s r => s.publish r {
    typ := 0x16, chan := u / 4, source := u, prog := 0, time := c.t, stop := s.sampleTime (u / 4) (c.evalIx + 1)
    fields := leBytes 8 c.nT ++ leBytes 8 c.evalIx ++ leBytes 1 (s.ccfg u c 1) ++ leBytes 1 (s.ccfg u c 2)
      ++ leBytes 1 (s.ccfg u c 0x0D)
    payload := c.payload a, mark := c.mark, cfgPour := p }) s
  let seq := ns.head?.map (fun r => ((s.runner r).nextSeq - 1).toNat)
  s.modTrig u (fun g => { g with last := some c.nT, made := (c.t, c.nT, n, seq) :: g.made })

/-- The hold-off (R297). -/
def State.deliverCand (s : State) (u : Nat) (c : Cand) (a : Option (Nat × Nat)) : State :=
  if ((s.trig u).last.map (fun l => decide (c.nT < l + s.ccfg u c 0x12))).getD false then s.heldOff u else s.decide' u c a

/-- Whether a − b reaches a number of picoseconds, and stays below one. -/
def reachesPs (a b : T96) (ps : Nat) : Bool := decide ((ps : Int) * 2 ^ 48 ≤ t96Diff a b * 1000000000000)

/-- The governing A decision of a candidate at t: the latest with t_A + d_min ≤ t (R301). -/
def State.governing (s : State) (u a : Nat) (c : Cand) : Option (T96 × Nat × Nat × Option Nat) :=
  (s.trig a).made.find? (fun m => reachesPs c.t m.1 (s.ccfg u c 0x16))

/-- A qualified candidate of a B stage decided (R301). An A decision of which no record was written has no sequence number: the
record of B then carries a free value (R311). -/
def State.sequence (s : State) (u : Nat) (c : Cand) : State :=
  let a := s.ccfg u c 0x15
  match s.governing u a c with
  | none => s.heldOff u
  | some (tA, _, n, seq) =>
    let dmax := s.ccfg u c 0x17
    let inside := dmax == 0xFFFFFFFFFFFFFFFF || !reachesPs c.t tA dmax
    let first := s.ccfg u c 0x18 == 1 || !(s.trig u).usedA.contains (a, n)
    let num := seq.getD (s.fresh % 2 ^ 64)
    let s := if seq.isNone then s.drew else s
    if inside && first then (s.modTrig u (fun g => { g with usedA := (a, n) :: g.usedA })).deliverCand u c (some (a, num))
    else s.heldOff u

/-- The oldest candidate leaves the queue. -/
def State.popCand (s : State) (u : Nat) : State := s.modTrig u (fun g => { g with cands := g.cands.drop 1 })

/-- The state shown in 0x2508.0E: 2 while a candidate waits (R317). -/
def State.showTrig (s : State) (u : Nat) : State :=
  let g := s.trig u
  s.putLive (0x2508 + 16 * (u / 4)) (0x0E + u % 4) (if !g.cands.isEmpty then 2 else if g.cond then 1 else 0)

/-- The oldest candidate is decided at once where it waits for neither a qualifier nor an A. -/
def State.settleOne (s : State) (u : Nat) : State :=
  match (s.trig u).cands with
  | [] => s
  | c :: _ =>
    if (s.ccfg u c 0x13 = 0 ∨ c.qualified) ∧ s.ccfg u c 0x14 = 0 then (s.popCand u).deliverCand u c none else s

/-- Every candidate that waits for nothing is decided, oldest first. -/
def State.settleTrig (s : State) (u : Nat) : State :=
  ((List.range (s.trig u).cands.length).foldl (fun s _ => s.settleOne u) s).showTrig u

/-! ### Configuration and restarts (R294, R313, R314) -/

/-- A unit reset: the run, the counts, the window and the hold-off; decisions that opened windows are kept (R294, R314), and so is
the DDC's threshold state at the latest output, from which R293 takes a change. -/
def State.resetTrig (s : State) (u : Nat) : State :=
  (s.modTrig u (fun g => { Trig.idle with
    pour := g.pour, next := g.next, queue := g.queue, prev := g.prev, made := g.made, usedA := g.usedA, cands := g.cands
    upTo := g.upTo })).showTrig u

/-- Entries of a unit a change of which resets it: all but the mask image, T, h, M, C and the hold-off (R313). -/
def resettingSubs : List Nat := [1, 2, 3, 5, 6, 7, 8, 9, 0x0D, 0x0E, 0x0F, 0x10, 0x11, 0x13, 0x14, 0x15, 0x16, 0x17, 0x18, 0x19, 0x1A]

/-- The unit takes its next configuration: it is reset after a stop, and where more changes than R313 lets pass. -/
def State.takeTurn (s : State) (u : Nat) (e : TrigTurn) : State :=
  let i := trigIndex u
  let old := (s.trig u).pour
  let same (l : List Nat) : Bool := l.all (fun b => s.cfg old i b == s.cfg e.pour i b)
  let s := s.modTrig u (fun g => { g with pour := e.pour, next := g.next.drop 1, prev := g.prev && same [1, 2] })
  if e.stop || !same resettingSubs then s.resetTrig u else s

/-- The unit takes every configuration that governs the input at sample n. -/
def State.turnTo (s : State) (u n : Nat) : State :=
  ((s.trig u).next.filter (fun e => decide (e.start ≤ n))).foldl (fun s e => s.takeTurn u e) s

/-- The sample at which an input is taken. -/
def TrigIn.sample : TrigIn → Nat
  | .frame f => f.s0
  | .samples s0 _ _ _ => s0
  | .output n _ _ _ => n

/-- No input before sample n waits for the unit, or is still to come from its source. -/
def State.unitAt (s : State) (u n : Nat) : Bool :=
  let c := u / 4
  let x := s.xf c
  let k := s.tcfg u 2
  let come := match s.tcfg u 1 with
    | 0 => true
    | 1 | 2 => decide (n ≤ if k = 1 then x.nextDens else x.nextTrig)
    | 3 | 4 => decide (n ≤ (s.chan c).counter)
    | _ => !(s.ddc c k).on || decide (n ≤ (s.ddc c k).nextEnd (s.ddcBase c k))
  (s.trig u).queue.all (fun i => decide (n ≤ i.sample)) && (!(s.chan c).on || come)

/-- The unit takes the configurations whose boundaries it has reached. -/
def State.ripenTrig (s : State) (u : Nat) : State :=
  (s.trig u).next.foldl (fun s e => if (s.trig u).next.head? = some e && s.unitAt u e.start then s.takeTurn u e else s) s

/-- A configuration for the unit's first input from sample n on. -/
def State.addTurn (s : State) (u n : Nat) (p : U32) (stop : Bool) : State :=
  (s.modTrig u (fun g => { g with
    next := g.next ++ [{ start := (g.next.getLast?.map (fun e => max n e.start)).getD n, pour := p, stop := stop }] })).ripenTrig u

/-- The boundary at or after sample n at which a unit takes a pour: the next frame of the source that it names for kinds 1 and 2, the next
conditioner frame for kinds 3 to 6 (R27, R313). -/
def State.trigBoundary (s : State) (u n : Nat) (new : U32) : Nat :=
  let c := u / 4
  let x := s.xf c
  match s.cfg new (trigIndex u) 1 with
  | 0 => n
  | 1 | 2 =>
    let dens := s.cfg new (trigIndex u) 2 == 1
    let (_, _, hop, _) := s.sideShape (pourAt (if dens then x.densPours else x.trigPours) n) c (if dens then .density else .trigger)
    ceilTo hop n
  | _ => ceilTo frameLen n

/-- A unit takes a pour from its boundary on (R313). -/
def State.switchTrig (s : State) (u n : Nat) (new : U32) : State := s.addTurn u (s.trigBoundary u n new) new false

/-! ### Commands -/

/-- The oldest input evaluated. An input of another kind than the unit's is passed over. -/
def State.evalInput (s : State) (u : Nat) (i : TrigIn) : State :=
  let k := s.tcfg u 1
  match i with
  | .frame f => if k = 1 ∨ k = 2 then s.evalFrame u f else s
  | .samples s0 _ q mark => if k = 3 ∨ k = 4 then s.evalSamples u s0 q mark else s
  | .output _ d o t => if k = 5 ∨ k = 6 then s.evalOutput u d o t else s

/-- TRIGGER_EVALUATION: the unit evaluates its oldest input, under the configuration that governs it (R286, R295, R296, R313). -/
def execTriggerEvaluation (u : UnitIx) (s : State) : Out State :=
  s.guarded (fun s =>
    match (s.trig u).queue with
    | [] => s
    | i :: rest =>
      let s := (s.modTrig u (fun g => { g with queue := rest })).turnTo u i.sample
      ((s.evalInput u i).settleTrig u).ripenTrig u)

/-- The state of the qualifying DDC at n_T, once it is known: that of the latest valid output with a label at or below n_T
(R298, R299). A DDC that is off has no more outputs to wait for. -/
def State.qualifierAt (s : State) (c k n : Nat) : Option Bool :=
  let d := s.ddc c k
  let known := !d.on || (d.outs.head?.map (fun o => decide ((n : Int) < o.label))).getD false
  if known then some ((d.outs.find? (fun o => o.valid && decide (o.label ≤ (n : Int)))).map DdcOut.above |>.getD false) else none

/-- TRIGGER_QUALIFIER_RESOLVED: the oldest candidate meets its qualifier or is discarded (R298, R299). -/
def execTriggerQualifierResolved (u : UnitIx) (s : State) : Out State :=
  s.guarded (fun s =>
    match (s.trig u).cands with
    | [] => s
    | c :: rest =>
      let q := s.ccfg u c 0x13
      if q = 0 ∨ c.qualified then s
      else
        match s.qualifierAt (u / 4) ((q - 1) % 8) c.nT with
        | none => s
        | some above =>
          if above == decide (q ≤ 8) then
            (s.modTrig u (fun g => { g with cands := { c with qualified := true } :: rest })).settleTrig u
          else ((s.popCand u).heldOff u).settleTrig u)

/-- Unit A evaluates inputs: one that is off, or whose channel is stopped, counts as evaluated up to now (R302). -/
def State.evaluates (s : State) (a : Nat) : Bool := (s.chan (a / 4)).delivers && s.tcfg a 1 != 0

/-- Unit A has evaluated every input up to t − d, and decided its own candidates up to there (R301, R302). -/
def State.evaluatedTo (s : State) (a : Nat) (t : T96) (d : Nat) : Bool :=
  if s.evaluates a then
    decide (t96Diff t (s.trig a).upTo * 1000000000000 ≤ (d : Int) * 2 ^ 48)
      && (s.trig a).cands.all (fun w => !reachesPs t w.t d)
  else decide (t96Diff t s.now * 1000000000000 ≤ (d : Int) * 2 ^ 48)

/-- TRIGGER_SEQUENCE_RESOLVED: A has evaluated every input up to t_B − d_min, and the oldest candidate of B is decided (R301,
R302). -/
def execTriggerSequenceResolved (u : UnitIx) (s : State) : Out State :=
  s.guarded (fun s =>
    match (s.trig u).cands with
    | [] => s
    | c :: _ =>
      if s.ccfg u c 0x14 = 0 ∨ (s.ccfg u c 0x13 ≠ 0 ∧ !c.qualified) then s
      else
        if s.evaluatedTo (s.ccfg u c 0x15) c.t (s.ccfg u c 0x16) then ((s.popCand u).sequence u c).settleTrig u
        else s)

/-- MON_PULSE_START: MONn asserts for a decision that has reached the tap; one during the pulse restarts the width (R312). -/
def execMonPulseStart (n : Fin 4) (s : State) : Out State :=
  s.guarded (fun s => { s with
    mons := Tab.modify (fun _ => Mon.rest) s.mons n (fun m =>
      if m.waiting = 0 then m else { waiting := m.waiting - 1, pulse := true }) })

/-- MON_PULSE_END: the pulse width has passed (R312). -/
def execMonPulseEnd (n : Fin 4) (s : State) : Out State :=
  s.guarded (fun s => { s with mons := Tab.modify (fun _ => Mon.rest) s.mons n (fun m => { m with pulse := false }) })

/-! ### The MON pins -/

/-- The level of pin MONn, before its polarity: a pulse, or the health condition (R312, R600). -/
def State.monPin (s : State) (n : Nat) : Bool :=
  let on := if s.cur 0x2580 (n + 1) = 0 then s.monLevel n else (Tab.get (fun _ => Mon.rest) s.mons n).pulse
  on != (s.cur 0x2580 9).testBit n

end Sys2Proof.Machine
end

