-- ==== Sys2Proof/Machine/Stops.lean ====
section
/-! DEFINITION. Stops and restarts of a channel and of every block that it feeds, and the placement of its counter on the sample
grid (R14, R23, R109, R117, R120, R145, R185-R190, R618). -/

namespace Sys2Proof.Machine

/-! ### Who is fed -/

/-- Every runner of the blocks that channel c feeds, under the configurations that they have in force. -/
def State.liveRunners (s : State) (c : Nat) : List Nat :=
  let ch : Ch := Fin.ofNat 4 c
  let x := s.pourOf .cross
  s.cfgRunner (s.pourOf (condBlock c)) (0x2200 + 16 * c) 8
    ++ (upTo 8).flatMap (fun k => s.ddcRunners (s.pourOf (ddcBlock c k)) c k)
    ++ s.mainRunners (s.pourOf (.main ch)) c ++ s.autoRunners x c ++ s.crossRunners x c
    ++ (upTo 4).flatMap (fun u => s.trigRunners (s.pourOf (trigBlock c u)) c u)
    ++ (upTo 6).flatMap (fun r => s.slotRunners (s.red c r).pour c r)
    ++ (upTo 2).flatMap (fun g => s.envRunners (s.env c g).pour c g)
    ++ s.noticeRunners (s.pourOf (capBlock c)) c

/-- Those of its main transform and its products, whose stop ends where the first frame starts (R240). -/
def State.spectrumRunners (s : State) (c : Nat) : List Nat :=
  let x := s.pourOf .cross
  s.mainRunners (s.pourOf (.main (Fin.ofNat 4 c))) c ++ s.autoRunners x c ++ s.crossRunners x c

/-- Those that restart with the channel itself: a DDC restarts at its reset and the density engine with its first frame (R219,
R331). -/
def State.restartingRunners (s : State) (c : Nat) : List Nat :=
  let late := (upTo 8).flatMap (fun k => s.ddcRunners (s.pourOf (ddcBlock c k)) c k)
  (s.liveRunners c).filter (fun n => !late.contains n && !(s.spectrumRunners c).contains n)

/-! ### Foreground calibration's end (R187) -/

/-- The channels in foreground calibration shown in 0x2F80.06. -/
def State.showFg (s : State) : State :=
  s.put 0x2F80 6 ((upTo 4).foldl (fun a c => if ((s.chan c).fg.map (fun f => f.result == 0)).getD false then a + 2 ^ c else a) 0)

/-- The outcome of a foreground calibration is known: it ends now, the isolation switch closes and the tone injector turns off. The
channel waits for its resumption (R187). -/
def State.endFg (s : State) (c code : Nat) : State :=
  let s := s.modChan c (fun h => { h with fg := h.fg.map (fun f => { f with result := code }), isolated := false, tone := none })
  ((s.put (0x2F00 + 16 * c) 0x0B code).put (0x2F00 + 16 * c) 0x0C s.now.toNat).showFg

/-! ### Calibration sets (R189-R191) -/

/-- A set that has no key. -/
def CalSet.empty : CalSet := { key := 0, elements := [], taps := [] }

/-- The stored set whose key is a rate. -/
def Chan.setOf (h : Chan) (rate : Nat) : Option (Nat × CalSet) := h.sets.find? (fun (e : Nat × CalSet) => e.2.key == rate)

/-- Elements k and 64 of a table swapped, and marked by `f` and `g`. -/
def swapSpare (els : List Element) (k : Nat) (f g : Element → Element) : List Element :=
  let a := els.getD k default
  let b := els.getD 64 default
  (els.set k (f b)).set 64 (g a)

/-- A set's elements as the slices stand now: element k is that of the slice that serves slot k, whichever served it when the set was
made (R174, R194). -/
def fitElements (els : List Element) (served : Option Nat) : List Element :=
  let plain (e : Element) : Element := { e with spare := false, retired := false }
  let base := match (upTo 64).find? (fun k => (els.getD k default).spare) with
    | some k => swapSpare els k plain plain
    | none => els.map plain
  match served with
  | some k => swapSpare base k (fun e => { e with spare := true }) (fun e => { e with retired := true })
  | none => base

/-- The active set of channel c: the one whose key is its rate, else the factory set (R190). -/
def State.activateSet (s : State) (c : Nat) : State :=
  let h := s.chan c
  match h.setOf (s.chanRate c) with
  | some (i, k) =>
    ((s.modChan c (fun h => { h with
      elements := fitElements k.elements (s.served c), taps := k.taps, factory := false, active := some i, activeKey := k.key })).put
      (0x2F00 + 16 * c) 0x0A i).showCal c
  | none =>
    ((s.modChan c (fun h => { h with
      elements := fitElements (factoryElements c) (s.served c), taps := factoryTaps c, factory := true, active := none
      activeKey := 20480000000 })).put (0x2F00 + 16 * c) 0x0A 15).showCal c

/-- A set stored: in place of one with its key, else in a free place, else in that of the set stored longest ago (R189). -/
def State.storeSet (s : State) (c : Nat) (k : CalSet) : State :=
  let h := s.chan c
  let age (i : Nat) : Nat := Tab.get (fun _ => 0) h.ages i
  let i := match h.setOf k.key with
    | some (i, _) => i
    | none =>
      match (upTo 8).find? (fun i => !h.sets.any (fun e => e.1 == i)) with
      | some i => i
      | none => (upTo 8).foldl (fun b i => if age i < age b then i else b) 0
  let s := s.modChan c (fun h => { h with
    sets := Tab.set (fun _ => CalSet.empty) h.sets i k, ages := Tab.set (fun _ => 0) h.ages i (h.stored + 1), stored := h.stored + 1 })
  (s.put (0x2F00 + 16 * c) (2 + i) k.key).put (0x2F00 + 16 * c) 1 (s.chan c).sets.length

/-- The channel leaves a foreground calibration whose outcome is known: a set that it made becomes active (R185 step 7, R189). -/
def State.finishFg (s : State) (c : Nat) (f : Fg) : State :=
  let s := s.modChan c (fun h => { h with fg := none })
  if f.made.isSome then s.activateSet c else s

/-- A foreground calibration is left because its channel stops: abandoned, unless its outcome is known (R187). -/
def State.leaveFg (s : State) (c : Nat) : State :=
  match (s.chan c).fg with
  | none => s
  | some f => (if f.result = 0 then s.endFg c 4 else s).finishFg c f

/-- A retune that is due has not begun: the newest configuration whose instant is reached has another nominal rate (R109, R110,
R183). -/
def State.retuneDue (s : State) : Bool :=
  s.ctl.running && s.clk.retune.isNone && s.cfg s.synaPour 0x2100 1 != s.clk.rate

/-! ### The grid (R144-R146, R120) -/

/-- The conditions of R145: time VALID, REFIN the reference, no trim, and with PPSIN as source 16 stamps. -/
def State.placeable (s : State) : Bool :=
  s.timeState == 2 && s.clk.refin && s.num 0x2100 2 == 0 && s.num 0x2100 3 == 0
    && (s.num 0x2120 3 != 1 || decide (16 ≤ s.num 0x2122 5))

/-- The sync-determined phase of PPSIN in steps of 0.5 ps: the average of its last 16 stamps (R145). -/
def State.ppsSteps (s : State) : Int :=
  match s.clk.stamps with
  | [] => 0
  | l => roundDiv ((l.foldl (· + ·) 0) * 2 * 10 ^ 12) (l.length * t96PerSecond)

/-- Channel c's sample clock takes a sync-determined phase: its loop's target moves by the difference (R122, R125, R145). -/
def State.setGridSteps (s : State) (c : Nat) (d : Int) : State :=
  let old := Tab.get (fun _ => 0) s.clk.gridSteps c
  let v := ((((Tab.get loopHome s.clk.target c : Nat) : Int) + d - old) % 4096).toNat
  { s with clk := { s.clk with gridSteps := Tab.set (fun _ => 0) s.clk.gridSteps c d, target := Tab.set loopHome s.clk.target c v } }

/-- The index on the grid of the first sample at or after now. -/
def State.gridIndex (s : State) (c : Nat) : Nat := s.gridIndexAt c s.now

/-- The grid state of channel c. -/
def State.setGrid (s : State) (c st : Nat) : State := s.showState (0x2180 + 16 * c) 5 st

/-- Channel c is placed, counter and, with PPSIN as source, phase, unless that would move its counter back, or a condition is not
met: then it is off the grid (R120, R145). A phase that a sync alignment has found stays. -/
def State.place (s : State) (c : Nat) : State :=
  let n := s.gridIndex c
  if s.placeable && decide ((s.chan c).counter ≤ n) then
    let s := if s.num 0x2120 3 = 1 ∧ s.clk.aligned = false then s.setGridSteps c s.ppsSteps else s
    (s.modChan c (fun h => { h with counter := n, gridFrom := n })).setGrid c (if s.clk.aligned then 2 else 1)
  else s.setGrid c 0

/-- A condition of the grid is no longer met: every channel is off it (R146). -/
def State.dropGrid (s : State) : State := (upTo 4).foldl (fun s c => s.setGrid c 0) s

/-! ### Stop and restart -/

/-- Channel c stops delivering at an instant for a cause: records in progress, captures and the producers that it feeds (R14, R23,
R172, R330, R343, R365). A foreground calibration in progress is abandoned (R187). -/
def State.stopChannel (s : State) (c : Nat) (t : T96) (cause : Nat) (fault : Bool) : State :=
  if !(s.chan c).on then s
  else
    let s := s.leaveFg c
    let s := ((s.closeRaw c (s.chan c).counter).closeEnv c 0).closeEnv c 1
    let s := ((s.capLoss c).abandonWindow c).stopDensity c t cause fault false
    (s.stopRunners (s.liveRunners c) t cause fault).showState (0x2201 + 16 * c) 6 3

/-- The index at which channel c delivers again: the first conditioner frame boundary from now on, and no earlier than its counter
(R14, R117, R120). -/
def State.resumeIndex (s : State) (c : Nat) : Nat := ceilTo frameLen (max (s.chan c).counter (s.indexAt c s.now))

/-- Channel c delivers again, once nothing stops it: each block restarts (R219, R240, R314, R365). -/
def State.restartChannel (s : State) (c : Nat) : State :=
  if !(s.chan c).delivers then s
  else
    let n := s.resumeIndex c
    let s := s.modChan c (fun h => { h with counter := n, tail := [], prior := (0, false), overSpans := [], rawStart := none })
    let s := (s.capResume c n).startTransforms c n
    let s := (upTo 8).foldl (fun s k =>
      let p := s.pourOf (ddcBlock c k)
      if (s.ddc c k).on || s.cfgOn p (0x2300 + 16 * c + k) 1 then
        s.modDdc c k (fun d => { d with
          resetDue := some (ceilTo (s.ddcShape p c k).dec n), resetLater := [], resumeIx := some n
          pours := (n, p) :: d.pours.filter (fun g => decide (g.1 < n)) })
      else s) s
    let s := (upTo 4).foldl (fun s u => s.addTurn (4 * c + u) n (s.pourOf (trigBlock c u)) true) s
    let s := s.restartRunners (s.spectrumRunners c) (s.sampleTime c (s.xf c).nextMain)
    (s.restartRunners (s.restartingRunners c) (s.sampleTime c n)).showState (0x2201 + 16 * c) 6 1

end Sys2Proof.Machine
end

