-- ==== Sys2Proof/Machine/Tick.lean ====
section
/-! DEFINITION. A tick of the timebase, which an empty queue leaves room for. -/

namespace Sys2Proof.Machine

/-- One tick of the TB domain at 320 MHz in units of 2^-80 s, rounded down (R131). -/
def tickUnits : Nat := 2 ^ 80 / 320000000

/-- What a frequency correction in 10^-12 takes off one tick: a crystal that is fast makes short ticks (R131, R141; DEDUCED, log
entry 19: the sign follows from 0x2102.05, the offset of the crystal against REFIN). -/
def correctedUnits (correction : Int) : Int := (tickUnits : Int) - ((tickUnits : Int) * correction).tdiv (10 ^ 12)

/-- The part of a slew that one tick makes up for, at no more than the slew limit 0x2121.06 (R136). -/
def slewPart (slew : Int) (limit : Nat) : Int :=
  let most : Int := (tickUnits * limit / 10 ^ 12 : Nat)
  clampInt (-most) most slew

/-- A tick of the timebase (R130, R131, R136, R141): T96 advances by the increment as the frequency reference corrects it, its
sequence advances, and the fault clock runs on by 3.125 ns, that is five sixteenths of a crystal period. While the device is held in
reset nothing runs. -/
def tick (s : State) : State :=
  if s.ctl.held then s
  else
    let part := slewPart s.clk.slew (s.num 0x2121 6)
    let t := { s with
      ctl := { s.ctl with
        time := s.ctl.time + BitVec.ofInt 128 (correctedUnits s.clk.correction + part)
        ticks := s.ctl.ticks + 1
        crystalCount := s.ctl.crystalCount + 5 }
      clk := { s.clk with slew := s.clk.slew - part } }
    let t := { t with clk := { t.clk with correction := t.crystalCorrection } }
    let t := if s.ctl.crystalCount / secondCount = t.ctl.crystalCount / secondCount then t else t.crystalSecond
    t.bump 0x2120 1

end Sys2Proof.Machine
end

