-- ==== Sys2Proof/Machine/TiuOps.lean ====
section
/-! DEFINITION. The time-interval unit: interpolators, windows, stamp records, pairing and statistics (R465-R492). -/

namespace Sys2Proof.Machine

/-! ### Parts of the unit -/

/-- The unit changed by `f`. -/
def State.modTiu (s : State) (f : Tiu → Tiu) : State := { s with tiu := f s.tiu }

/-- Input n, its interpolators (8 for EVTGATE), and measurement unit u. -/
def State.evt (s : State) (n : Nat) : EvtIn := Tab.get (fun _ => EvtIn.off) s.tiu.inputs n
def State.interp (s : State) (n : Nat) : Interp := Tab.get (fun _ => Interp.factory) s.tiu.interps n
def State.mu (s : State) (u : Nat) : Mu := Tab.get (fun _ => Mu.off) s.tiu.mus u

/-- The same, changed by `f`. -/
def State.modEvt (s : State) (n : Nat) (f : EvtIn → EvtIn) : State :=
  s.modTiu (fun t => { t with inputs := Tab.modify (fun _ => EvtIn.off) t.inputs n f })
def State.modInterp (s : State) (n : Nat) (f : Interp → Interp) : State :=
  s.modTiu (fun t => { t with interps := Tab.modify (fun _ => Interp.factory) t.interps n f })
def State.modMu (s : State) (u : Nat) (f : Mu → Mu) : State :=
  s.modTiu (fun t => { t with mus := Tab.modify (fun _ => Mu.off) t.mus u f })

/-- Their blocks. -/
def evtBlock (n : Nat) : BlockId := .tiInput (Fin.ofNat 8 n)
def muBlock (u : Nat) : BlockId := .mu (Fin.ofNat 4 u)

/-- An entry of input n, of the gate and of unit u under the configuration in force. -/
def State.evtCfg (s : State) (n sub : Nat) : Nat := s.bcfg (evtBlock n) (0x2A00 + 16 * n) sub
def State.gateCfg (s : State) (sub : Nat) : Nat := s.bcfg .tiGate 0x2A80 sub
def State.muCfg (s : State) (u sub : Nat) : Nat := s.bcfg (muBlock u) (0x2A90 + u) sub

/-! ### Raw time (R469) -/

/-- The dead time of an input, 2.5 ns in fs (R466). -/
def deadTime : Int := 2500000

/-- The table of an interpolator in use: its own, or the factory one. -/
def State.binTable (s : State) (n i : Nat) : BinTable :=
  ((if i = 0 then (s.interp n).i0 else (s.interp n).i1)).getD
    { cmax := (Config.factoryLastCode n i).val, widths := (List.range 384).map (Config.factoryBin n i) }

/-- f(c) in fs: the widths below c and half of that of c, in 1/16 fs (R469). -/
def BinTable.fine (b : BinTable) (c : Nat) : Int :=
  roundDiv ((b.widths.take c).foldl (fun a w => a + 2 * w) 0 + b.widths.getD c 0 : Nat) 32

/-- The raw time of an edge and whether its code lies above the table's last one (R469, R473). -/
def State.rawTime (s : State) (n : Nat) (coarse fine : Nat) (delay : Int) : Int × Bool :=
  let b := s.binTable n (s.interp n).active
  (390625 * coarse + b.fine (min fine b.cmax) - delay, decide (b.cmax < fine))

/-- Raw time of the latest tick: 3.125 ns each. -/
def State.tickRaw (s : State) : Int := 3125000 * s.ctl.ticks

/-- The present increment of a tick, in units of 2^-80 s (R131, R136, R141). -/
def State.increment (s : State) : Int := correctedUnits s.clk.correction + slewPart s.clk.slew (s.num 0x2121 6)

/-- T96 of a raw time: that of the latest tick, and the rest scaled by the present increment, to the nearest unit (R469). -/
def State.rawT96 (s : State) (raw : Int) : T96 :=
  BitVec.ofInt 96 (roundDiv (s.ctl.time.toNat * 3125000 + (raw - s.tickRaw) * s.increment) (2 ^ 32 * 3125000))

/-- The first raw time whose T96 is at or after an instant. -/
def State.rawOf (s : State) (t : T96) : Int :=
  let n : Int := (2 * (t.toNat : Int) - 1) * 2 ^ 31 * 3125000 - s.ctl.time.toNat * 3125000
  s.tickRaw + (if s.increment ≤ 0 then 0 else -((-n).fdiv s.increment)) + (if t.toNat % 2 = 1 ∧ n % s.increment = 0 then 1 else 0)

/-! ### Stamp records (R478-R481) -/

/-- The 16 bytes of a stamp (R480). -/
def Stamp.image (p : Stamp) : List Byte :=
  leBytes 12 p.t.toNat ++ leBytes 4 (p.count % 2 ^ 28 + (if p.err then 2 ^ 29 else 0) + 2 ^ 30 * p.interp
    + (if p.falling then 2 ^ 31 else 0))

/-- The status bits of several stamps. -/
def stampStatus (l : List Stamp) : Nat := l.foldl (fun a p => a ||| p.status) 0

/-- Stamps whose input spans a step of T96: the steps before the last differ from those before the first (R137). -/
def spansStep (l : List Stamp) : Bool :=
  match l.head?, l.getLast? with
  | some a, some b => a.steps != b.steps
  | _, _ => false

/-- The header flags that status bits and a step stand for (R505). -/
def headerStatus (status : Nat) (step : Bool) : Nat := (if status.testBit 3 then 128 else 0) + (if step then 64 else 0)

/-- The record in progress of input n closes: it goes to the stamp runner and to the ladles' event taps (R478, R479). -/
def State.closeStamps (s : State) (n : Nat) (windowClosed : Bool) : State :=
  let e := s.evt n
  match e.record.reverse with
  | [] => s
  | p :: rest =>
    let all := p :: rest
    let status := stampStatus all
    let step := spansStep all
    let window := if s.evtCfg n 4 = 1 then s.tiu.window.toNat else 0
    let payload := leBytes 8 e.delivered ++ leBytes 8 p.count ++ leBytes 4 window ++ leBytes 2 all.length
      ++ leBytes 2 (s.evtCfg n 3) ++ leBytes 4 e.misses ++ leBytes 4 e.discarded ++ leBytes 1 n
      ++ leBytes 1 ((if e.opened then 1 else 0) + (if windowClosed then 2 else 0) + status + (if step then 32 else 0))
      ++ leBytes 6 0 ++ all.flatMap Stamp.image
    let cfg := s.pourOf (evtBlock n)
    let r : Rec :=
      { typ := 0x1B, chan := 255, source := n, prog := 0, time := p.t, stop := (e.record.headD p).t, fields := [], payload := payload
        mark := { flags := headerStatus status step, pour := none, mixed := false }, cfgPour := cfg }
    let s := s.modEvt n (fun e => { e with
      record := [], opened := false, misses := 0, discarded := 0, delivered := e.delivered + all.length })
    let s := (s.cfgRunner cfg (0x2A00 + 16 * n) 8).foldl (fun s k => s.publish k r) s
    s.offer .event 0 n r

/-! ### What the measurement units are told (R483) -/

/-- An event put at the end of the queue of every unit that is on and that `p` picks. -/
def State.tellMus (s : State) (p : Nat → Option MuEvent) : State :=
  (upTo 4).foldl (fun s u =>
    match p u with
    | some e => if (s.mu u).on then s.modMu u (fun m => { m with queue := m.queue ++ [e] }) else s
    | none => s) s

/-- A stamp of input n goes to every unit that takes it; a unit whose two inputs are one takes it once (R485). -/
def State.tellStamp (s : State) (n : Nat) (p : Stamp) : State :=
  s.tellMus (fun u =>
    if s.muCfg u 2 = n then some (.start p) else if s.muCfg u 3 = n then some (.stop p) else none)

/-- A discard or an input-loss gap of input n (R485). -/
def State.tellLost (s : State) (n : Nat) (raw : Int) : State :=
  s.tellMus (fun u => if s.muCfg u 2 = n ∨ s.muCfg u 3 = n then some (.lost raw) else none)

/-! ### Windows (R474-R477) -/

/-- A window length in ps as T96 units, to the nearest. -/
def psToT96 (ps : Nat) : Int := roundDiv (ps * t96PerSecond : Nat) 1000000000000

/-- The window of an input opens: its prescaler restarts (R465, R476). -/
def EvtIn.openWindow (e : EvtIn) : EvtIn := { e with count := 0, opened := true }

/-- An input takes a configuration, its window restarting (R477). -/
def State.switchTiInput (s : State) (n : Nat) (p : U32) : State :=
  let s := ((s.closeStamps n true).setPour (evtBlock n) p).noteWriter (evtBlock n)
  let on := s.evtCfg n 1 == 1
  s.modEvt n (fun e => { e.openWindow with on := on, opened := on && s.evtCfg n 4 == 0 })

/-- The gate takes a configuration. -/
def State.switchTiGate (s : State) (p : U32) : State :=
  let s := (s.setPour .tiGate p).noteWriter .tiGate
  let new := s.gateCfg 1
  s.modTiu (fun t => { t with gateOn := new != 0, k := 0 })

/-- Whether a gated input or unit can wait for a window: the gate is on. -/
def State.gateRuns (s : State) : Bool := s.tiu.gateOn

/-- A window opens at a raw time, once the gate and the inputs that it gates have taken the configuration that is due (R476,
R477). A change of the way in which windows are defined opens none. -/
def State.openGate (s : State) (raw : Int) (t : T96) : State :=
  let p := s.startPour .tiGate t
  let old := s.gateCfg 1
  let s := if s.pourOf .tiGate = p then s else s.switchTiGate p
  let new := s.gateCfg 1
  if new = 0 ∨ (new = 3) ≠ (old = 3) then s
  else
    let s := s.modTiu (fun q => { q with
      gateOpen := true, window := q.window + 1, openRaw := raw, openT := t
      closeRaw := raw + 1000 * s.gateCfg 3, closeT := t96Add t (psToT96 (s.gateCfg 3)) })
    let s := (upTo 8).foldl (fun s n =>
      if s.evtCfg n 4 = 1 then
        let p := s.startPour (evtBlock n) t
        let s := if s.pourOf (evtBlock n) = p then s else s.switchTiInput n p
        if s.evtCfg n 4 = 1 ∧ (s.evt n).on then s.modEvt n EvtIn.openWindow else s
      else s) s
    s.tellMus (fun u => if s.muCfg u 5 = 1 then some (.gateOpen raw s.tiu.window.toNat t) else none)

/-- The open window closes: gated inputs end their records, and the gate writes its own (R474, R478, R506). -/
def State.closeGate (s : State) (raw : Int) (t : T96) : State :=
  if !s.tiu.gateOpen then s
  else
    let s := s.modTiu (fun q => { q with gateOpen := false, closedT := t })
    let s := (upTo 8).foldl (fun s n => if s.evtCfg n 4 = 1 then s.closeStamps n true else s) s
    let cfg := s.pourOf .tiGate
    let r : Rec :=
      { typ := 0x1C, chan := 255, source := 0, prog := 0, time := s.tiu.openT, stop := t
        fields := leBytes 4 s.tiu.window.toNat ++ leBytes 12 t.toNat, payload := []
        mark := { flags := if s.timeState = 3 then 128 else 0, pour := none, mixed := false }, cfgPour := cfg }
    let s := (s.cfgRunner cfg 0x2A80 7).foldl (fun s k => s.publish k r) s
    s.tellMus (fun u => if s.muCfg u 5 = 1 then some (.gateClose raw) else none)

/-- A stamp lies in the open window: by raw time, and by T96 in mode 3 (R475). -/
def State.inWindow (s : State) (raw : Int) (t : T96) : Bool :=
  let q := s.tiu
  q.gateOpen &&
    (if s.gateCfg 1 = 3 then decide (q.openT.toNat ≤ t.toNat) && decide (t.toNat < q.closeT.toNat)
     else decide (q.openRaw ≤ raw) && (s.gateCfg 1 != 2 || decide (raw < q.closeRaw)))

/-! ### Interpolators (R470-R473) -/

/-- An input that has lost an interpolator is stale once Tj has moved by 0x2AF0.03 since its last calibration (R473). -/
def State.stale (s : State) (n : Nat) : Bool :=
  let p := s.interp n
  !p.retired.isEmpty
    && (p.calTemp.map (fun t => decide (s.num 0x2AF0 3 ≤ (Config.ioTemperature s.ctl.crystalCount - t).natAbs))).getD false

/-- A fault event of interpolator i of an input: one that is lasting retires, and the other one takes over once no edge comes
(R473). No record is lost: the entry names the record of each runner that comes next. -/
def State.interpFault (s : State) (n i : Nat) : State :=
  let (s, c, lasting) := s.countFault .interpolator (elementOf n i)
  let spare := !(s.interp n).retired.contains (1 - i)
  let ns := (if n < 8 then s.stampRunners (s.pourOf (evtBlock n)) n else s.gateRunners (s.pourOf .tiGate))
  let hit := ns.map (fun n => let k := (s.runner n).nextSeq.toNat; (n, k, k))
  let s := s.journalFault .interpolator (elementOf n i) c lasting spare hit
  let s := s.modEvt n (fun e => if n < 8 then { e with faults := e.faults + 1 } else e)
  if lasting then
    s.modInterp n (fun p => { p with
      retired := if p.retired.contains i then p.retired else p.retired ++ [i]
      calibrating := none, cycle := false
      switchTo := if !spare then none else if p.active = i then some (1 - i) else none })
  else s

/-- The widths that a calibration gives: 6,250,000 h_c / Σh each, to the nearest 1/16 fs (R470). -/
def binWidths (hits : List Nat) : List Nat :=
  let total := hits.foldl (· + ·) 0
  padWidths ((hits.take 384).map (fun h => if total = 0 then 0 else (roundDiv (6250000 * h : Nat) total).toNat))
where
  /-- 384 widths. -/
  padWidths (l : List Nat) : List Nat := l ++ List.replicate (384 - l.length) 0

/-- The table of a calibration, when it is accepted (R470). -/
def calTable (hits : List Nat) : Option BinTable :=
  let used := (hits.zipIdx.filter (fun (h : Nat × Nat) => h.1 != 0)).map Prod.snd
  let w := binWidths hits
  match used.getLast? with
  | none => none
  | some m =>
    if used.length = m + 1 ∧ 256 ≤ m ∧ m ≤ 383 ∧ w.all (fun x => decide (x ≤ 64000)) then some { cmax := m, widths := w }
    else none

/-- A calibration cycle of the idle interpolator begins, unless one runs or an interpolator is retired (R471, R472). -/
def State.startCycle (s : State) (n : Nat) (forced : Bool) : State :=
  let p := s.interp n
  if p.calibrating.isSome || p.switchTo.isSome || !p.retired.isEmpty then s
  else s.modInterp n (fun p => { p with calibrating := some (1 - p.active), cycle := true, forced := forced })

/-- The interpolator that waits becomes active, and a cycle goes on with the old one (R471). -/
def State.switchInterp (s : State) (n : Nat) : State :=
  let p := s.interp n
  match p.switchTo with
  | none => s
  | some i => s.modInterp n (fun p => { p with
      active := i, switchTo := none, cycle := false, calibrating := if p.cycle then some p.active else p.calibrating })

/-- Q1 abandons every background cycle; the tables do not change (R471). -/
def State.abandonInterps (s : State) : State :=
  (upTo 9).foldl (fun s n => s.modInterp n (fun p =>
    if p.forced || !p.retired.isEmpty then p else { p with calibrating := none, switchTo := none, cycle := false })) s

/-! ### Pairing (R485-R488) -/

/-- A stamp taken in by a unit: its pour and its flags mark the record and the block. -/
def Mu.takes (m : Mu) (p : Stamp) : Mu :=
  let used := !m.results.isEmpty || m.started.isSome
  let step := if used && m.steps != p.steps then 64 else 0
  let flags := headerStatus p.status false ||| step
  { m with status := m.status ||| p.status, mark := m.mark.take flags p.pour false, steps := p.steps
           block := { m.block with mark := m.block.mark.take flags p.pour false } }

/-- A result of code `code`, and what the block counts of it (R489). -/
def Mu.result (m : Mu) (r : MuResult) (stop : T96) : Mu :=
  let b := m.block
  let b := match r.code with
    | 0 => { b with
        k := b.k + 1, sum := b.sum + r.fs, sumSq := b.sumSq + r.fs.natAbs * r.fs.natAbs
        lo := if b.k = 0 then r.fs else min b.lo r.fs, hi := if b.k = 0 then r.fs else max b.hi r.fs
        firstStart := if b.k = 0 then r.t else b.firstStart, lastStop := stop }
    | 1 => { b with unresolved := b.unresolved + 1 }
    | 2 => { b with noStop := b.noStop + 1 }
    | _ => { b with lostN := b.lostN + 1 }
  { m with results := r :: m.results, started := none, block := b }

/-- A start and a stop make a result; a chained unit starts again with the stop (R485, R486, R488). -/
def Mu.pair (m : Mu) (a b : Stamp) (oneInput chained : Bool) : Mu :=
  let d := b.raw - a.raw
  let short := decide (d < deadTime)
  let m := (m.takes b).result
    { t := a.t, code := if short then 1 else 0, fs := if short then 0 else d
      edges := if oneInput then bitsOf 64 ((b.count : Int) - a.count) else 0 } b.t
  if chained then { m with started := some b } else m

/-- A pending pair ends without a stop (R485). -/
def Mu.endPair (m : Mu) (code : Nat) : Mu :=
  match m.started with
  | none => m
  | some a => m.result { t := a.t, code := code, fs := 0, edges := 0 } a.t

/-- The order of events at equal raw times: gate, start, stop (R483). -/
def MuEvent.rank : MuEvent → Int × Nat
  | .gateOpen r _ _ => (r, 0) | .gateClose r => (r, 0) | .start p => (p.raw, 1) | .stop p => (p.raw, 2) | .lost r => (r, 3)

/-- Whether one event comes before another one. -/
def MuEvent.before (a b : MuEvent) : Bool :=
  decide (a.rank.1 < b.rank.1) || (a.rank.1 == b.rank.1 && decide (a.rank.2 < b.rank.2))

/-- The first event of a queue in that order, and the others. -/
def firstEvent : List MuEvent → Option (MuEvent × List MuEvent)
  | [] => none
  | e :: rest =>
    match firstEvent rest with
    | none => some (e, [])
    | some (f, others) => if f.before e then some (f, e :: others) else some (e, rest)

/-! ### Records of a unit (R489-R491) -/

/-- The 32 bytes of a result (R491). -/
def MuResult.image (r : MuResult) : List Byte :=
  leBytes 12 r.t.toNat ++ leBytes 1 r.code ++ leBytes 3 0 ++ leBytes 8 (bitsOf 64 r.fs) ++ leBytes 8 r.edges

/-- The result record in progress goes to the result runner. -/
def State.closeResults (s : State) (u : Nat) : State :=
  let m := s.mu u
  match m.results.reverse with
  | [] => s
  | r :: rest =>
    let all := r :: rest
    let cfg := s.pourOf (muBlock u)
    let step := m.mark.flags.testBit 6
    let payload := leBytes 8 m.done ++ leBytes 4 (if s.muCfg u 5 = 1 then m.window else 0) ++ leBytes 2 all.length ++ leBytes 1 u
      ++ leBytes 1 (m.status + (if step then 32 else 0)) ++ all.flatMap MuResult.image
    let x : Rec :=
      { typ := 0x1D, chan := 255, source := u, prog := 0, time := r.t, stop := (m.results.headD r).t, fields := []
        payload := payload, mark := m.mark, cfgPour := cfg }
    let s := s.modMu u (fun m => { m with results := [], status := 0, mark := Mark.empty, done := m.done + all.length })
    (s.cfgRunner cfg (0x2A90 + u) 8).foldl (fun s k => s.publish k x) s

/-- The mean of a block in fs (R490). -/
def MuBlock.mean (b : MuBlock) : Int := if b.k = 0 then 0 else roundDiv b.sum b.k

/-- The standard deviation of a block in ps: the root of the exact variance, rounded to binary64 and then to F32 (R490; the order of
the binary64 operations is not stated: DESIGN CHOICE, log entry 37). The root has 64 fraction bits and a bit for what is below. -/
def MuBlock.deviation (b : MuBlock) : U32 :=
  if b.k ≤ 1 then 0
  else
    let n := (b.k * b.sumSq - b.sum.natAbs * b.sum.natAbs) * 2 ^ 128 / (b.k * (b.k - 1))
    let r := isqrt n
    f32Of64 (f64OfRat (2 * r + (if r * r = n then 0 else 1) : Nat) (2 ^ 65 * 1000))

/-- The block of unit u closes with flags: bit 0 partial, 1 window close, 2 boundary, 3 stop (R489-R491). -/
def State.closeBlock (s : State) (u flags : Nat) : State :=
  let m := s.mu u
  let b := m.block
  let cfg := s.pourOf (muBlock u)
  let lo := if b.k = 0 then 0 else b.lo
  let hi := if b.k = 0 then 0 else b.hi
  let counts := [b.unresolved, b.noStop, b.lostN, b.orphans, b.extras]
  let payload := leBytes 8 m.blockNo ++ leBytes 4 b.k ++ leBytes 4 b.deviation.toNat ++ leBytes 8 (bitsOf 64 b.mean)
    ++ leBytes 8 (bitsOf 64 lo) ++ leBytes 8 (bitsOf 64 hi) ++ leBytes 12 b.firstStart.toNat ++ leBytes 12 b.lastStop.toNat
    ++ leBytes 4 b.unresolved ++ leBytes 4 b.noStop ++ leBytes 4 b.lostN ++ leBytes 4 b.orphans ++ leBytes 4 b.extras
    ++ leBytes 1 u ++ leBytes 1 flags ++ leBytes 2 0
  let x : Rec :=
    { typ := 0x1E, chan := 255, source := u, prog := 0, time := if b.k = 0 then s.now else b.firstStart
      stop := if b.k = 0 then s.now else b.lastStop, fields := [], payload := payload, mark := b.mark, cfgPour := cfg }
  let i := 0x2AA0 + u
  let s := ((((s.put i 2 m.blockNo).put i 3 b.k).putInt i 4 b.mean).put i 5 b.deviation.toNat).putInt i 6 lo
  let s := (s.putInt i 7 hi).put i 8 b.firstStart.toNat
  let s := (counts.zipIdx).foldl (fun s (c : Nat × Nat) => s.put i (0x0A + c.2) c.1) s
  let s := ((s.put i 0x0F flags).put i 0x10 (b.mark.outPour cfg).toNat).bump i 1
  let s := s.modMu u (fun m => { m with block := MuBlock.empty, blockNo := m.blockNo + 1 })
  (s.cfgRunner cfg (0x2A90 + u) 9).foldl (fun s k => s.publish k x) s

/-- The pending pair, the result record and the block of a unit end (R477, R489, R492). -/
def State.endUnit (s : State) (u code flags : Nat) : State :=
  ((s.modMu u (fun m => m.endPair code)).closeResults u).closeBlock u flags

/-- A unit takes a configuration: its block closes at the boundary (R477, R489). -/
def State.switchMu (s : State) (u : Nat) (p : U32) : State :=
  let s := if (s.mu u).on then s.endUnit u 2 5 else s
  let s := (s.setPour (muBlock u) p).noteWriter (muBlock u)
  let on := s.muCfg u 1 == 1
  let inside := s.muCfg u 5 == 0
  s.modMu u (fun m => { (if m.on && on then m else { Mu.off with on := on }) with inside := inside })

/-- What a unit does with an event (R485). -/
def State.muEvent (s : State) (u : Nat) (e : MuEvent) : State :=
  let one := s.muCfg u 2 = s.muCfg u 3
  let chained := s.muCfg u 4 = 1
  match e with
  | .gateOpen _ w t =>
    let p := s.startPour (muBlock u) t
    let s := if s.pourOf (muBlock u) = p then s else s.switchMu u p
    if (s.mu u).on then s.modMu u (fun m => { m with inside := true, window := w }) else s
  | .gateClose _ =>
    let s := (s.modMu u (fun m => { m.endPair 2 with inside := false })).closeResults u
    if s.muCfg u 7 = 1 then s.closeBlock u 3 else s
  | .start p =>
    s.modMu u (fun m =>
      if !m.inside then m
      else
        match m.started with
        | none => { m.takes p with started := some p }
        | some a =>
          if one then m.pair a p true chained else { m with block := { m.block with extras := m.block.extras + 1 } })
  | .stop p =>
    s.modMu u (fun m =>
      if !m.inside then m
      else
        match m.started with
        | none => { m with block := { m.block with orphans := m.block.orphans + 1 } }
        | some a => m.pair a p false false)
  | .lost _ => s.modMu u (fun m => m.endPair 3)

/-- A full result record and a full block close (R489, R491). -/
def State.settleMu (s : State) (u : Nat) : State :=
  let s := if s.muCfg u 0x0A ≤ (s.mu u).results.length then s.closeResults u else s
  if s.muCfg u 6 ≤ (s.mu u).block.k then s.closeBlock u 0 else s

/-- A unit takes the first event of its queue. -/
def State.stepMu (s : State) (u : Nat) : State :=
  match firstEvent (s.mu u).queue with
  | none => s
  | some (e, rest) => ((s.modMu u (fun m => { m with queue := rest })).muEvent u e).settleMu u

/-- A unit takes every event of its queue. -/
def State.drainMu (s : State) (u : Nat) : State :=
  (List.range (s.mu u).queue.length).foldl (fun s _ => s.stepMu u) s

/-! ### Clock events, starts and stops (R492) -/

/-- A clock event gates the event domains: open records close, pending pairs end as "input lost", blocks stay open (R119, R492). -/
def State.tiuClockStop (s : State) : State :=
  let s := s.modTiu (fun t => { t with gated := true })
  if !s.ctl.running then s
  else
    let s := (upTo 8).foldl (fun s n => s.closeStamps n false) s
    (upTo 8).foldl (fun s n => s.tellLost n s.tickRaw) s

/-- Input n, the gate or unit u starts with the data path. -/
def State.startTiInput (s : State) (n : Nat) : State :=
  let on := s.evtCfg n 1 == 1
  let e := s.evt n
  s.modEvt n (fun _ => { EvtIn.off with
    on := on, opened := on && s.evtCfg n 4 == 0, missAll := e.missAll, discAll := e.discAll, ignored := e.ignored, faults := e.faults })
def State.startTiGate (s : State) : State :=
  s.modTiu (fun t => { t with gateOn := s.gateCfg 1 != 0, gateOpen := false, k := 0 })
def State.startMu (s : State) (u : Nat) : State :=
  s.modMu u (fun _ => { Mu.off with on := s.muCfg u 1 == 1, inside := s.muCfg u 5 == 0 })

/-- Input n, the gate or unit u stops on a state change: records and blocks close, pending pairs end as "no stop" (R492). A window
that is open ends without a gate record. -/
def State.stopTiInput (s : State) (n : Nat) : State := (s.closeStamps n false).modEvt n (fun e => { e with on := false })
def State.stopTiGate (s : State) : State := s.modTiu (fun t => { t with gateOn := false, gateOpen := false })
def State.stopMu (s : State) (u : Nat) : State :=
  if !(s.mu u).on then s
  else ((s.drainMu u).endUnit u 2 9).modMu u (fun m => { m with on := false })

end Sys2Proof.Machine
end

