-- ==== Sys2Proof/Machine/ClockOps.lean ====
section
/-! DEFINITION. Clock events, retunes, align loops, and the timebase's sources, steps and slews (R99-R152, R674). -/

namespace Sys2Proof.Machine

/-- A part of the clocks changed by `f`. -/
def State.modClk (s : State) (f : Clk → Clk) : State := { s with clk := f s.clk }

/-! ### CLKOUT (R126-R128) -/

/-- Running outputs that meet `p` are stopped by a clock event (R109, R128). -/
def State.holdClkouts (s : State) (p : Nat → Bool) : State :=
  (upTo 4).foldl (fun s n =>
    if s.num (0x2110 + n) 6 = 1 ∧ p n then
      (s.modClk (fun k => { k with clkoutHeld := k.clkoutHeld ++ [n] })).put (0x2110 + n) 6 2
    else s) s

/-- Output n starts at its next terminal count. With grid alignment and SYNA as source that is at the first SYNA grid index from now
on that is a multiple of its divider; its phase is its own otherwise (R127). -/
def State.startClkout (s : State) (n : Nat) : State :=
  let i := 0x2110 + n
  let first :=
    if s.bcfg .clocks i 5 = 1 ∧ s.bcfg .clocks i 2 = 0 then
      ceilTo (s.bcfg .clocks i 3) ((s.now.toNat * s.clk.rate + t96PerSecond - 1) / t96PerSecond) + 1
    else 0
  (s.modClk (fun k => { k with clkoutFirst := Tab.set (fun _ => 0) k.clkoutFirst n first })).put i 6 1

/-- The outputs that a clock event has stopped and that meet `p` restart at their next terminal count (R128). -/
def State.releaseClkouts (s : State) (p : Nat → Bool) : State :=
  let go := s.clk.clkoutHeld.filter p
  (go.foldl State.startClkout s).modClk (fun k => { k with clkoutHeld := k.clkoutHeld.filter (fun n => !p n) })

/-- Output n is derived from SYNA (R126). -/
def State.fromSyna (s : State) (n : Nat) : Bool := s.bcfg .clocks (0x2110 + n) 2 == 0

/-! ### The reference-event sequence (R117-R121) -/

/-- Both synthesisers have locked once since the reset: their first acquisition needs no clock event (R641 step 6). -/
def State.synthsStarted (s : State) : Bool := !(s.num 0x2100 4 == 1 && s.clk.event.isNone && s.clk.retune.isNone)

/-- The entries of a clock event: one for each runner that it affects, with emergency 0x8700 (R117 step 7, R625). -/
def State.reportClockEvent (s : State) (e : ClkEvent) (runners : List (Nat × Nat × Nat)) : State :=
  s.report { severity := e.severity, subsys := 3, kind := e.kind, cls := e.cls, element := e.element, runners := runners,
             count := e.count, notes := e.notes, detail := e.cause, code := 0x8700 }

/-- Steps 2-4: channels and event domains are gated, outputs stop. An event that comes during another one joins it, and only its
entry is written. -/
def State.startClockEvent (s : State) (e : ClkEvent) : State :=
  if s.clk.event.isSome then s.reportClockEvent e []
  else
    let now := s.now
    let s := s.modClk (fun k => { k with event := some { e with start := now } })
    let s := (upTo 4).foldl (fun s c => (s.modChan c (fun h => { h with gated := true })).stopChannel c now 3 true) s
    let s := s.tiuClockStop
    let s := if s.ctl.running then s.stopRunners (s.tiuRunners s.ctl.currentPour) now 3 true else s
    s.holdClkouts (fun _ => true)

/-- Both synthesisers acquire the new reference. -/
def State.acquireBoth (s : State) : State := (s.put 0x2100 4 1).put 0x2101 1 1

/-- The reference is switched to REFIN or to the crystal: stamps for the grid start afresh, and the sequence runs (R103, R145). -/
def State.switchReference (s : State) (refin : Bool) : State :=
  let s := ((s.takeReference refin).modClk (fun k => { k with stamps := [] })).put 0x2122 5 0
  let s := if refin then s else s.dropGrid
  s.acquireBoth.startClockEvent { cause := if refin then 3 else 2, start := s.now }

/-- REFIN is lost (R101): where it was the reference, the sequence runs on the crystal. -/
def State.loseRefin (s : State) : State :=
  let s := (s.put 0x2102 2 0).put 0x2102 3 3
  if s.clk.refin then s.switchReference false else s

/-- Whether a setting of 0x2102.01 accepts a nominal frequency, 1-3 (R100). -/
def refinAccepts (setting freq : Nat) : Bool := setting == 0 || setting == freq

/-- The runners that a clock event has affected, with the sequences of their gap record and next record (R625). -/
def State.clockHits (s : State) : List (Nat × Nat × Nat) :=
  let on := (upTo 4).filter (fun c => (s.chan c).on)
  let ns := on.flatMap (fun c => s.liveRunners c ++ s.densityRunners (s.density c).pour c)
    ++ (if s.ctl.running then s.tiuRunners s.ctl.currentPour else [])
  (ns.eraseDups).map (fun n => let q := (s.runner n).nextSeq.toNat; (n, q, q + 1))

/-- The state of SYNA once it is locked: slewing while the trim has not reached its target (R108, R155). -/
def State.lockSyna (s : State) : State := s.put 0x2100 4 (if s.num 0x2100 2 = s.num 0x2100 3 then 2 else 3)

/-- Every channel that nothing gates any more is placed and delivers again (R117 step 6, R120, R145). -/
def State.ungate (s : State) : State :=
  let gated := s.clk.event.isSome || s.clk.retune.isSome
  (upTo 4).foldl (fun s c =>
    let s := s.modChan c (fun h => { h with gated := gated })
    if gated || !(s.chan c).on then s else (s.place c).restartChannel c) s

/-! ### Align loops (R122-R125) -/

/-- A loop's phase and target. -/
def State.loopPhase (s : State) (k : Nat) : Nat := Tab.get loopHome s.clk.phase k
def State.loopTarget (s : State) (k : Nat) : Nat := Tab.get loopHome s.clk.target k

/-- A loop's target moved by a number of steps, modulo its range (R122, R124). -/
def State.moveTarget (s : State) (k : Nat) (d : Int) : State :=
  let v := (((s.loopTarget k : Int) + d) % 4096).toNat
  s.modClk (fun q => { q with target := Tab.set loopHome q.target k v })

/-- The phase after one ramp step toward its target (R123). -/
def rampStep (phase target : Nat) : Nat :=
  if phase < target then phase + 1 else if target < phase then phase - 1 else phase

/-- Channel c takes the phase offset of a pour: its ramp starts at its own frame boundary (R125). -/
def State.switchOffset (s : State) (c : Nat) (old new : U32) : State :=
  s.moveTarget c (s.cfgInt new (0x2181 + 16 * c) 2 - s.cfgInt old (0x2181 + 16 * c) 2)

/-- The clocks take a pour: CLKOUT phases start their ramps (R155). -/
def State.switchClocks (s : State) (new : U32) : State :=
  (upTo 4).foldl (fun s n =>
    s.modClk (fun q => { q with target := Tab.set loopHome q.target (4 + n) (s.cfg new (0x2110 + n) 4) })) s

/-! ### Retunes (R109-R112) -/

/-- A foreground calibration is within one of its gathering windows (R185 step 4). -/
def Fg.gathers (f : Fg) : Bool := f.settled && f.result == 0 && decide (f.windows < 40)

/-- A channel gathers calibration data (R109, R110). -/
def State.gathers (s : State) : Bool :=
  (upTo 4).any (fun c => (s.chan c).shadow.isSome || ((s.chan c).fg.map Fg.gathers).getD false)

/-- Foreground calibrations outside their windows are aborted by a retune that begins (R187 code 2). -/
def State.abortFgs (s : State) : State :=
  (upTo 4).foldl (fun s c => if ((s.chan c).fg.map (fun f => f.result == 0)).getD false then s.endFg c 2 else s) s

/-- A nominal rate in force, and the pour that gave it (R109, R112). -/
def State.takeRate (s : State) (rate : Nat) (pour : U32) : State :=
  (s.modClk (fun k => { k with rate := rate, ratePour := pour })).put 0x2100 3 (s.num 0x2100 2)

/-! ### Time: steps and slews (R136-R138) -/

/-- A channel that samples as T96 steps: the first sample that bears stepped time is marked, and the instant that its counter goes on
from moves with the timebase, so that no step moves the counter (R120, R137). -/
def State.markStep (s : State) (d : Int) (c : Nat) : State :=
  let n := s.indexAt c s.now
  s.modChan c (fun h => { h with
    stepIx := if h.on then ((n, s.clk.steps + 1) :: h.stepIx).take 1024 else [], anchor := h.anchor.map (fun a => (a.1, t96Add a.2 d)) })

/-- T96 moved by a number of units: journalled, counted, and no channel is on the grid any more (R137). The last PPSIN edge and the
prediction of the next one move with the timebase (DESIGN CHOICE, log entry 19). -/
def State.stepTime (s : State) (d : Int) : State :=
  let move (t : T96) : T96 := t96Add t d
  let s := (upTo 4).foldl (fun s c => s.markStep d c) s
  let s := { s with
    ctl := { s.ctl with time := s.ctl.time + BitVec.ofInt 128 (d * 2 ^ 32) }
    clk := { s.clk with
      steps := s.clk.steps + 1, slew := 0, ppsLast := s.clk.ppsLast.map move, ppsPred := s.clk.ppsPred.map move } }
  s.dropGrid.report { severity := 1, subsys := 4, kind := 6, first := bitsOf 64 d }

/-- An offset from the source corrected: a step before the first VALID and from the step threshold on, else a slew (R136). -/
def State.discipline (s : State) (d : Int) : State :=
  let s := s.drew.put 0x2120 6 (s.fresh % 2 ^ 32)
  if d = 0 then s
  else if !s.clk.everValid || decide ((s.num 0x2121 5 : Int) * 2 ^ 48 ≤ d.natAbs * 1000000000) then s.stepTime d
  else s.modClk (fun k => { k with slew := d * 2 ^ 32 })

/-! ### Sources (R132-R135, R143) -/

/-- Port p's PTP client. -/
def State.ptpPort (s : State) (p : Nat) : PtpPort := Tab.get (fun _ => PtpPort.idle) s.clk.ptp p
def State.modPtp (s : State) (p : Nat) (f : PtpPort → PtpPort) : State :=
  s.modClk (fun k => { k with ptp := Tab.modify (fun _ => PtpPort.idle) k.ptp p f })

/-- A source is qualified (R134). -/
def State.qualified (s : State) (code : Nat) : Bool :=
  match code with
  | 1 => s.clk.ppsQual
  | 2 => (s.ptpPort 0).qualified
  | 3 => (s.ptpPort 1).qualified
  | 4 => s.clk.dcQual
  | 5 => s.clk.freeRun.isSome
  | _ => false

/-- A source is present. -/
def State.presentSource (s : State) (code : Nat) : Bool :=
  match code with
  | 1 => s.num 0x2122 4 == 1
  | 2 => (s.ptpPort 0).master.isSome
  | 3 => (s.ptpPort 1).master.isSome
  | 4 => s.num 0x2124 2 != 0
  | 5 => s.clk.freeRun.isSome
  | _ => false

/-- The source list (R133). -/
def State.sources (s : State) : List Nat := [1, 2, 3, 4].map (fun i => s.app 0x2121 i)

/-- The time state put in 0x2120.02. Leaving VALID takes every channel off the grid, and so does PPSIN as source with fewer than 16
stamps (R145, R146); entry to HOLDOVER and exit from it are
clock events with emergency 0x8700 (R89). -/
def State.setTimeState (s : State) (st source : Nat) : State :=
  let old := s.timeState
  let now := s.now
  let s := (s.put 0x2120 2 st).put 0x2120 3 source
  let s := if (old = 2 ∧ st ≠ 2) ∨ (st = 2 ∧ source = 1 ∧ s.num 0x2122 5 < 16) then s.dropGrid else s
  let s := if st = 3 ∧ old ≠ 3 then
      (s.modClk (fun k => { k with holdover := some now })).putInt 0x2125 5 s.averageOffset
    else if st ≠ 3 then s.modClk (fun k => { k with holdover := none }) else s
  if (st = 3) ≠ (old = 3) then s.report { severity := 2, subsys := 4, kind := 6, detail := st, code := 0x8700 } else s

/-- The highest-priority qualified source becomes the active one; with none, HOLDOVER after VALID (R132, R133, R143). -/
def State.pickSource (s : State) : State :=
  match s.sources.find? (fun c => s.qualified c) with
  | some c => s.setTimeState 2 c
  | none =>
    if s.timeState = 2 ∨ s.timeState = 3 then s.setTimeState 3 0
    else s.setTimeState (if s.sources.any (fun c => s.presentSource c) then 1 else 0) 0

/-- How far free run is ahead of the timebase: the time written counts on by the crystal (R134). -/
def State.freeRunOffset (s : State) : Int :=
  match s.clk.freeRun with
  | some (v, n) => t96Diff v s.now + ((s.ctl.crystalCount - n) * t96PerSecond / 1600000000 : Nat)
  | none => 0

/-- The timebase follows free run (R134, R136). -/
def State.followFreeRun (s : State) : State :=
  (s.discipline s.freeRunOffset).modClk (fun k => { k with everValid := true })

/-- The source is selected anew; free run that becomes the active one is followed at once (R133, R134, R136). -/
def State.selectSource (s : State) : State :=
  let t := s.pickSource
  if t.num 0x2120 3 = 5 ∧ s.num 0x2120 3 ≠ 5 then t.followFreeRun else t

/-- A source reports an offset: the active one is followed (R136). -/
def State.follow (s : State) (code : Nat) (d : Int) : State :=
  let s := s.selectSource
  if s.num 0x2120 3 = code ∧ s.timeState = 2 then
    (s.discipline d).modClk (fun k => { k with everValid := true })
  else s

/-! ### PPSIN (R104, R134, R135, R674) -/

/-- Two instants lie within 100 ns of each other. -/
def near100ns (a b : T96) : Bool := decide ((t96Diff a b).natAbs * 1000000000 ≤ 100 * t96PerSecond)

/-- One second later. -/
def nextSecond (t : T96) : T96 := t96Add t t96PerSecond

/-- The TAI second of an edge: the one written, or that of a qualified PTP or DC source (R134, R135). -/
def State.ppsSecond (s : State) (t : T96) : Option Nat :=
  match s.clk.ppsLabel with
  | some n => some n
  | none => if [2, 3, 4].any (fun c => s.qualified c) then some ((t.toNat + t96PerSecond / 2) / t96PerSecond) else none

/-- The distance of a stamp from the second nearest to it, in T96 units (R145). -/
def stampOffset (t : T96) : Int :=
  let f : Int := t96Fraction t
  if 2 * f < t96PerSecond then f else f - t96PerSecond

/-- A stamp for the grid, taken while REFIN is the reference: the latest 16 are kept (R145). -/
def State.gridStamp (s : State) (t : T96) : State :=
  if s.clk.refin then
    (s.modClk (fun k => { k with stamps := (stampOffset t :: k.stamps).take 16 })).put 0x2122 5 (min 16 (s.num 0x2122 5 + 1))
  else s

/-- An edge used for discipline: its offset is shown, and the next one bears the next label (R135, R136). -/
def State.acceptPps (s : State) (t : T96) : State :=
  match s.ppsSecond t with
  | none => s
  | some n =>
    let d : Int := (n * t96PerSecond : Nat) - (t.toNat : Int)
    let s := s.putInt 0x2122 3 (unitsToPs (-d))
    let s := s.modClk (fun k => { k with ppsLabel := some (n + 1) })
    s.follow 1 d

/-- PPSIN no longer qualifies; after a loss no edge of before counts any more, and after rejected edges the chain that began with
the first of them goes on (R104, R674). -/
def State.disqualifyPps (s : State) (lost : Bool) : State :=
  ((s.put 0x2122 4 2).modClk (fun k =>
    if lost then { k with ppsQual := false, ppsBad := 0, ppsLast := none, ppsGood := 0 }
    else { k with ppsQual := false })).selectSource

/-- The edges in a row at their predictions, with the edge or prediction from which the next one is predicted: at first from the
edge before; after rejected edges, from the first of them (R134, R674). The first edge of a row counts. -/
def State.chainPps (s : State) (t : T96) (fromFirst : Bool) : Nat × T96 :=
  match s.clk.ppsLast with
  | some l =>
    if near100ns t (nextSecond l) then (s.clk.ppsGood + 1, if fromFirst then nextSecond l else t) else (1, t)
  | none => (1, t)

/-! ### PTP (R134, R139) -/

/-- The order of the default best-master algorithm on announced data sets (R139). -/
def announceRank (a : Announce) : Nat :=
  ((((a.priority1.toNat * 256 + a.clockClass.toNat) * 256 + a.accuracy.toNat) * 65536 + a.variance.toNat) * 256
    + a.priority2.toNat) * 2 ^ 64 + a.identity.toNat

end Sys2Proof.Machine
end

