-- ==== Sys2Proof/Machine/Commit.lean ====
section
/-! DEFINITION. Commits, the pending set, emergencies, the host mailbox, firmware and JTAG (R68-R96, R671). -/

namespace Sys2Proof.Machine

/-! ### Commits -/

/-- The result of a submitted commit: one update of 0x2012 with MSI-X vector 1 (R83). -/
def State.postResult (s : State) (code pour : Nat) (ta tc : T96) (entry reason requester : Nat) : State :=
  let s := (((s.put 0x2012 2 code).put 0x2012 3 pour).put 0x2012 4 ta.toNat).put 0x2012 6 tc.toNat
  let s := ((s.put 0x2012 8 entry).put 0x2012 9 reason).put 0x2012 0x0A requester
  (s.bump 0x2012 1).signal 1

/-- A refusal's result: it leaves t_a and t_c open, and names no pour (R83). -/
def State.postRefusal (s : State) (code entry reason requester : Nat) : State :=
  let ta : T96 := BitVec.ofNat 96 s.fresh
  let s := s.drew
  let tc : T96 := BitVec.ofNat 96 s.fresh
  s.drew.postResult code 0 ta tc entry reason requester

/-- The pour group 0x2013 after a change (R77, R81, R85). -/
def State.showPours (s : State) : State :=
  (((s.put 0x2013 2 s.ctl.currentPour.toNat).put 0x2013 3 s.ctl.highestPour.toNat).put 0x2013 4 s.outstanding.length).bump 0x2013 1

/-- A commit submitted: refused in a wrong state, while another one waits, or with nothing pending; else the pending set is
frozen into it (R74, R76, R82, R83). -/
def State.submit (s : State) (rq : Requester) : State :=
  if !s.ctl.dev.runs then s.postRefusal 9 0 0 rq.code
  else if s.ctl.validating.isSome ∧ s.ctl.waiting.isSome then s.postRefusal 1 0 0 rq.code
  else if s.ctl.pendingSet.isEmpty then s.postRefusal 2 0 0 rq.code
  else
    let c : Commit := { delta := s.ctl.pendingSet, stamps := s.ctl.stamps, requester := rq.code, mode := s.num 0x2011 3,
                        instant := BitVec.ofNat 96 (s.num 0x2011 1) }
    if s.ctl.validating.isNone then { s with ctl := { s.ctl with pendingSet := [], stamps := [], validating := some c } }
    else { s with ctl := { s.ctl with pendingSet := [], stamps := [], waiting := some c } }

/-- COMMIT_EXECUTE: 1 written to 0x2011.04 submits a commit (R74). -/
def execCommitExecute (r : Requester) (s : State) : Out State :=
  s.guarded (fun s => s.mayWrite r (keyOf 0x2011 4) (fun s => s.submit r))

/-- COMMIT_TOGGLE: a change of value of 0x2011.05 submits a commit (R74). -/
def execCommitToggle (r : Requester) (v : Byte) (s : State) : Out State :=
  s.guarded (fun s => s.mayWrite r (keyOf 0x2011 5) (fun s =>
    if s.num 0x2011 5 = v.toNat then s else (s.put 0x2011 5 v.toNat).submit r))

/-- The serial of the write that gave an entry its value; 0 where there is none. -/
def stampOf (t : Tab Nat) (k : Nat) : Nat := Tab.get (fun _ => 0) t k

/-- A frozen set back in the pending set: where both hold an entry, the later write stands (R76). -/
def State.returnSet (s : State) (c : Commit) : State :=
  let kept := c.delta.filter (fun kv =>
    !(s.ctl.pendingSet.any (fun p => p.1 == kv.1)) || decide (stampOf s.ctl.stamps kv.1 < stampOf c.stamps kv.1))
  { s with ctl := { s.ctl with
      pendingSet := kept.foldl (fun t kv => Tab.put t kv.1 kv.2) s.ctl.pendingSet
      stamps := kept.foldl (fun t kv => Tab.put t kv.1 (stampOf c.stamps kv.1)) s.ctl.stamps } }

/-- A value that an accepted write gives an RWC entry enters the pending set (R73). -/
def State.putPending (s : State) (k : Nat) (v : Val) : State :=
  { s with ctl := { s.ctl with
      pendingSet := Tab.put s.ctl.pendingSet k v, stamps := Tab.put s.ctl.stamps k (s.ctl.writes + 1)
      writes := s.ctl.writes + 1 } }

/-- Entries that count toward the pending capacity (R73, R76). -/
def State.pendingLoad (s : State) : Nat :=
  s.ctl.pendingSet.length + ((s.ctl.validating.map (fun c => c.delta.length)).getD 0)
    + ((s.ctl.waiting.map (fun c => c.delta.length)).getD 0)

/-- The newest pour whose instant is reached becomes current (R85). -/
def State.advancePour (s : State) : State :=
  match s.outstanding.find? (fun p => decide (p.tc.toNat ≤ s.now.toNat)) with
  | none => s
  | some p => State.showPours { s with ctl := { s.ctl with currentPour := p.number } }

/-- POUR_BECOMES_CURRENT: the newest outstanding commit whose t_c has been reached, and with it every older one (R81, R85). -/
def execPourBecomesCurrent (s : State) : Out State := s.guarded State.advancePour

/-- DISCARD_PENDING: 1 written to 0x2010.03 discards the pending set (R86). -/
def execDiscardPending (r : Requester) (s : State) : Out State :=
  s.guarded (fun s => s.mayWrite r (keyOf 0x2010 3) (fun s => { s with ctl := { s.ctl with pendingSet := [], stamps := [] } }))

/-- The value of a key in a set of changes. -/
def lookup (d : Tab Val) (k : Nat) : Option Val := (d.find? (fun p => p.1 == k)).map Prod.snd

/-- The newest value of an entry that is not yet in effect, and its source: 1 pending set, 2 frozen for validation, 3
outstanding commit with the latest t_c first (R671). -/
def State.queryEntry (s : State) (k : Nat) : Nat × Option Val :=
  match lookup s.ctl.pendingSet k with
  | some v => (1, some v)
  | none =>
    match (s.ctl.waiting.toList ++ s.ctl.validating.toList).findSome? (fun c => lookup c.delta k) with
    | some v => (2, some v)
    | none =>
      match s.outstanding.findSome? (fun p => lookup p.delta k) with
      | some v => (3, some v)
      | none => (0, none)

/-- The slot image of a value: sign- or zero-extended to 64 bits; the length of a byte string (R49, R671). -/
def slotImage (index sub : Nat) (v : Val) : Nat :=
  match v with
  | .bytes b => b.length
  | .bits x =>
    if entrySigned index sub then bitsOf 64 (signedOf (entryWidth index sub) x.toNat) else x.toNat % 2 ^ 64

/-- PENDING_QUERY: an entry written to 0x2010.04; .05-.07 report it from then on (R671). -/
def execPendingQuery (r : Requester) (v : U32) (s : State) : Out State :=
  s.guarded (fun s => s.mayWrite r (keyOf 0x2010 4) (fun s => s.put 0x2010 4 v.toNat))

/-! ### Emergencies (R90) -/

/-- EMERGENCY_READ: a host read of 0x2083.02 takes the next message off the queue, and reads 0 from an empty one. -/
def execEmergencyRead (s : State) : Out State :=
  s.guarded (fun s =>
    match s.ctl.hostEmg with
    | [] => s.emit (.answer 1 (Val.ofNat 0))
    | m :: rest => State.emit { s with ctl := { s.ctl with hostEmg := rest } } (.answer 1 (Val.ofNat m.toNat)))

/-- EMERGENCY_MAILBOX_READ: the master reads the frame that carries the oldest EtherCAT message. -/
def execEmergencyMailboxRead (s : State) : Out State :=
  s.guarded (fun s =>
    match s.ctl.ecatEmg with
    | [] => s
    | m :: rest => State.emit { s with ctl := { s.ctl with ecatEmg := rest } } (.ecatEmergency m))

/-! ### Host mailbox (R68-R70) -/

/-- The frame of a host mailbox request: its length in bits [15:0] of 0x2080.01, its bytes from 0x2080.02 on (R68). -/
def State.mailboxFrame (s : State) : List Byte :=
  ((List.range 127).flatMap (fun i => leBytes 8 (s.num 0x2080 (2 + i)))).take (s.num 0x2080 1 % 2 ^ 16)

/-- MAILBOX_DOORBELL: the request in 0x2080 is submitted and the mailbox is busy until its response is complete; while busy it is
discarded and recorded. It is accepted in BOOT too (R41, R69, R70). -/
def execMailboxDoorbell (s : State) : Out State :=
  s.guarded (fun s =>
    if s.ctl.dev = .init then s.accessError .host 0x08000022 (keyOf 0x2082 1)
    else if s.num 0x2082 2 = 1 then s.accessError .host 0x08000020 (keyOf 0x2082 1)
    else State.put { s with ctl := { s.ctl with mbxRequest := some s.mailboxFrame } } 0x2082 2 1)

/-- The words of a mailbox frame from 0x2081.02 on; a frame has at most 1,016 bytes (R68). -/
def State.putFrame (s : State) (frame : List Byte) : State :=
  let f := frame.take 1016
  ((List.range ((f.length + 7) / 8)).foldl (fun s i => s.put 0x2081 (2 + i) (field f (8 * i) 8)) s).put 0x2081 1 f.length

/-! ### Firmware (R91-R95) and JTAG (R96) -/

/-- An image received whole in BOOT goes to the slot that is not running, which it leaves invalid until verified (R92, R93). -/
def State.receiveImage (s : State) (img : FwImage) : State :=
  State.put { s with
    ctl := { s.ctl with image := some img }
    flt := { s.flt with
      slotA := if s.flt.runningB then none else s.flt.slotA
      slotB := if s.flt.runningB then s.flt.slotB else none } } 0x2020 2 2

/-- FOE_FIRMWARE_DOWNLOAD: in BOOT only (R40, R92). -/
def execFoeFirmwareDownload (img : FwImage) (s : State) : Out State :=
  s.guarded (fun s => if s.ctl.dev = .boot then s.receiveImage img else s.emit (.abort 2 0x08000022))

/-- FIRMWARE_IMAGE_WRITE: a mailbox download to 0x2020.01, in BOOT only (R92, R98). -/
def execFirmwareImageWrite (img : FwImage) (s : State) : Out State :=
  s.guarded (fun s =>
    if s.ctl.dev = .boot then s.receiveImage img else s.accessError .host 0x08000022 (keyOf 0x2020 1))

/-- The update status of a verified image: 7 format, 6 key revoked, 4 signature, 5 rollback, 3 written (R91, R93, R94). The
header's length is taken as that of the payload, and another one as a format error (DESIGN CHOICE, log entry 48). -/
def State.imageVerdict (s : State) (img : FwImage) : Nat :=
  if 64 < img.security ∨ 2097152 < img.length ∨ img.length ≠ img.payload.length then 7
  else if Config.keyRevoked img.key then 6
  else if !Config.signatureValid img then 4
  else if img.security < s.flt.rollback then 5
  else 3

/-- FIRMWARE_VERIFY_COMPLETE: an accepted image is in its slot; a failed one is erased (R93). -/
def execFirmwareVerifyComplete (s : State) : Out State :=
  s.guarded (fun s =>
    match s.ctl.image with
    | none => s
    | some img =>
      let v := s.imageVerdict img
      let slot := if v = 3 then some { version := img.version, security := img.security : Slot } else none
      State.put { s with
        ctl := { s.ctl with image := none }
        flt := { s.flt with
          slotA := if s.flt.runningB then slot else s.flt.slotA
          slotB := if s.flt.runningB then s.flt.slotB else slot } } 0x2020 2 v)

/-- JTAG_BOUNDARY_SCAN: IDCODE and boundary scan only; any other instruction does nothing (R96). -/
def execJtagBoundaryScan (ir : JtagInstr) (s : State) : Out State :=
  s.guarded (fun s =>
    match ir with
    | .idcode => s.emit (.jtag Config.idcode.toNat)
    | .boundaryScan => s.drew.emit (.jtag (Config.boundary s.ctl.drawn))
    | .other => s)

end Sys2Proof.Machine
end

