-- ==== Sys2Proof/Machine/NetOps.lean ====
section
/-! DEFINITION. Packets of the network streams: Ethernet, IP and UDP framing, VDIF frames and VITA 49.2 packets
(R566-R581). -/

namespace Sys2Proof.Machine

/-- The ports carry data once PREOP→SAFEOP has applied their entries (R645). -/
def State.portsApplied (s : State) : Bool := !s.ctl.pours.isEmpty

/-- A port's entry in force. -/
def State.portCfg (s : State) (p sub : Nat) : Nat := s.app (0x2D00 + p) sub

/-- 10 µs in units of the fault clock, 1,600,000,000 a second (R581, R620). -/
def spacingCount : Nat := 16000

/-- The packets of a stream in the last 10 µs (R581). -/
def State.recentPackets (s : State) (t : Nat) : List (Nat × Nat) :=
  (s.nstream t).spacing.filter (fun p => decide (s.ctl.crystalCount < p.1 + spacingCount))

/-- The rate limit of stream t lets a packet go: the frame bytes of the last 10 µs do not exceed rate × 10 µs, so that the frame that
goes makes at most one more; 1 MB/s is 10 bytes in 10 µs (R581). -/
def State.spaced (s : State) (t : Nat) : Bool :=
  s.netCfg t 0x0C == 0 || decide (((s.recentPackets t).foldl (fun a p => a + p.2) 0) ≤ 10 * s.netCfg t 0x0C)

/-- A stream may send: its port is up and applied, its queue is not paused, its destination is known, and its rate limit lets a packet
go (R567, R580, R581). -/
def State.maySend (s : State) (t : Nat) : Bool :=
  let p := s.netCfg t 1
  s.spaced t && s.portsApplied && (s.port p).link == 1 && !(s.port p).paused.testBit (s.netQueue t) && (s.netMac t).isSome

/-- A stream of the same port has packets in a queue of higher priority (R579). -/
def State.outranked (s : State) (t : Nat) : Bool :=
  s.net.streams.any (fun (u, n) => s.netCfg u 1 == s.netCfg t 1 && decide (s.netQueue t < s.netQueue u) && !n.queue.isEmpty
    && s.netCfg u 2 != 1 && s.maySend u)

/-- A stream can send now: strict priority, highest queue first, leaves it its turn (R579). -/
def State.canSend (s : State) (t : Nat) : Bool := s.maySend t && !s.outranked t

/-- A network stream takes a pour: an address that it has resolved stands only while it names the same host (R567). -/
def State.switchNet (s : State) (old new : U32) (t : Nat) : State :=
  let i := 0x2D10 + t
  if [1, 3, 4, 5, 6, 9].all (fun b => s.cfg old i b == s.cfg new i b) then s
  else s.modNstream t (fun n => { n with mac := none, asked := none })

/-- The pour that stream t was to take after the record or frame that it has now sent (R569). -/
def State.netTake (s : State) (t : Nat) : State :=
  match (s.nstream t).next with
  | none => s
  | some p =>
    let b := BlockId.net (Fin.ofNat 32 t)
    ((s.setPour b p).switchNet (s.pourOf b) p t).modNstream t (fun n => { n with next := none })

/-- Stream t takes a pour at its next packet: at once, or after the record whose fragments or the VDIF frame whose samples it has
begun (R27, R569). -/
def State.netSwitch (s : State) (t : Nat) (new : U32) : State :=
  let s := s.modNstream t (fun n => { n with next := some new })
  if (s.nstream t).fragments = 0 ∧ (s.nstream t).samples = [] then s.netTake t else s

/-- The one's-complement sum of 16-bit big-endian words, folded. -/
def onesSum (bs : List Byte) : Nat :=
  let rec go : List Byte → Nat
    | [] => 0
    | [a] => a.toNat * 256
    | a :: b :: t => a.toNat * 256 + b.toNat + go t
  let n := go bs
  let n := n / 65536 + n % 65536
  let n := n / 65536 + n % 65536
  n / 65536 + n % 65536

/-- The Internet checksum field. -/
def checksum (bs : List Byte) : Nat := 0xFFFF - onesSum bs

/-- The whole Ethernet frame of a UDP payload, without its FCS (R566). -/
def State.udpFrame (s : State) (t : Nat) (payload : List Byte) : List Byte :=
  let p := s.netCfg t 1
  let ulen := 8 + payload.length
  let v4 := s.netCfg t 3 == 4
  let src := if v4 then beBytes 4 (s.portCfg p 3) else beBytes 8 (s.portCfg p 6) ++ beBytes 8 (s.portCfg p 7)
  let dst := if v4 then beBytes 4 (s.netCfg t 5 % 2 ^ 32) else beBytes 8 (s.netCfg t 4) ++ beBytes 8 (s.netCfg t 5)
  let pseudo := if v4 then src ++ dst ++ [0, 17] ++ beBytes 2 ulen else src ++ dst ++ beBytes 4 ulen ++ [0, 0, 0, 17]
  let ports := beBytes 2 (s.netCfg t 7) ++ beBytes 2 (s.netCfg t 8) ++ beBytes 2 ulen
  let ck := checksum (pseudo ++ ports ++ [0, 0] ++ payload)
  let udp := ports ++ beBytes 2 (if ck = 0 then 0xFFFF else ck) ++ payload
  let tos := s.netCfg t 0x0A
  let ip :=
    if v4 then
      let h := [0x45] ++ beBytes 1 (tos * 4) ++ beBytes 2 (20 + ulen) ++ beBytes 2 0 ++ beBytes 2 0x4000
        ++ beBytes 1 (s.netCfg t 0x0B) ++ [17]
      h ++ beBytes 2 (checksum (h ++ [0, 0] ++ src ++ dst)) ++ src ++ dst
    else beBytes 4 (6 * 2 ^ 28 + tos * 2 ^ 20) ++ beBytes 2 ulen ++ [17] ++ beBytes 1 (s.netCfg t 0x0B) ++ src ++ dst
  let tag := s.netCfg t 9
  beBytes 6 ((s.netMac t).getD 0) ++ beBytes 6 (s.portCfg p 2)
    ++ (if tag = 0xFFFF then [] else [0x81, 0x00] ++ beBytes 2 tag)
    ++ (if v4 then [0x08, 0x00] else [0x86, 0xDD]) ++ ip ++ udp

/-- A datagram sent: the port counts its frame, FCS included (0x2D02 + p.03, .04), and so does the stream's rate limit (R581). -/
def State.sendUdp (s : State) (t : Nat) (payload : List Byte) : State :=
  let f := s.udpFrame t payload
  let p := s.netCfg t 1
  let bytes := max 64 (f.length + 4)
  let recent := s.recentPackets t ++ [(s.ctl.crystalCount, bytes)]
  ((s.emit (.frame p f)).modPort p (fun q => { q with sent := q.sent + 1, bytes := q.bytes + bytes })).modNstream t
    (fun n => { n with packets := n.packets + 1, spacing := recent })

/-- Bytes of IP and UDP headers. -/
def State.ipHeaders (s : State) (t : Nat) : Nat := if s.netCfg t 3 = 4 then 28 else 48

/-! ### Record format (R570) -/

/-- F: the largest fragment. -/
def State.fragmentBytes (s : State) (t : Nat) : Nat := (s.portCfg (s.netCfg t 1) 0x0B - s.ipHeaders t - 16) / 64 * 64

/-- One fragment of a record from an offset, in one datagram. -/
def State.sendFragment (s : State) (t : Nat) (bytes : List Byte) (index off f : Nat) : State :=
  let last := decide (bytes.length ≤ off + f)
  let flags := (if index = 0 then 1 else 0) + (if last then 2 else 0)
  let head := leBytes 4 (s.nstream t).seq ++ leBytes 1 t ++ leBytes 1 flags ++ leBytes 2 index ++ leBytes 4 off ++ leBytes 4 0
  (s.sendUdp t (head ++ slice bytes off f)).modNstream t (fun n => { n with seq := (n.seq + 1) % 2 ^ 32, fragments := index + 1 })

/-- The fragments of a record from one of them on, as long as the rate limit lets them go (R570, R581); after the last one the record
has left the queue. -/
def State.sendFragments (s : State) (t : Nat) (bytes : List Byte) : (fuel index : Nat) → State
  | 0, _ => s
  | fuel + 1, index =>
    let f := max 64 (s.fragmentBytes t)
    if !s.spaced t then s
    else
      let s := s.sendFragment t bytes index (index * f) f
      if bytes.length ≤ (index + 1) * f then
        s.modNstream t (fun n => { n with queue := n.queue.drop 1, records := n.records + 1, fragments := 0 }) |>.netTake t
      else s.sendFragments t bytes fuel (index + 1)

/-! ### VDIF (R571-R574) -/

/-- The output rate of a DDC record: fs / 2^k (R215). -/
def State.ddcRate (s : State) (rec : List Byte) : Nat := s.clk.rate / (s.divider (field rec 32 1) * 2 ^ field rec 54 1)

/-- Output number i of a DDC record: its second, its number in the second, and its components in offset binary (R573). -/
def State.vsample (s : State) (rec : List Byte) (i : Nat) : Nat × Nat × VSample :=
  let fo := s.ddcRate rec
  let w := if field rec 55 1 % 2 = 0 then 2 else 4
  let t0 := field rec 20 12
  let j := roundDiv ((t0 % 2 ^ 48) * fo : Nat) (2 ^ 48) + i
  let sec := t0 / 2 ^ 48 + j.toNat / fo
  let iv := field rec (64 + 2 * w * i) w
  let qv := field rec (64 + 2 * w * i + w) w
  let flip (v : Nat) : Nat := (v + 2 ^ (8 * w - 1)) % 2 ^ (8 * w)
  (sec, j.toNat % fo, { t := BitVec.ofNat 96 (t0 + i * 2 ^ 48 / fo), iq := some (flip iv, flip qv),
                        bad := decide (i < field rec 52 2) })

/-- Days from 1970-01-01 to the first day of VDIF reference epoch e: half-years from 2000-01-01 (R572). -/
def epochDays (e : Nat) : Nat :=
  let y := 30 + e / 2
  365 * y + (y + 1) / 4 + (if e % 2 = 1 then (if (y + 1970) % 4 = 0 then 182 else 181) else 0)

/-- Seconds since 1970-01-01 in UTC, from T96 seconds and TAI − UTC (R572, R576). -/
def State.utc (s : State) (t sec : Nat) : Nat := ((sec : Int) - s.cfgInt (s.pourOf (.net (Fin.ofNat 32 t))) 0x2D60 1).toNat

/-- One VDIF frame's header (R572). -/
def State.vdifHeader (s : State) (t sec n w : Nat) (bad : Bool) : List Byte :=
  let utc := s.utc t sec
  let secs := (utc - epochDays (s.netCfg t 0x0F) * 86400) % 2 ^ 30
  leBytes 4 (secs + (if bad then 2 ^ 31 else 0)) ++ leBytes 4 (s.netCfg t 0x0F * 2 ^ 24 + n)
    ++ leBytes 4 ((32 + s.netCfg t 0x10) / 8) ++ leBytes 4 (2 ^ 31 + (8 * w - 1) * 2 ^ 26 + s.netCfg t 0x0E * 2 ^ 16 + s.netCfg t 0x0D)
    ++ leBytes 16 0

/-! ### VITA 49.2 (R575-R578) -/

/-- Little-endian items of w bytes turned big-endian, item by item. -/
def swapItems (w : Nat) : (fuel : Nat) → List Byte → List Byte
  | 0, _ => []
  | fuel + 1, bs => if bs.isEmpty then [] else (bs.take w).reverse ++ swapItems w fuel (bs.drop w)

/-- What a VITA stream needs of a record: item bytes, first element, items, payload, geometry bytes (R575, R578). -/
structure VitaRec where
  width : Nat
  first : Nat
  items : Nat
  data  : List Byte
  geom  : List Byte

/-- The reading of a record by its type (R506, R344). -/
def VitaRec.of (b : List Byte) : VitaRec :=
  let typ := field b 0 1
  if typ = 0x11 then
    { width := if field b 55 1 % 2 = 0 then 2 else 4, first := field b 40 8, items := field b 48 4, data := b.drop 64,
      geom := slice b 54 2 }
  else if typ = 0x18 then
    let w := if field b 91 1 = 2 then 2 else if field b 91 1 = 3 then 8 else 4
    { width := w, first := field b 80 4, items := field b 84 4, data := b.drop 96, geom := slice b 88 8 }
  else
    { width := if field b 59 1 = 2 then 2 else 4, first := field b 48 4, items := field b 52 4, data := b.drop 64,
      geom := slice b 48 12 }

/-- Whether a record's channel works in Nyquist zone 2, by the record's pour (R252, R577). -/
def State.zoneTwo (s : State) (b : List Byte) : Bool := s.cfg (BitVec.ofNat 32 (field b 16 4)) (0x2400 + 16 * field b 32 1) 8 == 2

/-- The indicator bits of trailer and state field (R577). -/
def State.indicators (s : State) (b : List Byte) (loss : Bool) : Nat :=
  let f := field b 36 4
  let zone2 := s.zoneTwo b
  let bit (c : Bool) (i : Nat) : Nat := if c then 2 ^ i else 0
  bit (s.timeState == 2 && !f.testBit 7) 19 + bit (!f.testBit 2 && !f.testBit 3) 18
    + bit (s.clk.refin && s.num 0x2100 4 == 2 && s.num 0x2102 3 == 2) 17 + bit zone2 14 + bit (f.testBit 0) 13 + bit loss 12
    + bit (f.testBit 4) 11 + bit (f.testBit 1) 10 + bit (f.testBit 8) 9 + bit (f.testBit 6) 8

/-- Integer and fractional timestamps of a record (R576). -/
def State.vitaTime (s : State) (t : Nat) (b : List Byte) : List Byte :=
  let time := field b 20 12
  let sec := time / 2 ^ 48
  beBytes 4 (if s.netCfg t 0x14 = 0 then s.utc t sec else sec) ++ beBytes 8 (time % 2 ^ 48 * 10 ^ 12 / 2 ^ 48)

/-- Stream and class identifiers (R576). -/
def State.vitaIds (s : State) (t typ : Nat) : List Byte :=
  beBytes 4 (s.netCfg t 0x12) ++ beBytes 4 (s.netCfg t 0x13 % 2 ^ 24) ++ beBytes 2 0x4820 ++ beBytes 2 typ

/-- A packet header (R576): type, trailer, TSI, TSF 0b10, count, size in words. -/
def State.vitaHeader (s : State) (t ptype trailer count words : Nat) : List Byte :=
  beBytes 4 (ptype * 2 ^ 28 + 2 ^ 27 + trailer * 2 ^ 26 + (if s.netCfg t 0x14 = 0 then 1 else 3) * 2 ^ 22 + 2 * 2 ^ 20
    + count % 16 * 2 ^ 16 + words % 2 ^ 16)

/-- Hertz with a 20-bit fraction, the fixed-point form of a context field (VITA 49.2). -/
def hz20 (num den : Nat) : List Byte := beBytes 8 (num * 2 ^ 20 / max 1 den)

/-- The fields of a context packet after CIF0 (R578): bandwidth, RF reference frequency, sample rate, indicators, payload
format. -/
def State.vitaContext (s : State) (b : List Byte) (loss : Bool) : List Byte :=
  let v := VitaRec.of b
  let fs := s.clk.rate
  let d := s.divider (field b 32 1)
  let typ := field b 0 1
  let format := beBytes 4 ((if typ = 0x11 ∨ field b 59 1 = 0 then 2 ^ 29 else 0) + (if v.width = 4 ∧ typ ≠ 0x11 then 14 * 2 ^ 24 else 0)
    + (8 * v.width - 1) * 2 ^ 6 + (8 * v.width - 1)) ++ beBytes 4 0
  if typ = 0x11 then
    let fo := s.ddcRate b
    let c := field b 32 1
    let ftw := s.cfg (BitVec.ofNat 32 (field b 16 4)) (0x2300 + 16 * c + field b 33 1) 4
    hz20 (4 * fo) 5 ++ hz20 (ftw * fs) (d * 2 ^ 48) ++ hz20 fo 1 ++ beBytes 4 (0xFF000000 + s.indicators b loss) ++ format
  else
    let n := 2 ^ (if typ = 0x18 then field b 92 1 else field b 56 1)
    let mid := 2 * v.first + (v.items - 1)
    let zone2 := s.zoneTwo b
    hz20 (v.items * fs) (d * n) ++ (if zone2 then hz20 (fs * (2 * n - mid)) (2 * d * n) else hz20 (mid * fs) (2 * d * n)) ++ hz20 fs d
      ++ beBytes 4 (0xFF000000 + s.indicators b loss) ++ format

end Sys2Proof.Machine
end

