-- ==== Sys2Proof/Machine/Validate.lean ====
section
/-! DEFINITION. Validation of the configuration that a commit would leave (R75, R673): one check per chapter's table of block
reasons, each answering the offending entry and its reason. -/

namespace Sys2Proof.Machine

/-- What a check finds: the offending entry and its block reason, where the condition holds (R83). -/
def bad (c : Bool) (index sub reason : Nat) : List (Nat × Nat) := if c then [(keyOf index sub, reason)] else []

/-- Findings of a block that the configuration uses; none of one that is off (R673). -/
def used (c : Bool) (l : List (Nat × Nat)) : List (Nat × Nat) := if c then l else []

/-- A power of two. -/
def powerOfTwo (n : Nat) : Bool := n != 0 && n == 2 ^ n.log2

/-! ### Clocks (R106, R125, R126, R154) -/

/-- Clock entries: the rates of enabled channels with the trim target (R107), CLKOUT frequencies and phase offsets. -/
def State.checkClocks (s : State) (p : U32) : List (Nat × Nat) :=
  let syna : Int := s.cfg p 0x2100 1 * (10 ^ 12 + s.int 0x2100 2)
  (upTo 4).flatMap (fun c =>
    let d : Int := s.divider c
    let ph : Int := s.loopTarget c - s.bcfgInt .clocks (0x2181 + 16 * c) 2 + s.cfgInt p (0x2181 + 16 * c) 2
    used (s.enabled c) (bad (decide (syna < 10240000000 * 10 ^ 12 * d) || decide (20480000000 * 10 ^ 12 * d < syna)) 0x2100 1 0x2101
      ++ bad (decide (ph < 0) || decide (4095 < ph)) (0x2181 + 16 * c) 2 0x2103))
  ++ (upTo 4).flatMap (fun n =>
    bad (s.cfg p (0x2110 + n) 2 == 0 && decide (2560000000 * 10 ^ 12 * (s.cfg p (0x2110 + n) 3 : Int) < syna)) (0x2110 + n) 3 0x2102)

/-! ### Conditioner (R199) and DDCs (R213, R214, R233) -/

/-- Foreground requests of the commit, and the user equaliser. -/
def State.checkConditioner (s : State) (p : U32) (delta : Tab Val) : List (Nat × Nat) :=
  let fg := ((lookup delta (keyOf 0x2F80 1)).map Val.nat).getD 0
  (upTo 4).flatMap (fun c =>
    bad (fg.testBit c && !s.enabled c) 0x2F80 1 0x2201
    ++ bad (s.cfg p (0x2200 + 16 * c) 6 == 2 && (upTo 33).all (fun i => s.cfg p (0x2202 + 16 * c) (i + 1) == 0))
      (0x2200 + 16 * c) 6 0x2202)

/-- The enabled DDCs of a channel. -/
def State.ddcsOn (s : State) (p : U32) (c : Nat) : List Nat := (upTo 8).filter (fun k => s.cfgOn p (0x2300 + 16 * c + k) 1)

/-- DDC entries. -/
def State.checkDdcs (s : State) (p : U32) : List (Nat × Nat) :=
  (upTo 4).flatMap (fun c =>
    (s.ddcsOn p c).flatMap (fun k =>
      let i := 0x2300 + 16 * c + k
      let q := s.ddcShape p c k
      let bank := 2 ≤ q.source
      bad (q.preset == 4 && q.source != 0) i 7 0x2301
      ++ bad (bank && (s.bankImage c k q.source).isEmpty) i 7 0x2305
      ++ bad (q.preset != 4 && q.source != 0 && s.respLen c k q.resp != presetCfir q.preset) i (if q.source = 1 then 8 else 7) 0x2303
      ++ bad (s.cfgOn p i 0x0E && decide (s.cfgInt p i 0x0F < s.cfgInt p i 0x10)) i 0x10 0x2304)
    ++ bad (decide (2 ^ 20 < (s.ddcsOn p c).foldl (fun a k => a + 2 ^ (20 - s.cfg p (0x2300 + 16 * c + k) 3)) 0))
      (0x2300 + 16 * c + (s.ddcsOn p c).headD 0) 3 0x2302)

/-! ### Transforms (R238, R244, R246, R254, R255, R260, R265, R270, R271, R279, R282) -/

/-- The four-byte numbers of an image. -/
def words32 (b : List Byte) : List Nat := (upTo (b.length / 4)).map (fun i => field b (4 * i) 4)

/-- Ascending without repeats. -/
def ascending (l : List Nat) : Bool := (l.zip l.tail).all (fun (a, b) => decide (a < b))

/-- Channel c's main transform. -/
def State.checkMain (s : State) (p : U32) (c : Nat) : List (Nat × Nat) :=
  let i := 0x2400 + 16 * c
  let q := s.mainShape p c
  let half := q.len / 2
  let k0 := s.cfg p i 0x0A
  let k := s.cfg p i 0x0B
  let b := s.cfg p i 0x0C
  let bins := words32 (s.cfgData p (0x2404 + 16 * c) 0)
  let size := (s.cfgData p (0x2404 + 16 * c) 0).length
  let bank := (s.val 0x2481 (q.window - 4)).data
  bad (!(q.mode == 0 && (decide (q.n ≤ 16) || q.hop == 0) || q.mode == 1 && decide (q.n ≤ 16) && q.hop == 0)) i 2 0x2401
  ++ bad (q.twoPass && decide (8192 * s.cfg p 0x2100 1 < q.len * s.divider c * 10000000)) i 2 0x2402
  ++ bad (decide (5 ≤ q.window) && (field bank 0 4 != q.span || decide (s.coefSum q ≤ 0))) i 5 0x2404
  ++ bad (decide (half < k0 + 16) || k % 16 != 0 || decide (half < k0 + k)) i 0x0A 0x2407
  ++ bad (b != 0 && !(powerOfTwo b && decide (64 ≤ b) && decide (b ≤ 2 ^ 20))) i 0x0C 0x2407
  ++ bad (size % 4 != 0 || decide (1024 < size) || bins.any (fun x => decide (half ≤ x)) || !ascending bins) (0x2404 + 16 * c) 0 0x2407

/-- The side transforms of channel c. -/
def State.checkSides (s : State) (p : U32) (c : Nat) : List (Nat × Nat) :=
  [0, 4].flatMap (fun o =>
    bad (s.cfgOn p (0x2401 + 16 * c) (1 + o) && s.cfg p (0x2401 + 16 * c) (3 + o) == 1
      && decide (12 < s.cfg p (0x2401 + 16 * c) (2 + o))) (0x2401 + 16 * c) (3 + o) 0x2408)

/-- The pairs of the cross-power unit: a pair with a main transform that is off is not compared (R673). -/
def State.checkPairs (s : State) (p : U32) : List (Nat × Nat) :=
  (crossPairs.zipIdx).flatMap (fun (((a, b), i) : (Nat × Nat) × Nat) =>
    used ((s.cfg p 0x2480 1).testBit i && s.cfgOn p (0x2400 + 16 * a) 1 && s.cfgOn p (0x2400 + 16 * b) 1)
      (bad (s.divider a != s.divider b) 0x2480 1 0x2405
      ++ ([2, 3, 4, 5, 6, 7, 8]).flatMap (fun sub =>
        bad (s.cfg p (0x2400 + 16 * a) sub != s.cfg p (0x2400 + 16 * b) sub) (0x2400 + 16 * b) sub 0x2405)
      ++ bad (decide (2 ≤ i) && decide (14 < s.cfg p (0x2400 + 16 * a) 2)) 0x2480 1 0x2406))

/-- Transform entries. -/
def State.checkTransforms (s : State) (p : U32) : List (Nat × Nat) :=
  (upTo 4).flatMap (fun c => used (s.cfgOn p (0x2400 + 16 * c) 1) (s.checkMain p c) ++ s.checkSides p c) ++ s.checkPairs p

/-! ### Trigger units (R290, R299, R303, R316) -/

/-- Index of unit u of 16. -/
def unitEntry (u : Nat) : Nat := 0x2500 + 16 * (u / 4) + u % 4

/-- Whether the chain of A units above unit u is broken: a cycle, or more than `fuel` units (R303). A unit of kind 0 ends it. -/
def State.chainBad (s : State) (p : U32) (seen : List Nat) (u : Nat) : (fuel : Nat) → Bool
  | 0 => s.cfg p (unitEntry u) 0x14 == 1 && s.cfg p (unitEntry u) 1 != 0
  | fuel + 1 =>
    if s.cfg p (unitEntry u) 0x14 == 1 && s.cfg p (unitEntry u) 1 != 0 then
      let a := s.cfg p (unitEntry u) 0x15
      seen.contains a || s.chainBad p (a :: seen) a fuel
    else false

/-- One trigger unit. -/
def State.checkUnit (s : State) (p : U32) (u : Nat) : List (Nat × Nat) :=
  let i := unitEntry u
  let c := u / 4
  let kind := s.cfg p i 1
  let src := s.cfg p i 2
  let framed := kind == 1 || kind == 2
  let o := if src = 0 then 4 else 0
  let cols := 2 ^ s.cfg p (0x2401 + 16 * c) (2 + o) / 2
  let lo := s.cfg p i 5
  let hi := s.cfg p i 6
  let image := s.cfgData p i 0x1C
  let q := s.cfg p i 0x13
  let k := (q - 1) % 8
  let shape := s.ddcShape p c k
  used framed
    (bad (decide (1 < src) || !s.cfgOn p (0x2401 + 16 * c) (1 + o)) i 2 0x2503
    ++ bad (kind == 1 && (image.isEmpty || field image 0 4 != cols)) i 0x1C 0x2501
    ++ bad (decide (hi < lo)) i 5 0x2502
    ++ bad (decide (cols ≤ hi)) i 6 0x2502
    ++ bad (kind == 1 && decide (hi - lo + 1 < s.cfg p i 4)) i 4 0x2502
    ++ bad (kind == 2 && decide (s.cfg p i 9 * (hi - lo + 1) < s.cfg p i 0x0A)) i 0x0A 0x2502)
  ++ bad (decide (5 ≤ kind) && !s.cfgOn p (0x2300 + 16 * c + src) 1) i 2 0x2504
  ++ used (q != 0)
    (bad (!s.cfgOn p (0x2300 + 16 * c + k) 1
      || decide (99952 * s.cfg p 0x2100 1 < shape.delay * s.divider c * 1000000000)) i 0x13 0x2504)
  ++ used (s.cfg p i 0x14 == 1)
    (bad (decide (s.cfg p i 0x17 ≤ s.cfg p i 0x16)) i 0x17 0x2505 ++ bad (s.chainBad p [u] u 3) i 0x15 0x2505)
  ++ bad (s.cfg p i 0x0F == 3 && decide (s.cfg p i 0x11 ≤ s.cfg p i 0x10)) i 0x11 0x2506
  ++ bad (kind == 2 && decide (s.cfgInt p i 8 ≤ s.cfgInt p i 7)) i 7 0x2506

/-- Trigger entries. -/
def State.checkTriggers (s : State) (p : U32) : List (Nat × Nat) :=
  (upTo 16).flatMap (fun u => used (s.cfg p (unitEntry u) 1 != 0) (s.checkUnit p u))

/-! ### Density and reductions (R318, R332, R333, R335, R340, R346) -/

/-- A density engine. -/
def State.checkDensity (s : State) (p : U32) (c : Nat) : List (Nat × Nat) :=
  let i := 0x2600 + 16 * c
  bad (!s.cfgOn p (0x2401 + 16 * c) 1) i 1 0x2601
  ++ bad (!powerOfTwo (s.cfg p i 9)) i 9 0x2602
  ++ bad (decide (s.cfg p i 0x0B < s.cfg p i 0x0A)) i 0x0A 0x2602
  ++ bad (decide (s.cfg p i 3 ≤ s.cfg p i 0x0B)) i 0x0B 0x2602
  ++ bad (decide (32768 < s.cfgInt p i 4 + s.cfg p i 3 * s.cfg p i 5)) i 4 0x2602

/-- Type, source and format together name a row of R333. -/
def reductionRow (typ source fmt : Nat) : Bool :=
  if source ≤ 1 then decide (typ ≤ 5) && (fmt == 1 || fmt == 2) || typ == 6
  else (typ == 2 || typ == 5) && fmt == 0

/-- Reduction slot r of channel c. -/
def State.checkSlot (s : State) (p : U32) (c r : Nat) : List (Nat × Nat) :=
  let i := 0x2602 + 16 * c + r
  let source := s.cfg p i 3
  let half := (s.mainShape p c).len / 2
  let on := if source = 0 then s.cfgOn p (0x2400 + 16 * c) 1
    else if source = 1 then (s.cfg p 0x2480 2).testBit c
    else (crossPairs.zipIdx).any (fun (((a, b), n) : (Nat × Nat) × Nat) =>
      a == c && b == c + source - 1 && (s.cfg p 0x2480 1).testBit n)
  bad (!on) i 3 0x2605
  ++ bad (!reductionRow (s.cfg p i 2) source (s.cfg p i 7)) i 2 0x2604
  ++ bad (decide (half ≤ s.cfg p i 5) || decide (half < s.cfg p i 5 + s.cfg p i 6)) i 6 0x2603
  ++ bad (s.cfg p i 2 == 6 && s.cfgOn p i 0x0A && decide (s.cfg p i 0x0C ≤ s.cfg p i 0x0B)) i 0x0B 0x2606

/-- Density, reduction and envelope entries; the range of points per record is checked where it is written. -/
def State.checkReductions (s : State) (p : U32) : List (Nat × Nat) :=
  (upTo 4).flatMap (fun c =>
    used (s.cfgOn p (0x2600 + 16 * c) 1) (s.checkDensity p c)
    ++ (upTo 6).flatMap (fun r => used (s.cfgOn p (0x2602 + 16 * c + r) 1) (s.checkSlot p c r))
    ++ bad (decide (6291456 < (upTo 6).foldl (fun a r => a + s.slotBytes p p c r) 0)) (0x2602 + 16 * c) 6 0x2603)

/-! ### Captures and the slot table (R370, R375, R376) -/

/-- Capture controller c. -/
def State.checkCapture (s : State) (p : U32) (c : Nat) : List (Nat × Nat) :=
  let i := 0x2700 + 16 * c
  let len := s.cfg p i 2
  let k := s.cfg p i 4
  let base := s.cfg p i 5
  let size := s.cfg p i 6
  let f := s.cfg p i 8
  bad (len % 4096 != 0 || decide (len < 4096)) i 2 0x2701
  ++ bad (s.cfg p i 3 % 128 != 0 || decide (min (2 ^ 26) (len - 128) < s.cfg p i 3)) i 3 0x2701
  ++ bad (base % 0x20000 != 0 || decide (cornerTurnBase < base + size)
    || s.dma.runners.any (fun (_, r) => r.kind == 1 && rangesMeet base (base + size) r.base (r.base + r.slots * r.slotBytes))) i 5 0x2702
  ++ bad (size % 0x20000 != 0 || decide (2 * size < k * (3 * len + 128))) i 6 0x2702
  ++ bad ((upTo 4).any (fun d => decide (d < c) &&
    ((s.captureRegion p d).map (fun (a, b) => rangesMeet a b base (base + size))).getD false)) i 5 0x2703
  ++ bad (f != 255 && (f == c || !s.enabled f || s.cfg p (0x2700 + 16 * f) 1 == 0 || s.cfg p (0x2700 + 16 * f) 8 != 255)) i 8 0x2704
  ++ bad ((upTo 16).any (fun u => (s.cfg p i 7).testBit u && s.cfg p (unitEntry u) 1 == 0)) i 7 0x2704
  ++ bad (k == 1 && decide (2 ≤ s.cfg p i 1)) i 4 0x2705

/-- The re-arm gap r at the nominal rate of a configuration (R359). -/
def State.gapOf (s : State) (p : U32) (c : Nat) : Nat := 2 ^ (s.cfg p 0x2100 1 * 60 / (s.divider c * 1000000000)).log2

/-- Whether n slots of a table of S carry the capture of channel c: 1.5 fs + 64 fs / (L + r), without r in mode 3 (R375). -/
def State.capFits (s : State) (p : U32) (c n size : Nat) : Bool :=
  let i := 0x2700 + 16 * c
  let l := s.cfg p i 2 + (if s.cfg p i 1 = 3 then 0 else s.gapOf p c)
  decide (size * s.cfg p 0x2100 1 * (3 * l + 128) ≤ n * 3276800000000 * 2 * l * s.divider c)

/-- The greatest distance between slots of a class, counted cyclically. -/
def widestGap (table : List Nat) (code : Nat) : Nat :=
  let at' := ((table.zipIdx).filter (fun x => x.1 == code)).map Prod.snd
  match at' with
  | [] => 0
  | a :: _ => ((at'.zip (at'.tail ++ [a + table.length])).map (fun (x, y) => y - x)).foldl max 0

/-- An outstanding commit, other than the one under validation, contains a table (R376). -/
def State.outstandingTable (s : State) (p : U32) : Bool :=
  s.outstanding.any (fun q => q.number != p && (lookup q.delta (keyOf 0x2800 1)).isSome)

/-- The slot table of a configuration: a second outstanding table, the reserve, the real-time share, each class's requirement and
its spacing. -/
def State.checkTable (s : State) (p : U32) (delta : Tab Val) : List (Nat × Nat) :=
  let t := imageCodes (s.cfgData p 0x2800 1)
  let n := t.length
  bad ((lookup delta (keyOf 0x2800 1)).isSome && s.outstandingTable p) 0x2800 1 0x2805
  ++ bad ((t.zipIdx).any (fun (c, i) => (i % 128 == 127) != (c == 0xFF))) 0x2800 1 0x2801
  ++ bad (decide (4 * n / 5 < (t.filter realTime).length)) 0x2800 1 0x2802
  ++ (upTo 4).flatMap (fun c =>
    bad (s.cfg p (0x2700 + 16 * c) 1 != 0 && !s.capFits p c (slotsOf t (0x09 + c)) n) (0x2700 + 16 * c) 1 0x2706)
  ++ (upTo 16).flatMap (fun g =>
    let d := s.cfg p (0x2B20 + g) 3
    let need := (if d = 2 then 0 else s.cfg p (0x2B20 + g) 1) + (if d = 1 then 0 else s.cfg p (0x2B20 + g) 2)
    bad (decide (slotsOf t (0x11 + g) * 3276800 < n * need)) (0x2B20 + g) 1 0x2803)
  ++ (upTo 4).flatMap (fun c =>
    bad (s.cfgOn p (0x2400 + 16 * c) 1 && (s.mainShape p c).twoPass
      && decide (min (slotsOf t (1 + c)) (slotsOf t (5 + c)) * 3276800000000 * s.divider c < n * 4 * s.cfg p 0x2100 1))
      (0x2400 + 16 * c) 2 0x2403)
  ++ ((t.eraseDups).filter realTime).flatMap (fun code =>
    let k := slotsOf t code
    bad (decide ((n + k - 1) / k + 8 < widestGap t code)) 0x2800 1 0x2804)

/-- Capture and memory entries. -/
def State.checkMemory (s : State) (p : U32) (delta : Tab Val) : List (Nat × Nat) :=
  (upTo 4).flatMap (fun c => used (s.cfg p (0x2700 + 16 * c) 1 != 0) (s.checkCapture p c)) ++ s.checkTable p delta

/-! ### Ladles (R412, R413, R423, R435) -/

/-- A tap port's source is enabled (R413). -/
def State.sourceOn (s : State) (p : U32) (kind c k : Nat) : Bool :=
  match kind with
  | 1 => decide (k ≤ 5) && s.cfgOn p (0x2602 + 16 * c + k) 1
  | 2 => s.cfgOn p (0x2400 + 16 * c) 1 && !(s.cfgData p (0x2404 + 16 * c) 0).isEmpty
  | 3 => decide (k ≤ 7) && s.cfgOn p (0x2300 + 16 * c + k) 1
  | 4 => decide (k ≤ 7) && s.cfgOn p (0x2A00 + 16 * k) 1
  | _ => false

/-- The rings of a cluster that are configured: entry, base and end in units of 4 KiB (R412). -/
def State.clusterRings (s : State) (p : U32) (g : Nat) : List ((Nat × Nat) × (Nat × Nat)) :=
  (upTo 16).flatMap (fun i => (upTo 4).flatMap (fun t =>
    let v := s.cfg p (0x2903 + t + 16 * g) (i + 1)
    if v / 2 ^ 56 = 0 then [] else [((0x2903 + t + 16 * g, i + 1), (v / 2 ^ 16 % 512, v / 2 ^ 16 % 512 + v % 1024))]))

/-- Ladle entries of cluster g. -/
def State.checkCluster (s : State) (p : U32) (g : Nat) : List (Nat × Nat) :=
  let rings := s.clusterRings p g
  (upTo 16).flatMap (fun i =>
    bad (s.cfgOn p (0x2900 + 16 * g) (i + 1) && (s.imageOf (16 * g + i)).isEmpty) (0x2900 + 16 * g) (i + 1) 0x2901
    ++ (upTo 4).flatMap (fun t =>
      let v := s.cfg p (0x2903 + t + 16 * g) (i + 1)
      let kind := v / 2 ^ 56
      let c := v / 2 ^ 48 % 256
      used (kind != 0)
        (bad (kind != 4 && c / 2 != g / 8) (0x2903 + t + 16 * g) (i + 1) 0x2903
        ++ bad (!s.sourceOn p kind c (v / 2 ^ 40 % 256)) (0x2903 + t + 16 * g) (i + 1) 0x2902))
    ++ (upTo 8).flatMap (fun k =>
      (s.cfgRunner p (0x2907 + 16 * g) (8 * i + k + 1)).flatMap (fun n =>
        bad ((s.runner n).kind == 0) (0x2907 + 16 * g) (8 * i + k + 1) 0x2904)))
  ++ (rings.zipIdx).flatMap (fun ((((index, sub), a, b), n) : ((Nat × Nat) × (Nat × Nat)) × Nat) =>
    bad (decide (b ≤ a) || decide (512 < b) || (rings.take n).any (fun r => rangesMeet a b r.2.1 r.2.2)) index sub 0x2902)

/-- Ladle entries. -/
def State.checkLadles (s : State) (p : U32) : List (Nat × Nat) := (upTo 16).flatMap (s.checkCluster p)

/-! ### The time-interval unit (R486, R494) -/

/-- Time-interval entries. -/
def State.checkTiu (s : State) (p : U32) : List (Nat × Nat) :=
  let mode := s.cfg p 0x2A80 1
  let len := s.cfg p 0x2A80 3
  let t := s.cfg p 0x2A80 6
  bad (decide (2 ≤ mode) && len == 0) 0x2A80 3 0x2A02
  ++ bad (mode == 3 && t != 0 && decide (t < len)) 0x2A80 6 0x2A02
  ++ (upTo 4).flatMap (fun u =>
    let i := 0x2A90 + u
    used (s.cfgOn p i 1)
      (bad (!s.cfgOn p (0x2A00 + 16 * s.cfg p i 2) 1) i 2 0x2A01
      ++ bad (!s.cfgOn p (0x2A00 + 16 * s.cfg p i 3) 1) i 3 0x2A01
      ++ bad (s.cfgOn p i 4 && s.cfg p i 2 != s.cfg p i 3) i 4 0x2A03))

/-! ### Runner references (R499, R533) -/

/-- A producer's output to a runner: the entry that names it, its writer, the record type, the largest record in bytes, and the
channel and DDC of a DDC's samples. -/
structure OutRef where
  index  : Nat
  sub    : Nat
  writer : Nat
  typ    : Nat
  size   : Nat
  ddc    : Nat := 0
  flagged : Bool := false

/-- Bytes of one value of a format (R251). -/
def formatBytes (fmt : Nat) : Nat := if fmt = 0 then 8 else if fmt = 1 then 4 else 2

/-- A part of at most b of k bins. -/
def partOf (k b : Nat) : Nat := if b = 0 then k else min k b

/-- The outputs of channel c that name a runner. -/
def State.channelRefs (s : State) (p : U32) (c : Nat) : List OutRef :=
  let half := (s.mainShape p c).len / 2
  let m := 0x2400 + 16 * c
  let k := if s.cfg p m 0x0B = 0 then half - s.cfg p m 0x0A else s.cfg p m 0x0B
  let raw : OutRef := { index := 0x2200 + 16 * c, sub := 8, writer := 0, typ := 0x10, size := 64 + 3 * s.cfg p (0x2200 + 16 * c) 9 / 2 }
  let ddcs := (s.ddcsOn p c).flatMap (fun d =>
    let i := 0x2300 + 16 * c + d
    let w := if s.cfg p i 0x0A = 0 then 4 else 8
    [{ index := i, sub := 0x0D, writer := 0, typ := 0x11, size := 64 + w * s.cfg p i 0x0C, ddc := 8 * c + d }]
    ++ (if s.cfgOn p i 0x0E then [{ index := i, sub := 0x12, writer := 0, typ := 0x12, size := 64 }] else []))
  let main : List OutRef := if s.cfgOn p m 1 then
    [{ index := m, sub := 0x0D, writer := 0, typ := 0x13, size := 64 + partOf k (s.cfg p m 0x0C) * formatBytes (s.cfg p m 9) }] else []
  let auto : List OutRef := if (s.cfg p 0x2480 2).testBit c then
    [{ index := 0x2480, sub := 0x0A + c, writer := 0, typ := 0x14, size := 64 + half * (if s.cfg p 0x2480 3 = 0 then 4 else 2) }] else []
  let cross := (crossPairs.zipIdx).flatMap (fun (((a, _), i) : (Nat × Nat) × Nat) =>
    if a == c && (s.cfg p 0x2480 1).testBit i then
      [{ index := 0x2480, sub := 4 + i, writer := 0, typ := 0x15, size := 64 + half * 8 : OutRef }] else [])
  let trigs := (upTo 4).flatMap (fun u =>
    let i := 0x2500 + 16 * c + u
    if s.cfgOn p i 1 && (s.cfg p i 0x19).testBit 1 then
      [{ index := i, sub := 0x1A, writer := 1, typ := 0x16, size := 104 : OutRef }] else [])
  let dens : List OutRef :=
    let i := 0x2600 + 16 * c
    let cols := 2 ^ s.cfg p (0x2401 + 16 * c) 2 / 2
    if s.cfgOn p i 1 then
      [{ index := i, sub := 0x0C, writer := 0, typ := 0x17
         size := 128 + 2 * min (s.cfg p i 9) cols * (s.cfg p i 0x0B - s.cfg p i 0x0A + 1) }] else []
  let slots := (upTo 6).flatMap (fun r =>
    let i := 0x2602 + 16 * c + r
    let kr := if s.cfg p i 6 = 0 then half - s.cfg p i 5 else s.cfg p i 6
    let n := partOf kr (s.cfg p i 8)
    let flagging := s.cfg p i 2 == 6 && s.cfgOn p i 0x0A
    let w := if s.cfg p i 2 = 6 then 16 else formatBytes (s.cfg p i 7)
    if s.cfgOn p i 1 then
      [{ index := i, sub := 9, writer := 0, typ := 0x18, size := 96 + n * w + (if flagging then (n + 63) / 64 * 8 else 0)
         flagged := flagging : OutRef }] else [])
  let envs := (upTo 2).flatMap (fun g =>
    if s.cfgOn p (0x2609 + 16 * c) (1 + 4 * g) then
      [{ index := 0x2609 + 16 * c, sub := 4 + 4 * g, writer := 0, typ := 0x19
         size := 80 + 8 * s.cfg p (0x2609 + 16 * c) (3 + 4 * g) : OutRef }] else [])
  let notice : List OutRef := if s.cfgOn p (0x2700 + 16 * c) 1 then
    [{ index := 0x2700 + 16 * c, sub := 0x0A, writer := 0, typ := 0x1A, size := 128 }] else []
  [raw] ++ ddcs ++ main ++ auto ++ cross ++ trigs ++ dens ++ slots ++ envs ++ notice

/-- The outputs of the time-interval unit that name a runner. -/
def State.tiuRefs (s : State) (p : U32) : List OutRef :=
  (upTo 8).flatMap (fun n =>
    if s.cfgOn p (0x2A00 + 16 * n) 1 then
      [{ index := 0x2A00 + 16 * n, sub := 8, writer := 0, typ := 0x1B, size := 104 + 16 * s.cfg p (0x2A00 + 16 * n) 6 : OutRef }] else [])
  ++ (if s.cfgOn p 0x2A80 1 then [{ index := 0x2A80, sub := 7, writer := 0, typ := 0x1C, size := 64 : OutRef }] else [])
  ++ (upTo 4).flatMap (fun u =>
    if s.cfgOn p (0x2A90 + u) 1 then
      [{ index := 0x2A90 + u, sub := 8, writer := 0, typ := 0x1D, size := 80 + 32 * s.cfg p (0x2A90 + u) 0x0A },
       { index := 0x2A90 + u, sub := 9, writer := 0, typ := 0x1E, size := 152 }] else [])

/-- The publish slots of the ladles; a ladle is one writer (R499). -/
def ladleRefs : List OutRef :=
  (upTo 256).flatMap (fun l => (upTo 8).map (fun k =>
    { index := 0x2907 + 16 * (l / 16), sub := 8 * (l % 16) + k + 1, writer := 2 + l, typ := 0x80, size := 64 }))

/-- Every output of a configuration with the runner that it names. The trigger units' outputs to one runner are the decision
tap's (R315). -/
def State.outRefs (s : State) (p : U32) : List (OutRef × Nat) :=
  ((upTo 4).flatMap (s.channelRefs p) ++ s.tiuRefs p ++ ladleRefs).flatMap (fun o =>
    (s.cfgRunner p o.index o.sub).map (fun n => (o, n)))

/-- Two outputs that are not one writer's. -/
def OutRef.rivals (a b : OutRef) : Bool := a.writer != b.writer || a.writer == 0

/-- Runner references. -/
def State.checkRunners (s : State) (refs : List (OutRef × Nat)) : List (Nat × Nat) :=
  (refs.zipIdx).flatMap (fun (((o, n), i) : (OutRef × Nat) × Nat) =>
    let r := s.runner n
    bad (r.kind != 1) o.index o.sub 0x2B01
    ++ bad (r.kind == 1 && decide (r.slotBytes < o.size)) o.index o.sub 0x2B02
    ++ bad ((refs.take i).any (fun (q, m) => m == n && o.rivals q)) o.index o.sub 0x2B03)

/-! ### The recording store (R550, R560) -/

/-- The streams that a configuration records. -/
def State.streamsOn (s : State) (p : U32) : List Nat := (upTo 32).filter (fun n => s.cfg p (0x2C20 + n) 1 != 0)

/-- Whether drive d is in service. -/
def State.serves (s : State) (d : Nat) : Bool := s.inService.contains d

/-- A replay that runs, and whether it reads drive d. -/
def Replay.runs (r : Replay) : Bool := r.st == 1 || r.st == 2
def State.replayReads (s : State) (p : U32) (r : Replay) (d : Nat) : Bool := r.runs && (s.cfg p (0x2C20 + r.stream) 3).testBit d

/-- What the streams, the scrub and the replays ask of drive d: numerator and denominator in MB/s (R550). Shares have the
denominator 840, a multiple of 1 to 8. -/
def State.driveLoad (s : State) (p : U32) (d : Nat) : Nat :=
  let streams := (s.streamsOn p).foldl (fun a n =>
    let mask := s.cfg p (0x2C20 + n) 3
    if mask.testBit d then a + 840 * s.cfg p (0x2C20 + n) 4 / max 1 ((s.inService.filter mask.testBit).length) else a) 0
  let replays := (upTo 8).foldl (fun a r =>
    if s.replayReads p (Tab.get (fun _ => Replay.idle) s.sto.replays r) d then a + 840 * s.cfg p (0x2C60 + r) 9 else a) 0
  streams + replays + 840 * s.cfg p 0x2C00 6

/-- Store entries. A drive declared with rate 0 and named by no stream is not used (R561). -/
def State.checkStore (s : State) (p : U32) (refs : List (OutRef × Nat)) : List (Nat × Nat) :=
  let on := s.streamsOn p
  on.flatMap (fun n =>
    let i := 0x2C20 + n
    let mask := s.cfg p i 3
    let c := s.cfg p i 2
    bad (s.sto.st != 3) i 1 0x2C01
    ++ bad (mask == 0 || (upTo 8).any (fun d => mask.testBit d && !s.serves d)) i 3 0x2C03
    ++ bad ((upTo 8).any (fun d => mask.testBit d &&
      (((s.drive d).info.map (fun q => q.activeLimit.toNat != 0 &&
        decide (q.activeLimit.toNat < 4 + (on.filter (fun m => (s.cfg p (0x2C20 + m) 3).testBit d)).length))).getD false))) i 3 0x2C04
    ++ used (s.cfg p i 1 == 2)
      (bad (decide (3 < c) || s.cfg p (0x2700 + 16 * c) 9 != 1
        || on.any (fun m => decide (m < n) && s.cfg p (0x2C20 + m) 1 == 2 && s.cfg p (0x2C20 + m) 2 == c)) i 2 0x2C05
      ++ bad (decide (c ≤ 3) &&
        !s.capFits p c (slotsOf (imageCodes (s.cfgData p 0x2800 1)) (0x0D + c)) (imageCodes (s.cfgData p 0x2800 1)).length) i 2 0x2C06))
  ++ s.inService.flatMap (fun d =>
    let rate := s.cfg p 0x2C02 (d + 1)
    used (rate != 0 || on.any (fun n => (s.cfg p (0x2C20 + n) 3).testBit d))
      (bad (decide (840 * min rate 20000 < s.driveLoad p d)) 0x2C02 (d + 1) 0x2C02))
  ++ bad (decide (160000 < on.foldl (fun a n => a + s.cfg p (0x2C20 + n) 4) 0)) (0x2C20 + on.headD 0) 4 0x2C02
  ++ (upTo 8).flatMap (fun r =>
    let q := Tab.get (fun _ => Replay.idle) s.sto.replays r
    bad (q.runs && refs.any (fun x => x.2 == q.runner)) (0x2C60 + r) 8 0x2C07)

/-! ### Network streams (R565, R568, R571, R575, R591) -/

/-- The runners that feed stream t and that the configuration or a running replay writes. -/
def State.feeders (s : State) (refs : List (OutRef × Nat)) (t : Nat) : List (Nat × Runner) :=
  s.dma.runners.filter (fun (n, r) => r.kind == 1 && (r.dest == 2 || r.dest == 3) && r.handle.toNat == t
    && (refs.any (fun x => x.2 == n) || s.sto.replays.any (fun (_, q) => q.runs && q.runner == n)))

/-- A VDIF stream: one DDC's samples, P_v and the frames per second (R571). -/
def State.vdifBad (s : State) (p : U32) (t : Nat) (outs : List OutRef) : Bool :=
  match outs with
  | [o] =>
    let c := o.ddc / 8
    let i := 0x2300 + 16 * c + o.ddc % 8
    let w := if s.cfg p i 0x0A = 0 then 4 else 8
    let pv := s.cfg p (0x2D10 + t) 0x10
    o.typ != 0x11 || pv % 8 != 0 || pv % w != 0 || s.cfg p 0x2100 1 * w % (s.divider c * 2 ^ s.cfg p i 3 * max 1 pv) != 0
  | _ => true

/-- A VITA packet of the largest record of an output is too long, or the stream does not take its type (R575, R576). -/
def vitaBad (headers mtu : Nat) (o : OutRef) : Bool :=
  let items := o.size - (if o.typ = 0x18 then 96 else 64)
  ! [0x11, 0x13, 0x14, 0x15, 0x18].contains o.typ || o.flagged || decide (mtu < headers + 48 + (items + 3) / 4 * 4)

/-- Network stream t, which runners feed. -/
def State.checkStream (s : State) (p : U32) (refs : List (OutRef × Nat)) (t : Nat) (fed : List (Nat × Runner)) : List (Nat × Nat) :=
  let i := 0x2D10 + t
  let port := s.cfg p i 1
  let v6 := s.cfg p i 3 == 6
  let headers := if v6 then 48 else 28
  let mtu := s.portCfg port 0x0B
  let outs := (refs.filter (fun x => fed.any (fun f => f.1 == x.2))).map Prod.fst
  let addr := if v6 then s.portCfg port 6 + s.portCfg port 7 else s.portCfg port 3
  bad (fed.any (fun f => f.2.dest != 2 + port) || s.portCfg port 1 == 0) i 1 0x2D01
  ++ bad (addr == 0) i 3 0x2D02
  ++ used (s.cfg p i 2 == 1)
    (bad (decide (mtu < headers + (if s.cfgOn p i 0x11 then 8 else 0) + 32 + s.cfg p i 0x10)) i 0x10 0x2D02
    ++ bad (fed.length != 1 || s.vdifBad p t outs) i 2 0x2D03)
  ++ used (s.cfg p i 2 == 2) (bad (outs.any (vitaBad headers mtu)) i 2 0x2D04)

/-- Network entries. -/
def State.checkNet (s : State) (p : U32) (refs : List (OutRef × Nat)) : List (Nat × Nat) :=
  (upTo 32).flatMap (fun t =>
    let fed := s.feeders refs t
    used (!fed.isEmpty) (s.checkStream p refs t fed))

/-! ### Health (R597, R607, R608, R629) -/

/-- A source code of R593. -/
def sourceExists (code : Nat) : Bool :=
  decide (1 ≤ code) && decide (code ≤ 0x0A) || decide (0x10 ≤ code) && decide (code ≤ 0x16)
    || decide (0x20 ≤ code) && decide (code ≤ 0x27) || decide (0x30 ≤ code) && decide (code ≤ 0x33)

/-- Health entries. -/
def State.checkHealth (s : State) (p : U32) : List (Nat × Nat) :=
  (upTo 16).flatMap (fun m =>
    let i := 0x2E00 + m
    let h : Int := s.cfg p i 5
    used (s.cfg p i 1 != 0)
      (bad (decide (s.cfgInt p i 3 - h ≤ s.cfgInt p i 4 + h)) i 3 0x2E01
      ++ bad (decide (8 ≤ m) && (!sourceExists (s.cfg p i 2) || decide (0x30 ≤ s.cfg p i 2))) i 2 0x2E04))
  ++ (upTo 12).flatMap (fun k =>
    let i := 0x2E40 + k
    let base := s.cfg p i 6
    let size := s.cfg p i 7
    used (s.cfg p i 1 != 0)
      (bad (!sourceExists (s.cfg p i 2)) i 2 0x2E04
      ++ bad (s.cfg p i 1 == 1 && s.app 0x2E30 1 == 1) i 1 0x2E03
      ++ bad (size % 64 != 0 || decide (size < 4096) || decide (2 ^ 24 < size)) i 7 0x2E02
      ++ bad (base % 64 != 0 || !inRemainder base size || (upTo 4).any (fun c =>
        ((s.captureRegion p c).map (fun (a, b) => rangesMeet a b base (base + size))).getD false)) i 6 0x2E02))

/-! ### The whole configuration -/

/-- Every finding about the configuration that pour p names, in the order of the chapters. -/
def State.findings (s : State) (p : U32) (delta : Tab Val) : List (Nat × Nat) :=
  let refs := s.outRefs p
  s.checkClocks p ++ s.checkConditioner p delta ++ s.checkDdcs p ++ s.checkTransforms p ++ s.checkTriggers p
    ++ s.checkReductions p ++ s.checkMemory p delta ++ s.checkLadles p ++ s.checkTiu p ++ s.checkRunners refs
    ++ s.checkStore p refs ++ s.checkNet p refs ++ s.checkHealth p

/-- Validation of a frozen set over the newest accepted configuration: the first finding, if any (R75). -/
def State.validate (s : State) (delta : Tab Val) : Option (Nat × Nat) :=
  let top := (s.ctl.pours.head?.map Pour.number).getD 0
  let p := pourAfter s.ctl.highestPour
  ((s.withDelta top delta p).findings p delta).head?

end Sys2Proof.Machine
end

