-- ==== Sys2Proof/Machine/CommitEnd.lean ====
section
/-! DEFINITION. The end of a commit's validation: acceptance with a pour number, or refusal with a code (R75-R85). -/

namespace Sys2Proof.Machine

/-- A synchronising reset in an accepted commit: what 0x2381 shows of it (R218, R219). -/
def State.noteSyncReset (s : State) (delta : Tab Val) (tc : T96) : State :=
  match lookup delta (keyOf 0x2380 1) with
  | some v => if v.nat = 0 then s else ((s.bump 0x2381 2).put 0x2381 3 tc.toNat).bump 0x2381 1
  | none => s

/-- A commit accepted at t_a: it receives the next pour number, and is current at once where t_c = t_a (R77, R80, R85). -/
def State.accept (s : State) (delta : Tab Val) (ta tc : T96) (requester : Nat) : State :=
  let n := pourAfter s.ctl.highestPour
  let s := { s with ctl := { s.ctl with
    pours := { number := n, tc := tc, delta := delta } :: s.ctl.pours, highestPour := n } }
  ((s.noteSyncReset delta tc).postResult 0 n.toNat ta tc 0 0 requester).showPours.advancePour

/-- 100 µs and 3,600 s in T96 units, times 10^4 (R79). -/
def tooLate (ta tc : T96) : Bool := decide ((tc.toNat : Int) * 10000 < (ta.toNat : Int) * 10000 + 2 ^ 48)
def tooFar (ta tc : T96) : Bool := decide (ta.toNat + 3600 * 2 ^ 48 < tc.toNat)

/-- Why a commit is refused at the end of its validation: code, offending entry and block reason (R79-R83). -/
def State.verdict (s : State) (c : Commit) (ta tc : T96) : Option (Nat × Nat × Nat) :=
  if !s.ctl.dev.runs then some (9, 0, 0)
  else if c.mode = 0 ∧ s.timeState ≠ 2 ∧ s.timeState ≠ 3 then some (8, 0, 0)
  else if c.mode = 0 ∧ tooLate ta tc = true then some (3, 0, 0)
  else if c.mode = 0 ∧ tooFar ta tc = true then some (4, 0, 0)
  else if s.outstanding.any (fun p => c.mode == 1 || decide (tc.toNat ≤ p.tc.toNat)) then some (5, 0, 0)
  else if 16 ≤ s.outstanding.length then some (7, 0, 0)
  else (s.validate c.delta).map (fun (entry, reason) => (6, entry, reason))

/-- The commit that waits is validated next (R75). -/
def State.nextValidation (s : State) : State :=
  { s with ctl := { s.ctl with validating := s.ctl.waiting, waiting := none } }

/-- COMMIT_VALIDATION_END. -/
def execCommitValidationEnd (s : State) : Out State :=
  s.guarded (fun s =>
    match s.ctl.validating with
    | none => s
    | some c =>
      let s := s.advancePour.nextValidation
      let ta := s.now
      let tc := if c.mode = 1 then ta else c.instant
      match s.verdict c ta tc with
      | some (code, entry, reason) => (s.returnSet c).postRefusal code entry reason c.requester
      | none => s.accept c.delta ta tc c.requester)

end Sys2Proof.Machine
end

