-- ==== Sys2Proof/Machine/Clocks.lean ====
section
/-! DEFINITION. Commands of the clocks, the timebase and the sync pins (chapter 03). -/

namespace Sys2Proof.Machine

/-! ### Reference (R99-R103, R114-R121) -/

/-- REFIN_QUALIFIED: REFIN has stayed within limits for the qualify time, measured from the first lock on (R641 step 6); one that the setting does not accept is absent, and the
return is automatic in mode 0 (R100-R103). -/
def execRefinQualified (freq : Fin 3) (offset : Int) (s : State) : Out State :=
  s.guarded (fun s =>
    let f := freq.val + 1
    let setting := s.app 0x2102 1
    if !s.synthsStarted then s
    else if setting = 4 then (s.put 0x2102 2 f).put 0x2102 3 0
    else if !refinAccepts setting f then (s.put 0x2102 2 0).put 0x2102 3 0
    else
      let s := ((s.put 0x2102 2 f).put 0x2102 3 2).measureCrystal offset
      if s.num 0x2102 6 = 0 ∧ !s.clk.refin then s.switchReference true else s)

/-- REFIN_LOSS (R101, R117). -/
def execRefinLoss (s : State) : Out State := s.guarded (fun s => if s.num 0x2102 3 = 2 then s.loseRefin else s)

/-- RETURN_TO_REFIN: 1 written to 0x2102.07 while REFIN is good and not the reference (R103). -/
def execReturnToRefin (r : Requester) (s : State) : Out State :=
  s.guarded (fun s => s.mayWrite r (keyOf 0x2102 7) (fun s =>
    if s.num 0x2102 3 = 2 ∧ !s.clk.refin then s.switchReference true else s))

/-- RETURN_MODE_WRITE: a change from 1 to 0 makes a return that waits (R103). -/
def execReturnModeWrite (r : Requester) (v : Byte) (s : State) : Out State :=
  s.guarded (fun s => s.mayWrite r (keyOf 0x2102 6) (fun s =>
    if 1 < v.toNat then s.refuse r 0x06090030 (keyOf 0x2102 6)
    else
      let old := s.num 0x2102 6
      let s := s.put 0x2102 6 v.toNat
      if old = 1 ∧ v = 0 ∧ s.num 0x2102 3 = 2 ∧ !s.clk.refin then s.switchReference true else s))

/-- A loss of lock: counted; a lasting one moves to the spare core while there is one. The entries of the clock event show a
transient loss, or a lasting one without a spare (R114-R117, R621). -/
def State.synthFault (s : State) (syn : Synth) : State :=
  let (e, index, st, core, losses) := match syn with
    | .syna => (0, 0x2100, 4, 5, 6)
    | .synb => (1, 0x2101, 1, 2, 3)
  let spare := s.num index core == 0
  let (s, n, lasting) := (s.bump index losses).countFault .synth e
  let s := if lasting && spare then (s.journalFault .synth e n true true).put index core 1 else s
  let ev : ClkEvent := { cause := e, start := s.now, cls := FaultClass.synth.code, element := e, count := n }
  (s.put index st 1).startClockEvent (
    if !lasting then { ev with kind := 1 }
    else if spare then ev
    else { ev with severity := 3, kind := 3, notes := 1 })

/-- SYNTH_LOSS_OF_LOCK; before the first lock there is none to lose (R114, R641 step 6). -/
def execSynthLossOfLock (syn : Synth) (s : State) : Out State :=
  s.guarded (fun s => if s.synthsStarted then s.synthFault syn else s)

/-- REFERENCE_EVENT_RESTART: locked to the reference, the converters and event domains restart (R117 steps 5-7). A retune that is
acquiring goes on (R121). -/
def execReferenceEventRestart (s : State) : Out State :=
  s.guarded (fun s =>
    match s.clk.event with
    | none => s
    | some e =>
      let hits := s.clockHits
      let s := s.modClk (fun k => { k with event := none })
      let s := (if s.clk.retune.isSome then s else s.lockSyna).put 0x2101 1 2
      let s := s.ungate
      let s := { s with tiu := { s.tiu with gated := false } }
      let s := if s.ctl.running then s.restartRunners (s.tiuRunners s.ctl.currentPour) s.now else s
      let acquiring := s.clk.retune.isSome
      let s := s.releaseClkouts (fun n => !(acquiring && s.fromSyna n))
      s.reportClockEvent e hits)

/-! ### Trim and retune (R106-R112) -/

/-- The nominal rates that a trim applies to: the one in force and, while a retune acquires, the new one (R107, R109). -/
def State.nominalRates (s : State) : List Nat := s.clk.rate :: (s.clk.retune.map Prod.snd).toList

/-- A trim leaves every enabled channel's rate within 10.24-20.48 GS/s (R107). -/
def State.trimFits (s : State) (v : Int) : Bool :=
  s.nominalRates.all (fun rate => (upTo 4).all (fun c =>
    let div : Int := s.divider c
    let f : Int := rate * (1000000000000 + v)
    !s.enabled c || (decide (10240000000 * 1000000000000 * div ≤ f) && decide (f ≤ 20480000000 * 1000000000000 * div))))

/-- TRIM_WRITE: a new target, or a refusal (R107, R108). A trim takes the channels off the grid (R146). -/
def execTrimWrite (r : Requester) (v : U32) (s : State) : Out State :=
  s.guarded (fun s => s.mayWrite r (keyOf 0x2100 2) (fun s =>
    let x := v.toInt
    if x < -200000000 ∨ 200000000 < x ∨ !s.trimFits x then s.refuse r 0x06090030 (keyOf 0x2100 2)
    else
      let s := s.put 0x2100 2 v.toNat
      let s := if x = 0 then s else s.dropGrid
      if s.num 0x2100 4 = 2 ∨ s.num 0x2100 4 = 3 then s.lockSyna else s))

/-- TRIM_SLEW_STEP: the present trim moves toward its target for a time, at no more than 1 ppm/ms (R108). -/
def execTrimSlewStep (dt : T96) (s : State) : Out State :=
  s.guarded (fun s =>
    if s.num 0x2100 4 ≠ 3 then s
    else
      let most : Int := (dt.toNat * 1000000000 / t96PerSecond : Nat)
      let now := s.int 0x2100 3
      (s.putInt 0x2100 3 (now + clampInt (-most) most (s.int 0x2100 2 - now))).lockSyna)

/-- RETUNE_START: at the first frame boundary of every enabled channel from t_c on, once nothing gathers, SYNA acquires the new
rate; calibrations between windows are aborted (R109-R111, R187). A commit of the rate in force only takes its pour. -/
def execRetuneStart (s : State) : Out State :=
  s.guarded (fun s =>
    let rate := s.cfg s.synaPour 0x2100 1
    if !s.ctl.running || s.clk.retune.isSome then s
    else if rate = s.clk.rate then s.put 0x2100 7 0
    else if s.gathers then s.put 0x2100 7 1
    else
      let now := s.now
      let s := ((s.modClk (fun k => { k with retune := some (now, rate) })).put 0x2100 7 0).abortFgs
      let s := (upTo 4).foldl (fun s c => (s.modChan c (fun h => { h with gated := true })).stopChannel c now 3 false) s
      (s.holdClkouts s.fromSyna).put 0x2100 4 1)

/-- After a retune: sets activated for the new rate, the channels restart and the outputs run again (R109, R145, R190). -/
def State.afterRetune (s : State) : State :=
  let s := (upTo 4).foldl (fun s c => if (s.chan c).on then s.activateSet c else s) s
  let s := s.ungate
  if s.clk.event.isSome then s else s.releaseClkouts (fun _ => true)

/-- RETUNE_ACQUIRED: the new rate is in force; a reference event that runs on keeps SYNA acquiring (R109, R121). -/
def execRetuneAcquired (s : State) : Out State :=
  s.guarded (fun s =>
    match s.clk.retune with
    | none => s
    | some (_, rate) =>
      let s := (s.takeRate rate s.synaPour).modClk (fun k => { k with retune := none })
      (s.put 0x2100 4 (if s.clk.event.isSome then 1 else 2)).afterRetune)

/-! ### Align loops, CLKOUT, LOCKF (R122-R130) -/

/-- ALIGN_RAMP_STEP: one step of 0.5 ps toward the target (R123, R124). -/
def execAlignRampStep (loop : Fin 9) (s : State) : Out State :=
  s.guarded (fun s =>
    let v := rampStep (s.loopPhase loop) (s.loopTarget loop)
    s.modClk (fun k => { k with phase := Tab.set loopHome k.phase loop v }))

/-- CLKOUT_ENABLE: the output starts at its next terminal count (R127), or with the clock event's end (R128). -/
def execClkoutEnable (r : Requester) (n : Fin 4) (s : State) : Out State :=
  s.guarded (fun s => s.mayWrite r (keyOf (0x2110 + n.val) 1) (fun s =>
    let index := 0x2110 + n.val
    let s := s.put index 1 1
    let waits := s.clk.event.isSome || (s.clk.retune.isSome && s.fromSyna n)
    if s.num index 6 ≠ 0 then s
    else if waits then (s.modClk (fun k => { k with clkoutHeld := k.clkoutHeld ++ [n.val] })).put index 6 2
    else s.startClkout n))

/-- CLKOUT_DISABLE: the output completes its high phase and is held low (R127). -/
def execClkoutDisable (r : Requester) (n : Fin 4) (s : State) : Out State :=
  s.guarded (fun s => s.mayWrite r (keyOf (0x2110 + n.val) 1) (fun s =>
    ((s.put (0x2110 + n.val) 1 0).put (0x2110 + n.val) 6 0).modClk
      (fun k => { k with
        clkoutHeld := k.clkoutHeld.filter (fun m => m != n.val), clkoutFirst := Tab.set (fun _ => 0) k.clkoutFirst n 0 })))

/-- A synthesiser state counts as locked. -/
def isLocked (st : Nat) : Bool := st == 2 || st == 3

/-- The duty of LOCKF in eighths: the highest row that applies (R129). -/
def State.lockfDuty (s : State) : Nat :=
  if s.ctl.held || !s.ctl.crystal then 0
  else if !(isLocked (s.num 0x2100 4) && isLocked (s.num 0x2101 1)) then 1
  else if !s.clk.refin then 3
  else if s.timeState ≠ 2 then 5
  else 7

/-- LOCKF_PWM_PERIOD: the duty changes only at a period boundary (R129). -/
def execLockfPwmPeriod (s : State) : Out State := s.guarded (fun s => s.modClk (fun k => { k with lockf := s.lockfDuty }))

/-! ### PPSIN (R104, R134, R135, R674) -/

/-- An edge while PPSIN is not qualified: it is stamped from the first lock on, and used from the end of the start-up on (R134,
R145, R643). The third edge in a row qualifies PPSIN once a TAI second is known. -/
def State.newPps (s : State) (t : T96) : State :=
  if !s.synthsStarted then s
  else
    let s := (if s.clk.ppsBad = 0 then s.put 0x2122 4 1 else s).gridStamp t
    if s.num 0x2001 6 = 0 then s
    else
      let (good, base) := s.chainPps t (decide (s.clk.ppsBad ≠ 0))
      let s := s.modClk (fun k => { k with ppsLast := some base, ppsGood := good })
      if 3 ≤ good ∧ (s.ppsSecond t).isSome then
        ((s.put 0x2122 4 1).modClk (fun k =>
          { k with ppsQual := true, ppsBad := 0, ppsPred := some (nextSecond t), ppsLast := none, ppsGood := 0 })).acceptPps t
      else (s.modClk (fun k => { k with ppsLabel := k.ppsLabel.map (· + 1) })).selectSource

/-- PPSIN_EDGE: the selected edge as the timebase stamps it, less the cable delay (R104); accepted, rejected or on the way to qualify.
The other edge is not stamped. PPSIN is stamped and used during a reference event too (DESIGN CHOICE, log entry 19: R119 speaks of
event inputs). -/
def execPpsinEdge (t : T96) (falling : Bool) (s : State) : Out State :=
  s.guarded (fun s =>
    if falling != (s.app 0x2122 1 == 1) then s
    else
    let t := t96Add t (-((s.int 0x2122 2 * t96PerSecond).fdiv 1000000000000))
    if s.clk.ppsQual then
      let pred := s.clk.ppsPred.getD t
      if near100ns t pred then
        let s := s.modClk (fun k => { k with ppsPred := some (nextSecond t), ppsLast := none, ppsGood := 0, ppsBad := 0 })
        ((s.put 0x2122 4 1).gridStamp t).acceptPps t
      else
        let (good, base) := s.chainPps t true
        let bad := s.clk.ppsBad + 1
        let s := (s.bump 0x2122 6).modClk (fun k => { k with
          ppsPred := some (nextSecond pred), ppsLast := some base, ppsGood := good, ppsBad := bad
          ppsLabel := k.ppsLabel.map (· + 1) })
        if 3 ≤ bad then s.disqualifyPps false else s
    else s.newPps t)

/-- PPSIN_LOSS: no edge within 1 s + 1 ms of the previous one (R104). -/
def execPpsinLoss (s : State) : Out State :=
  s.guarded (fun s =>
    if s.num 0x2122 4 = 0 then s
    else s.disqualifyPps true)

/-- PPS_SECOND_WRITE: the TAI second of the next edge, below 2^48 (R135, R155). -/
def execPpsSecondWrite (r : Requester) (v : U64) (s : State) : Out State :=
  s.guarded (fun s => s.mayWrite r (keyOf 0x2121 9) (fun s =>
    if 2 ^ 48 ≤ v.toNat then s.refuse r 0x06090030 (keyOf 0x2121 9)
    else s.modClk (fun k => { k with ppsLabel := some v.toNat })))

/-! ### Other sources (R133, R134, R139, R140, R143) -/

/-- TIME_SOURCE_LOSS: the active source is lost; the next qualified one takes over, or HOLDOVER begins (R133). -/
def execTimeSourceLoss (s : State) : Out State :=
  s.guarded (fun s =>
    match s.num 0x2120 3 with
    | 1 => s.disqualifyPps true
    | 2 => (s.modPtp 0 (fun _ => PtpPort.idle)).selectSource
    | 3 => (s.modPtp 1 (fun _ => PtpPort.idle)).selectSource
    | 4 => ((s.modClk (fun k => { k with dcQual := false })).put 0x2124 2 0).selectSource
    | 5 => (s.modClk (fun k => { k with freeRun := none })).selectSource
    | _ => s)

/-- HOLDOVER_LIMIT_EXPIRY: HOLDOVER has lasted longer than its limit (R143). -/
def execHoldoverLimitExpiry (s : State) : Out State :=
  s.guarded (fun s => if s.timeState = 3 then s.setTimeState 0 0 else s)

/-- SET_TIME_WRITE: a time written qualifies free run, which the timebase follows where it is the active source (R134 code 5). -/
def execSetTimeWrite (r : Requester) (v : T96) (s : State) : Out State :=
  s.guarded (fun s => s.mayWrite r (keyOf 0x2121 7) (fun s =>
    let s := (s.modClk (fun k => { k with freeRun := some (v, s.ctl.crystalCount) })).pickSource
    if s.num 0x2120 3 = 5 then s.followFreeRun else s))

/-- A PTP port p is enabled (0x2123.01). -/
def State.ptpOn (s : State) (p : Nat) : Bool := (s.app 0x2123 1).testBit p

/-- A port takes a message of its own domain and transport only (R139). -/
def State.ptpTakes (s : State) (p : Nat) (hdr : PtpHeader) : Bool :=
  s.ptpOn p && hdr.domain.toNat == s.app 0x2123 2 && hdr.transport.val == s.app 0x2123 4

/-- The message comes from the port's selected master (R139). -/
def State.fromMaster (s : State) (p : Nat) (hdr : PtpHeader) : Bool := ((s.ptpPort p).master.map Announce.identity) == some hdr.identity

/-- PTP_SYNC_RECEIVED: the offset from the selected master; 16 in a row below 1 µs qualify the port, and one of 1 µs or more
disqualifies it (DESIGN CHOICE, log entry 19: R134 says how a port qualifies, not how it ceases to). Before it qualifies, and while
no listed source is active, a larger offset is corrected so that it can (R134, R136, R139). The correction is in T96 units. -/
def execPtpSyncReceived (port : Fin 2) (hdr : PtpHeader) (t1 t2 : T96) (correction : Int) (s : State) : Out State :=
  s.guarded (fun s =>
    if !(s.ptpTakes port hdr && s.fromMaster port hdr) then s
    else
      let q := s.ptpPort port
      let off := t96Diff t2 t1 - correction - q.delay - (s.int 0x2123 5 * t96PerSecond).fdiv 1000000000000
      let small := decide (off.natAbs * 1000000 < t96PerSecond)
      let good := if small then q.good + 1 else 0
      let s := (s.putInt 0x2123 6 (unitsToPs off)).modPtp port (fun q => { q with
        good := good, qualified := small && (q.qualified || decide (16 ≤ good)) })
      let s := s.emit (.ptp port (s.app 0x2123 3 == 1))
      if (s.ptpPort port).qualified then s.follow (2 + port.val) (-off)
      else
        let s := s.selectSource
        if !small && s.num 0x2120 3 == 0 && s.sources.contains (2 + port.val) then s.discipline (-off) else s)

/-- PTP_ANNOUNCE_RECEIVED: the best master of those heard (R139). -/
def execPtpAnnounceReceived (port : Fin 2) (hdr : PtpHeader) (ann : Announce) (s : State) : Out State :=
  s.guarded (fun s =>
    if !s.ptpTakes port hdr then s
    else
      let better := match (s.ptpPort port).master with
        | none => true
        | some m => decide (announceRank ann < announceRank m) || ann.identity == m.identity
      if !better then s
      else
        let changed := ((s.ptpPort port).master.map (fun m => m.identity != ann.identity)).getD true
        let s := s.modPtp port (fun q => { q with
          master := some ann, good := if changed then 0 else q.good, qualified := q.qualified && !changed })
        (s.put 0x2123 7 ann.identity.toNat).selectSource)

/-- PTP_DELAY_RESPONSE: the mean path delay, by the mechanism in force: request and response with the selected master, or peer delay
with the neighbour (R139). -/
def execPtpDelayResponse (port : Fin 2) (hdr : PtpHeader) (peer : Bool) (t1 t2 t3 t4 : T96) (s : State) : Out State :=
  s.guarded (fun s =>
    if s.ptpTakes port hdr && peer == (s.app 0x2123 3 == 1) && (peer || s.fromMaster port hdr) then s.modPtp port (fun q => { q with delay := (t96Diff t2 t1 + t96Diff t4 t3).fdiv 2 }) else s)

/-- DC_SYNC0: with EtherCAT DC as source, TAI is the DC system time plus its offset (R134 code 4, R140). -/
def execDcSync0 (dcTimeNs : U64) (s : State) : Out State :=
  s.guarded (fun s =>
    let t := (((dcTimeNs.toNat : Int) + s.appInt 0x2124 1) * t96PerSecond).fdiv 1000000000
    let s := (s.put 0x2124 2 (if s.clk.dcWritten then 2 else 1)).modClk (fun k => { k with dcQual := k.dcWritten })
    if s.clk.dcQual then s.follow 4 (t - s.now.toNat) else s.selectSource)

/-! ### Several devices (R148-R152) -/

/-- Sync mode and exponent: as applied once the data path has been started, and as written so far in PREOP (R647). -/
def State.syncEntry (s : State) (sub : Nat) : Nat := if s.ctl.dev.runs then s.app 0x2130 sub else s.num 0x2130 sub

/-- A follower or a repeater. -/
def State.follows (s : State) : Bool := s.syncEntry 1 == 2 || s.syncEntry 1 == 3

/-- SYNC_ALIGN: in PREOP only. A device that is no follower accepts the write without effect (DESIGN CHOICE, log entry 20) (R150). -/
def execSyncAlign (r : Requester) (s : State) : Out State :=
  s.guarded (fun s => s.mayWrite r (keyOf 0x2130 4) (fun s =>
    if s.ctl.dev ≠ .preop then s.refuse r 0x08000022 (keyOf 0x2130 4)
    else if s.follows then s.modClk (fun k => { k with aligning := true }) else s))

/-- An edge less the cable delay (R150), in sample periods of SYNA times 2^48: its residual from the nearest multiple of 2^K. -/
def State.syncResidual (s : State) (t : T96) : Int :=
  let k := s.syncEntry 2
  let x := ((t.toNat : Int) - (s.int 0x2130 3 * t96PerSecond).fdiv 1000000000000) * s.clk.rate
  let m : Int := 2 ^ k * 2 ^ 48
  let r := x.fmod m
  if 2 * r < m then r else r - m

/-- The phase of the follower's own grid against T96 in femtoseconds: what the loops of its first enabled channel have moved (R150). -/
def State.ownGridFs (s : State) : Int :=
  500 * Tab.get (fun _ => 0) s.clk.gridSteps (((upTo 4).find? (fun c => s.enabled c)).getD 0)

/-- A residual from the follower's own grid, in femtoseconds (R150, R152). -/
def State.residualFs (s : State) (r : Int) : Int := roundDiv (r * 1000000000000000) (s.clk.rate * 2 ^ 48) - s.ownGridFs

/-- The edges repeat every 2^K / f within ±10 ppm (R151). -/
def State.syncRegular (s : State) : List T96 → Bool
  | a :: b :: rest =>
    let m : Int := 2 ^ s.syncEntry 2 * 2 ^ 48
    decide ((t96Diff b a * s.clk.rate - m).natAbs * 100000 ≤ m.natAbs) && s.syncRegular (b :: rest)
  | _ => true

/-- SYNC_ALIGN_COMPLETE: 256 edges stamped; the channel loops move by the mean residual, or the follower stays as it was (R150,
R151). -/
def execSyncAlignComplete (stamps : List T96) (s : State) : Out State :=
  s.guarded (fun s =>
    if !s.clk.aligning then s
    else
      let s := s.modClk (fun k => { k with aligning := false })
      let rs := stamps.map s.syncResidual
      if stamps.length < 256 then s.put 0x2130 5 2
      else if !s.syncRegular stamps then s.put 0x2130 5 3
      else if rs.any (fun r => decide (2 ^ (s.syncEntry 2 - 2) * 2 ^ 48 < r.natAbs)) then s.put 0x2130 5 5
      else
        let fs := roundDiv ((rs.map s.residualFs).foldl (· + ·) 0) rs.length
        let s := (upTo 4).foldl (fun s c => s.setGridSteps c (Tab.get (fun _ => 0) s.clk.gridSteps c + roundDiv fs 500)) s
        let s := ((s.putInt 0x2130 6 fs).put 0x2130 5 1).modClk (fun k => { k with aligned := true, slipRun := 0 })
        (upTo 4).foldl (fun s c => if s.enabled c then s.place c else s) s)

/-- SYNCIN_EDGE: a follower in SAFEOP or OP checks every edge; the sixteenth in a row beyond ±10 ps is a slip (R152). -/
def execSyncinEdge (t : T96) (s : State) : Out State :=
  s.guarded (fun s =>
    if !(s.ctl.dev.runs && s.follows) then s
    else
      let fs := s.residualFs (s.syncResidual t)
      let s := s.putInt 0x2130 6 fs
      if fs.natAbs ≤ 10000 then s.modClk (fun k => { k with slipRun := 0 })
      else if s.clk.slipRun + 1 = 16 then
        (((s.modClk (fun k => { k with slipRun := 0, aligned := false })).bump 0x2130 7).put 0x2130 5 4).report
          { severity := 2, subsys := 4, kind := 6, detail := 4 }
      else s.modClk (fun k => { k with slipRun := k.slipRun + 1 }))

/-- SYNCOUT_PULSE: at a SYNA grid index that is a multiple of 2^K a leader, or a repeater that is aligned, drives the pulse through the
sync align loop (R149). -/
def execSyncoutPulse (index : U64) (s : State) : Out State :=
  s.guarded (fun s =>
    if (s.app 0x2130 1 = 1 ∨ (s.app 0x2130 1 = 3 ∧ s.clk.aligned)) ∧ index.toNat % 2 ^ s.app 0x2130 2 = 0 then
      s.emit (.syncPulse index.toNat (s.loopPhase 8))
    else s)

end Sys2Proof.Machine
end

