-- ==== Sys2Proof/Machine/Shed.lean ====
section
/-! DEFINITION. What each quench level sheds on entry and restores on exit (R182, R262-R264, R330, R395, R432, R471, R613-R618). -/

namespace Sys2Proof.Machine

/-- No ladle has a mover transfer outstanding. -/
def State.moversIdle (s : State) : Bool := s.ladles.all (fun q => q.2.movers.isEmpty)

/-- Entry to levels 1 to 4 (R613). -/
def State.shedLevel (s : State) (k : Nat) : State :=
  match k with
  | 1 => ((upTo 4).foldl (fun s c => s.abandonWindow c) s).abandonInterps
  | 2 => s.pauseLadles
  | 3 => (((upTo 4).foldl (fun s c => s.stopDensity c s.now 5 false true) s).retain .density).retain .ladle
  | 4 =>
    let s := (upTo 4).foldl (fun s c => if (s.chan c).on then s.enterFallback c else s) s
    if s.moversIdle then s.retain .cluster else s
  | _ => s

/-- Exit from levels 1 to 4: retained memories wake before the functions that use them resume (R615). -/
def State.restoreLevel (s : State) (k : Nat) : State :=
  match k with
  | 2 => s.resumeLadles
  | 3 =>
    let s := (s.release .density).release .ladle
    (upTo 4).foldl (fun s c => s.wakeDensity c) s
  | 4 => (upTo 4).foldl (fun s c => s.leaveFallback c) (s.release .cluster)
  | _ => s

/-- Every enabled channel has been stopped by Q6. -/
def State.allShed (s : State) : Bool := (upTo 4).all (fun c => !(s.chan c).on || (s.chan c).shed)

/-- Q6 stops a whole channel; its reduction state is held in retention, with the last running channel's the group (R618). -/
def State.shedChannel (s : State) (c : Nat) : State :=
  let s := (s.stopChannel c s.now 5 false).modChan c (fun h => { h with shed := true })
  if s.allShed then s.retain .reduction else s

/-- Q6 restores a channel: it delivers again from a conditioner frame boundary (R618). -/
def State.restoreChannel (s : State) (c : Nat) : State :=
  ((s.release .reduction).modChan c (fun h => { h with shed := false })).restartChannel c

end Sys2Proof.Machine
end

