-- ==== Sys2Proof/Machine/Quench.lean ====
section
/-! DEFINITION. Commands that move the quench level: monitors, sentinels, supply comparators and the quench controller's
timers (R593-R618). -/

namespace Sys2Proof.Machine

/-- The quench group 0x2E21 after a change of level or step (R630). -/
def State.showQuench (s : State) : State :=
  let bits (l : List Nat) : Nat := l.foldl (fun a c => a ||| 2 ^ c) 0
  let h := s.hea
  let demand (d : Nat) : Nat := Tab.get (fun _ => 0) h.demand d
  let s := ((s.put 0x2E21 3 (demand 0)).put 0x2E21 4 (demand 1)).put 0x2E21 5 s.highestFloor
  let s := (((s.put 0x2E21 2 h.level).put 0x2E21 6 (bits h.shedCaps)).put 0x2E21 7 (bits h.shedChans))
  (s.put 0x2E21 9 (max (s.num 0x2E21 9) h.level)).bump 0x2E21 1

/-- A change of the reported level, journalled with emergency 0x3000 (R614). -/
def State.setLevel (s : State) (k : Nat) : State :=
  let rise := decide (s.hea.level < k)
  let s := (s.modHea (fun h => { h with level := k, entrySince := none, exitSince := none })).put 0x2E21 0x0A s.now.toNat
  let s := (s.bump 0x2E21 8).showQuench
  s.report { severity := if rise && decide (s.num 0x2E20 3 ≤ k) then 3 else 2, subsys := 20, kind := 4, element := k,
             code := 0x3000 }

/-- A channel that runs in the sense of R612: enabled, the device in SAFEOP or OP. -/
def State.channelRuns (s : State) (c : Nat) : Bool := s.enabled c && s.ctl.dev.runs

/-- The first running channel in the order whose capture is not yet shed (R616). -/
def State.nextCapture (s : State) : Option Nat := s.shedOrder.find? (fun c => s.channelRuns c && !s.hea.shedCaps.contains c)

/-- The next capture in the order is shed (R616, R617). -/
def State.stepCapture (s : State) : State :=
  match s.nextCapture with
  | none => s
  | some c =>
    let s := s.closeRaw c (s.chan c).counter
    ((s.modHea (fun h => { h with shedCaps := c :: h.shedCaps, lastStep := some s.ctl.crystalCount })).shedCapture c).showQuench

/-- The next running channel whose priority is not 0 is stopped (R616, R618). -/
def State.stepChannel (s : State) : State :=
  match s.shedOrder.find? (fun c => !s.hea.shedChans.contains c && s.hcfg 0x2E22 (c + 1) != 0 &&
      s.channelRuns c) with
  | none => s.modHea (fun h => { h with lastStep := some s.ctl.crystalCount })
  | some c => ((s.modHea (fun h => { h with shedChans := c :: h.shedChans, lastStep := some s.ctl.crystalCount })).shedChannel c).showQuench

/-- Entry to level k sheds its functions (R613, R614, R616). -/
def State.enterLevel (s : State) (k : Nat) : State :=
  if k = 5 then s.stepCapture
  else if k = 6 then
    (s.stepCapture.stepCapture.stepCapture.stepCapture).stepChannel
  else s.shedLevel k

/-- Every level from the present one up to k, in ascending order (R614). -/
def State.riseTo (s : State) (k : Nat) : State :=
  let from' := s.hea.level
  ((List.range 7).filter (fun j => decide (from' < j) && decide (j ≤ k))).foldl (fun s j => s.enterLevel j) (s.setLevel k)

/-- The exit conditions of the present level hold on both dies, with no floor of that level or more (R615). -/
def State.mayLeave (s : State) : Bool :=
  decide (0 < s.hea.level) && s.exits 0 s.hea.level && s.exits 1 s.hea.level && decide (s.highestFloor < s.hea.level)

/-- The entry condition of the present level holds on a die (R616). -/
def State.mustStep (s : State) : Bool := s.enters 0 s.hea.level || s.enters 1 s.hea.level

/-- Demands, floors and the level after a change of margin, supply or floor (R613-R616). -/
def State.quenchUpdate (s : State) : State :=
  let d0 := s.dieDemand 0
  let d1 := s.dieDemand 1
  let fl := s.highestFloor
  let s := s.modHea (fun h => { h with demand := Tab.set (fun _ => 0) (Tab.set (fun _ => 0) h.demand 0 d0) 1 d1 })
  let top := max (max d0 d1) fl
  let s := if s.hea.level < top then s.riseTo top else s
  s.modHea (fun h => { h with
    exitSince := if s.mayLeave then (if h.exitSince.isSome then h.exitSince else some s.ctl.crystalCount) else none
    entrySince := if s.mustStep then (if h.entrySince.isSome then h.entrySince else some s.ctl.crystalCount) else none })

/-- MONITOR_STATE_CHANGE: monitor m samples input v, and the majority of its last F samples may change its state (R594, R595); a change
of state is counted and latched, and the actions apply (R598, R599). -/
def execMonitorStateChange (m : Fin 16) (v : Int) (s : State) : Out State :=
  s.guarded (fun s =>
    let ix := 0x2E00 + m.val
    let ox := 0x2E10 + m.val
    let w := s.wm m
    let hist := pushSample w.hist (classify w.st v (s.hcfgInt ix 3) (s.hcfgInt ix 4) (s.hcfg ix 5))
    if !s.ctl.crystal || s.hcfg ix 1 = 0 then s
    else
    match majority w.st (s.hcfg ix 6) hist with
    | none => s.modWm m (fun w => { w with hist := hist })
    | some x =>
      let latched := w.latch == 0 && w.st == 0
      let now := s.now
      let s := s.modWm m (fun w => { w with
        st := x, changes := (w.changes + 1) % 2 ^ 32, hist := List.replicate 7 x
        latch := if latched then x else w.latch, latchT := if latched then now else w.latchT })
      let s := ((s.put ox 2 x).bump ox 6).bump ox 1
      let s := if latched then (s.put ox 3 x).put ox 4 now.toNat else s
      let act := s.hcfg ix 7
      let src := s.hcfg ix 2
      let s := if act.testBit 0 then
        s.report { severity := s.hcfg ix 0x0A, subsys := 20, kind := 5, element := m.val, detail := x, code := sourceCode src }
        else s
      let s := if act.testBit 3 && w.st == 0 then s.startGroup (s.hcfg ix 9) true else s
      s.quenchUpdate)

/-- SENTINEL_WINDOW_END: rates, exclusions and die margins; the quench controller acts on them (R10, R11, R611-R614). -/
def execSentinelWindowEnd (rates : List Nat) (s : State) : Out State :=
  s.guardedWf (decide (rates.length = 64)) (fun s =>
    let s := (List.range 64).foldl (fun s i => s.put 0x2E61 (i + 1) (rates.getD i 0)) s
    let s := (s.judgeDie rates 0).judgeDie rates 1
    let out := (List.range 64).foldl (fun a i => if s.sentinelOut i then a ||| 2 ^ i else a) 0
    ((s.put 0x2E60 6 out).bump 0x2E60 1).quenchUpdate)

/-- SUPPLY_COMPARATOR_CROSSING: VDD_CORE at a compute die has crossed a threshold (R613, R660). -/
def execSupplyComparatorCrossing (die : Fin 2) (mv : Nat) (s : State) : Out State :=
  s.guarded (fun s =>
    (s.modHea (fun h => { h with vdd := Tab.set (fun _ => none) h.vdd die (some mv) })).quenchUpdate)

/-- The settle time 0x2E20.01 has passed since the exit conditions began to hold, and since the last exit (R615). -/
def State.settled (s : State) : Bool :=
  let passed (t : Nat) : Bool := decide (t + faultTicks (s.num 0x2E20 1) ≤ s.ctl.crystalCount)
  (s.hea.exitSince.map passed).getD false && (s.hea.lastExit.map passed).getD true

/-- The step interval 0x2E20.02 has passed since the last step, the entry condition holding throughout (R616). -/
def State.stepDue (s : State) : Bool :=
  let passed (t : Nat) : Bool := decide (t + s.num 0x2E20 2 * 1600 ≤ s.ctl.crystalCount)
  (s.hea.entrySince.map passed).getD false && (s.hea.lastStep.map passed).getD true

/-- QUENCH_SETTLE_EXPIRY: the exit conditions have held for the settle time; one step of Q5 or Q6 is restored, or the level is
left and its functions restored (R615, R616). -/
def execQuenchSettleExpiry (s : State) : Out State :=
  s.guarded (fun s =>
    if !s.settled || !s.mayLeave then s
    else
      let k := s.hea.level
      let s := s.modHea (fun h => { h with lastExit := some s.ctl.crystalCount, exitSince := none })
      let s :=
        if k = 6 then
          match s.hea.shedChans with
          | [] => s.setLevel 5
          | c :: rest =>
            let s := ((s.modHea (fun h => { h with shedChans := rest })).restoreChannel c).showQuench
            if rest.isEmpty then s.setLevel 5 else s
        else if k = 5 then
          match s.hea.shedCaps with
          | [] => s.setLevel 4
          | c :: rest =>
            let s := ((s.modHea (fun h => { h with shedCaps := rest })).restoreCapture c).showQuench
            if rest.isEmpty then s.setLevel 4 else s
        else (s.setLevel (k - 1)).restoreLevel k
      s.modHea (fun h => { h with exitSince := if s.mayLeave then some s.ctl.crystalCount else none }))

/-- QUENCH_STEP_INTERVAL: at the end of an interval throughout which the entry condition has held, Q5 sheds the next capture
and Q6 the next channel (R616). -/
def execQuenchStepInterval (s : State) : Out State :=
  s.guarded (fun s =>
    if !s.stepDue || !s.mustStep then s
    else if s.hea.level = 5 then s.stepCapture
    else if s.hea.level = 6 then s.stepChannel
    else s)

end Sys2Proof.Machine
end

