-- ==== Sys2Proof/Machine/Rf.lean ====
section
/-! DEFINITION. Commands of the RF channels: overload, frames, the converter riser, background and foreground calibration, sets and
spares (R12-R15, R162-R197). -/

namespace Sys2Proof.Machine

/-- The index nearest to a reference whose 64 low bits are given: counters are shown modulo 2^64 (R144). -/
def unwrap64 (ref : Nat) (v : U64) : Nat := ((ref : Int) + (v - BitVec.ofNat 64 ref).toInt).toNat

/-- OVERLOAD_EXCURSION: an excursion of a polarity, its peak in 0.001 dB re full-scale peak, the samples taken during it, the last of
them beyond full scale, if any, and its length. The detector responds to one of 100 ps or more whose peak lies beyond the threshold of
0x2200.07; codes are valid again 2 ns after the input has returned inside full scale (R161-R163). -/
def execOverloadExcursion (c : Ch) (negative : Bool) (peak : Int) (first last : U64) (full : Option U64) (durationPs : Nat)
    (s : State) : Out State :=
  s.guarded (fun s =>
    let h := s.chan c
    let threshold := s.bcfgInt (condBlock c) (0x2200 + 16 * c.val) 7
    if h.delivers && decide (100 ≤ durationPs) && decide (100 * threshold < peak) then
      let stop := unwrap64 h.counter last
      let clear := match full with
        | some n => max stop (unwrap64 h.counter n + s.recoverySamples c)
        | none => stop
      s.modChan c (fun h => { h with overSpans := h.overSpans ++
        [{ first := unwrap64 h.counter first, last := stop, clear := clear, negative := negative }] })
    else s)

/-- CONDITIONER_FRAME: 4,096 samples through the stages and to the taps, or those that a stop leaves of the frame in progress, after
which no frame follows until the channel restarts (R168-R176). A channel whose converter runs while it delivers nothing (foreground
calibration, a discarding riser) passes the boundary (R147); one that is gated, shed or off does nothing. -/
def execConditionerFrame (c : Ch) (samples : List RawSample) (s : State) : Out State :=
  s.guardedWf (Instr.wellFormed (.conditionerFrame c samples)) (fun s =>
    if (s.chan c).delivers then
      if (s.chan c).counter % frameLen = 0 then s.deliverFrame c samples else s
    else if (s.chan c).on && !(s.chan c).gated && !(s.chan c).shed then s.passBoundary c
    else s)

/-! ### The converter riser (R12-R15) -/

/-- CONVERTER_RISER_WARNING (R13). -/
def execConverterRiserWarning (c : Ch) (s : State) : Out State :=
  s.guarded (fun s =>
    if (s.chan c).delivers then s.report { severity := 2, subsys := 1, kind := 7, element := elementOf c 0 } else s)

/-- CONVERTER_RISER_OVERFLOW: samples are discarded until the fill has fallen (R14). -/
def execConverterRiserOverflow (c : Ch) (s : State) : Out State :=
  s.guarded (fun s =>
    if (s.chan c).delivers then (s.modChan c (fun h => { h with discard := true })).stopChannel c s.now 3 true else s)

/-- The element under which the rate faults of a channel are counted while no lane is identified: no lane has its number (DESIGN
CHOICE, log entry 21). -/
def rateElement (c : Nat) : Nat := elementOf c 255

/-- A rate fault is counted under the slow lane where one is identified, and under its channel where none is; a lane declared lasting
passes to the spare (R15, R620, R621). -/
def State.rateFault (s : State) (c : Nat) (slow : Option (Fin 17)) (hit : List (Nat × Nat × Nat)) : State :=
  match slow with
  | some l => if ((s.xf c).logical l).isSome then s.laneEvent c l hit else s
  | none =>
    let (s, n, lasting) := s.countFault .lane (rateElement c)
    s.journalFault .lane (rateElement c) n lasting false hit

/-- CONVERTER_RISER_RESUME: delivery resumes at the next frame boundary, and the rate fault is counted and journalled with the runners
that it affected; the lane that was identified as the slow element is named (R14, R15, R625). -/
def execConverterRiserResume (c : Ch) (slow : Option (Fin 17)) (s : State) : Out State :=
  s.guarded (fun s =>
    if (s.chan c).discard then
      let s := s.modChan c (fun h => { h with discard := false })
      let hit := ((s.liveRunners c).eraseDups).map (fun n => let q := (s.runner n).nextSeq.toNat; (n, q, q + 1))
      (s.restartChannel c).rateFault c slow hit
    else s)

/-! ### Background calibration (R178-R183) -/

/-- BG_CAL_WINDOW_START: the spare shadows the next slot, where nothing forbids a window (R181, R182). -/
def execBgCalWindowStart (c : Ch) (s : State) : Out State :=
  s.guarded (fun s =>
    let h := s.chan c
    let may := h.delivers && h.shadow.isNone && s.num 0x2F80 3 == 1 && s.hea.level == 0
      && s.num (0x2203 + 16 * c.val) 1 == 0 && !s.retuneDue && h.takeover.isNone
    if may then
      ((s.modChan c (fun h => { h with shadow := some h.nextSlot })).put (0x2203 + 16 * c.val) 3 h.nextSlot).put
        (0x2203 + 16 * c.val) 1 1
    else s)

/-- What a window's pairs give, at a channel rate (R178). With x the code of the spare, y that of the slot and s the slope: the offset
is the mean of y − x in 1/16 LSB; the gain 0x8000 over the slope of the regression of y on x; the skew trim −Σ (y − x) s / Σ s² in
25 fs. Where no slope is defined, which the spec does not speak of, the value is a free one (DESIGN CHOICE, log entry 21). -/
def estimateOf (rate : Nat) (pairs : List GatherPair) (loud : Bool) (free : Int) : Estimate :=
  let sum (f : GatherPair → Int) : Int := pairs.foldl (fun a p => a + f p) 0
  let n : Int := pairs.length
  let x (p : GatherPair) : Int := p.spare.toInt
  let y (p : GatherPair) : Int := p.slot.toInt
  let slope (p : GatherPair) : Int := p.after.toInt - p.before.toInt
  let sxx := n * sum (fun p => x p * x p) - sum x * sum x
  let sxy := n * sum (fun p => x p * y p) - sum x * sum y
  let ss := sum (fun p => slope p * slope p)
  { offset := roundDiv (16 * (sum y - sum x)) pairs.length
    gain := if sxx = 0 then free.toNat else if sxy ≤ 0 then 0 else (roundDiv (32768 * sxx) sxy.toNat).toNat
    skew := if ss = 0 then free else roundDiv (-80000000000000 * sum (fun p => (y p - x p) * slope p)) (rate * ss.toNat)
    loud := loud }

/-- BG_CAL_WINDOW_END: the pairs of slot and spare, and the input RMS in the band above 0.05 fs, in L16; the estimate waits for its
frame boundary; an input below −40 dBFS updates the offset only (R178-R181). -/
def execBgCalWindowEnd (c : Ch) (pairs : List GatherPair) (level : Int) (s : State) : Out State :=
  s.guardedWf (Instr.wellFormed (.bgCalWindowEnd c pairs level)) (fun s =>
    match (s.chan c).shadow with
    | none => s
    | some k =>
      let j := 0x2203 + 16 * c.val
      let now := s.now
      let est := estimateOf (s.chanRate c) pairs (decide (-5120 ≤ level)) (Config.freeInt s.ctl.drawn)
      let s := s.drew
      let s := s.modChan c (fun h => { h with
        shadow := none, nextSlot := (k + 1) % 64, est := some { slot := k, at' := now, est := est } })
      let s := ((s.put j 3 255).put j 1 0).bump j 6 (if est.loud then 0 else 1)
      if k = 63 then (s.bump j 5).bump 0x2F80 8 else s)

/-- An element's values lie in their ranges (R174, R180): offset within ±64 LSB. -/
def elementInRange (offset : Int) (gain : Nat) (skew : Int) : Bool :=
  decide (-1024 ≤ offset) && decide (offset ≤ 1024) && decide (0x6000 ≤ gain) && decide (gain ≤ 0xA000)
    && decide (-256 ≤ skew) && decide (skew ≤ 256)

/-- An element after an estimate (R179, R180): none where it is out of range. -/
def updateElement (e : Element) (x : Estimate) : Option Element :=
  let gain := if x.loud then x.gain else e.gain
  let skew := if x.loud then x.skew else e.skew
  if elementInRange x.offset gain skew then
    some { e with offset := x.offset, gain := gain, skew := skew, updates := e.updates + 1 }
  else none

/-- BG_CAL_ESTIMATE_APPLY: the first frame boundary at least 100 µs after the window (R180). While the spare is in service the
corrections keep their values (R195). -/
def execBgCalEstimateApply (c : Ch) (s : State) : Out State :=
  s.guarded (fun s =>
    match (s.chan c).est with
    | none => s
    | some x =>
      if (t96Add x.at' (nsToT96 100000)).toNat ≤ s.now.toNat then
        let s := s.modChan c (fun h => { h with est := none })
        if (s.served c).isSome then s
        else
          match updateElement ((s.elementsOf c).getD x.slot default) x.est with
          | some e => s.modChan c (fun h => { h with elements := (s.elementsOf c).set x.slot e })
          | none => s.sliceFault c x.slot none
      else s)

/-! ### Foreground calibration (R184-R188) -/

/-- The newest accepted pour that asks for a calibration of channel c and whose instant is reached (R184). -/
def State.fgRequest (s : State) (c : Nat) : Option U32 :=
  (s.ctl.pours.find? (fun p => decide (p.tc.toNat ≤ s.now.toNat) &&
    ((p.delta.find? (fun kv => kv.1 == keyOf 0x2F80 1)).map (fun kv => kv.2.nat.testBit c)).getD false)).map Pour.number

/-- A foreground calibration begins: the isolation switch opens and the tone injector is on (R185 step 2). -/
def State.beginFg (s : State) (c : Nat) (auto : Bool) : State :=
  let f : Fg := { start := s.now, settled := false, windows := 0, result := 0, made := none, auto := auto }
  ((s.modChan c (fun h => { h with fg := some f, isolated := true, tone := some 0 })).showState (0x2201 + 16 * c) 6 2).showFg

/-- FG_CAL_START: the requested channel stops at its frame boundary, and after a retune that is due; a request that finds it in
calibration is spent (R184, R185 step 1). -/
def execFgCalStart (c : Ch) (s : State) : Out State :=
  s.guarded (fun s =>
    match s.fgRequest c with
    | none => s
    | some p =>
      if (s.chan c).fgPour = p then s
      else if (s.chan c).fg.isSome then s.modChan c (fun h => { h with fgPour := p })
      else if (s.chan c).delivers && !s.retuneDue then
        ((s.modChan c (fun h => { h with fgPour := p })).stopChannel c s.now 3 false).beginFg c false
      else s)

/-- A calibration in progress changed by `f`. -/
def State.modFg (s : State) (c : Nat) (f : Fg → Fg) : State := s.modChan c (fun h => { h with fg := h.fg.map f })

/-- FG_CAL_SETTLED: at 8 ms the residual input, in L16, must be below −40 dBFS; no window begins while a retune waits (R183, R185 step
3, R187 codes 2 and 3). -/
def execFgCalSettled (c : Ch) (level : Int) (s : State) : Out State :=
  s.guarded (fun s =>
    match (s.chan c).fg with
    | none => s
    | some f =>
      if f.settled ∨ f.result ≠ 0 then s
      else if -5120 ≤ level then s.endFg c 3
      else if s.retuneDue then s.endFg c 2
      else s.modFg c (fun f => { f with settled := true }))

/-- A fault event of the tone injector (R187 code 5). -/
def State.toneFault (s : State) (c : Nat) : State :=
  let (s, n, lasting) := s.countFault .tone (elementOf c 0)
  s.journalFault .tone (elementOf c 0) n lasting false

/-- The level that the spare measures of tone k, in L16, lies more than 1 dB from its factory level; window 0 has no tone (R185 step 4,
R187 code 5). -/
def toneOff (c k : Nat) (level : Int) : Bool := k != 0 && decide (128 < (level - Config.factoryTone c k).natAbs)

/-- FG_CAL_WINDOW_END: one of the 40 windows, with the level that the spare measured; a tone out of tolerance or a retune that waits
ends the calibration (R185 step 4, R187 codes 2 and 5). The next window has the next tone. -/
def execFgCalWindowEnd (c : Ch) (level : Int) (s : State) : Out State :=
  s.guarded (fun s =>
    match (s.chan c).fg with
    | none => s
    | some f =>
      if !f.settled ∨ f.result ≠ 0 ∨ 40 ≤ f.windows then s
      else
        let t := s.modChan c (fun h => { h with
          fg := some { f with windows := f.windows + 1 }, tone := some (if f.windows < 39 then f.windows + 1 else 0) })
        if toneOff c f.windows level then (t.endFg c 5).toneFault c
        else if s.isLasting .tone (elementOf c 0) then t.endFg c 5
        else if s.retuneDue then t.endFg c 2
        else t)

/-- Elements as a calibration has measured them, with the bits of R174 that show the spare in service (R174). -/
def markServed (els : List Element) (served : Option Nat) : List Element :=
  (els.zipIdx).map (fun ((e, i) : Element × Nat) => { e with spare := served == some i, retired := served.isSome && i == 64 })

/-- FG_CAL_COMPLETE: the set that was computed is stored; a slot out of range is a slice fault (R185 steps 5 and 6, R187 codes 1 and
6, R189). -/
def execFgCalComplete (c : Ch) (cal : CalData) (s : State) : Out State :=
  s.guardedWf (Instr.wellFormed (.fgCalComplete c cal)) (fun s =>
    match (s.chan c).fg with
    | none => s
    | some f =>
      if f.windows < 40 ∨ f.result ≠ 0 then s
      else
        let bad := (upTo 64).filter (fun k =>
          let e := cal.elements.getD k default
          !elementInRange e.offset e.gain e.skew)
        if bad.isEmpty then
          let k : CalSet := {
            key := s.chanRate c, elements := markServed cal.elements (s.served c), taps := cal.taps }
          (((s.modFg c (fun f => { f with made := some k })).endFg c 1).storeSet c k).bump 0x2F80 7
        else (bad.foldl (fun s k => s.sliceFault c k none) s).endFg c 6)

/-- FG_CAL_RESUME: a new set becomes active, and delivery resumes at the frame boundary (R185 step 7, R186, R187). -/
def execFgCalResume (c : Ch) (s : State) : Out State :=
  s.guarded (fun s =>
    match (s.chan c).fg with
    | none => s
    | some f =>
      if f.result = 0 then s
      else
        let s := s.finishFg c f
        if f.auto then s else s.restartChannel c)

/-! ### Set images (R174, R191) -/

/-- The 64 bits of an element (R174). -/
def elementImage (e : Element) : List Byte :=
  leBytes 2 (e.updates.toNat + (if e.retired then 2 ^ 14 else 0) + (if e.spare then 2 ^ 15 else 0))
    ++ leBytes 2 (bitsOf 16 e.skew) ++ leBytes 2 e.gain ++ leBytes 2 (bitsOf 16 e.offset)

/-- An element from its 64 bits. -/
def elementFrom (b : List Byte) (k : Nat) : Element :=
  let x := field b k 2
  { offset := signedOf 16 (field b (k + 6) 2), gain := field b (k + 4) 2, skew := signedOf 16 (field b (k + 2) 2)
    spare := x.testBit 15, retired := x.testBit 14, updates := BitVec.ofNat 14 x }

/-- The interleave table 0x2204 (R200). -/
def State.tableImage (s : State) (c : Nat) : List Byte :=
  (upTo 65).flatMap (fun k => elementImage ((s.elementsOf c).getD k default))

/-- A set's image (R191). -/
def setImage (key : Nat) (elements : List Element) (taps : List Int) : List Byte :=
  let body := (upTo 65).flatMap (fun k => elementImage (elements.getD k default))
    ++ (upTo 33).flatMap (fun i => leBytes 4 (bitsOf 32 (taps.getD i 0)))
  leBytes 8 key ++ leBytes 4 1 ++ leBytes 4 (crc32c body).toNat ++ body

/-- What a read of 0x2F00.0E returns: the active set (R191). -/
def State.activeImage (s : State) (c : Nat) : List Byte :=
  if (s.chan c).active.isSome then setImage (s.chan c).activeKey (s.elementsOf c) (s.tapsOf c)
  else setImage 20480000000 (factoryElements c) (factoryTaps c)

/-- CAL_SET_IMPORT: a set written in PREOP is stored under its key; a wrong length, version or CRC is refused (R51, R191). -/
def execCalSetImport (r : Requester) (c : Ch) (image : List Byte) (s : State) : Out State :=
  s.guarded (fun s =>
    let k := keyOf (0x2F00 + 16 * c.val) 0x0E
    s.mayWrite r k (fun s =>
      if s.ctl.dev ≠ .preop then s.refuse r 0x08000022 k
      else if image.length ≠ 668 ∨ field image 8 4 ≠ 1 ∨ field image 12 4 ≠ (crc32c (image.drop 16)).toNat then
        s.refuse r 0x06090030 k
      else s.storeSet c {
        key := field image 0 8, elements := (upTo 65).map (fun i => elementFrom image (16 + 8 * i))
        taps := (upTo 33).map (fun i => signedOf 32 (field image (536 + 4 * i) 4)) }))

/-! ### Spares (R194, R197) -/

/-- SLICE_SPARE_TAKEOVER: at a frame boundary the spare serves the lasting slot, elements k and 64 are swapped, and the event is
journalled with its first and last repaired sample; an estimate that waits is dropped (R194, R195). -/
def execSliceSpareTakeover (c : Ch) (s : State) : Out State :=
  s.guarded (fun s =>
    match (s.chan c).takeover with
    | none => s
    | some k =>
      let els := swapSpare (s.elementsOf c) k (fun e => { e with spare := true }) (fun e => { e with retired := true })
      let n := (s.chan c).takeoverN
      let e := Tab.get (fun _ => (0, 0)) (s.chan c).errSpan k
      let s := s.modChan c (fun h => { h with takeover := none, takeoverN := 0, est := none, elements := els })
      let s := ((s.put (0x2203 + 16 * c.val) 1 2).put (0x2203 + 16 * c.val) 2 k).showCal c
      s.journalFault .slice (elementOf c k) n true true [] e.1 e.2)

/-- COMPARATOR_SPARE_TAKEOVER: at the next frame boundary the spare pair takes over (R197). -/
def execComparatorSpareTakeover (c : Ch) (s : State) : Out State :=
  s.guarded (fun s =>
    if (s.chan c).cmpTakeover then
      (s.modChan c (fun h => { h with cmpTakeover := false })).put (0x2203 + 16 * c.val) 7 1
    else s)

end Sys2Proof.Machine
end

