-- ==== Sys2Proof/Machine/Startup.lean ====
section
/-! DEFINITION. Resets and the start-up timeline (chapter 17, R95, R619). -/

namespace Sys2Proof.Machine

/-- What a reset leaves of a drive: its contents (R639); it is enumerated again. -/
def Drive.afterReset (d : Drive) : Drive := { d with st := 0, link := 0, outstanding := [], retired := false, faults := 0 }

/-- The store over what the drives hold (R639, R557): chunks in the store buffer or still being appended are gone. -/
def Sto.afterReset (t : Sto) : Sto :=
  { Sto.reset with
    drives := t.drives.map (fun (p : Nat × Drive) => (p.1, p.2.afterReset))
    chunks := t.chunks.filter (fun p => p.2.st != .buffered && p.2.st != .appending)
    streams := t.streams.map (fun (p : Nat × RStream) => (p.1, { RStream.off with
      next := p.2.next, session := p.2.session, ownSeq := p.2.ownSeq, tails := p.2.tails, bytes := p.2.bytes }))
    session := t.session, storeId := t.storeId, generation := t.generation, entryNo := t.entryNo
    ringZone := t.ringZone, ringUsed := t.ringUsed, catZone := t.catZone }

/-- The machine after a reset of any kind (R639). A slot that was being written is left invalid (R640). -/
def State.restart (s : State) (cause : Nat) (incomplete held : Bool) : State :=
  let cut := s.ctl.image.isSome
  { State.reset with
    pending := s.pending
    out := s.out
    ctl := { Ctl.reset with
      held := held, released := !held, oscillates := !held || (s.ctl.oscillates && cause != 0x01), drawn := s.ctl.drawn }
    flt := { Flt.reset with
      nv := s.flt.nv, bootCount := s.flt.bootCount, rows := s.flt.rows, rollback := s.flt.rollback, cause := cause
      causeIncomplete := incomplete
      slotA := if cut && s.flt.runningB then none else s.flt.slotA
      slotB := if cut && !s.flt.runningB then none else s.flt.slotB }
    sto := s.sto.afterReset }

/-- A low pulse resets the device: always from 10 µs, never below 100 ns, and as the part decides in between (R636). -/
def pulseTakes (widthNs : Nat) : Bool :=
  decide (10000 ≤ widthNs) || (decide (100 ≤ widthNs) && Config.pulseResets widthNs)

/-- POWER_ON_RESET: the whole device is held in reset with cause 0x01 (R636, R638, R639). -/
def execPowerOnReset (widthNs : Nat) (s : State) : Out State :=
  .next (if pulseTakes widthNs then s.restart 0x01 false true else s)

/-- PIN_RESET: the same with cause 0x02, and the crystal keeps running; a power-on reset in force keeps its lower code (R638, R639). -/
def execPinReset (widthNs : Nat) (s : State) : Out State :=
  .next (if pulseTakes widthNs then s.restart (if s.ctl.held then min s.flt.cause 0x02 else 0x02) false true else s)

/-- RESET_RELEASE: the crystal oscillator starts, unless it still runs (R639, R641 step 1). -/
def execResetRelease (s : State) : Out State :=
  .next (if s.ctl.held then { s with ctl := { s.ctl with held := false, released := true, oscillates := true } } else s)

/-- The slot that the boot ROM starts: the valid one with the higher version (R95), slot A of two with the same one (DESIGN CHOICE,
log entry 48); true for B. -/
def Flt.bootSlot (f : Flt) : Option Bool :=
  match f.slotA, f.slotB with
  | none, none => none
  | some _, none => some false
  | none, some _ => some true
  | some a, some b => some (decide (a.version.toNat < b.version.toNat))

/-- The AL status code of a device with no valid slot (R95), and of one that boots (R42). -/
def State.bootStatus (s : State) : Nat := if s.flt.bootSlot.isNone then 0x0014 else 0x8001

/-- CRYSTAL_STABLE: boot ROM, OTP, boot count, monitors, LOCKF at 12.5 % (R641 step 2, R95, R596). -/
def execCrystalStable (s : State) : Out State :=
  s.guarded (fun s =>
    if s.ctl.crystal || !s.ctl.oscillates then s
    else
      let s := { s with
        ctl := { s.ctl with crystal := true }
        clk := { s.clk with lockf := 1 }
        flt := { s.flt with bootCount := (s.flt.bootCount + 1) % 2 ^ 32, runningB := s.flt.bootSlot == some true } }
      (s.put 0x2001 7 s.flt.cause).put 0x2001 5 s.bootStatus)

/-- FIRMWARE_RUNNING: the started slot's firmware runs and SII emulation is available (R641 step 5). -/
def execFirmwareRunning (s : State) : Out State :=
  s.guarded (fun s =>
    if s.ctl.crystal && s.flt.bootSlot.isSome then { s with ctl := { s.ctl with firmware := true } } else s)

/-- Outputs that leave their reset state on the way up (R654): ECAT_nPHYRST is released at step 2, STORn_CLK starts with the
root ports (STORn_nRST follows 1 ms later), and ETHn_nRST is released at the start of step 11; the firmware runs both. -/
def State.phyReleased (s : State) : Bool := s.ctl.crystal
def State.storClockRuns (s : State) : Bool := s.ctl.firmware
def State.moduleReleased (s : State) : Bool := s.ctl.firmware

/-- SYNTH_INITIAL_LOCK: both synthesisers locked to the crystal, LOCKF at 37.5 %; all interpolators calibrate (R641 steps 6
and 7, R472). -/
def execSynthInitialLock (s : State) : Out State :=
  s.guarded (fun s =>
    if s.ctl.firmware && s.num 0x2100 4 == 1 then
      let s := (s.put 0x2100 4 2).put 0x2101 1 2
      { s with
        clk := { s.clk with lockf := 3 }
        tiu := { s.tiu with interps := (upTo 9).foldl (fun t i => Tab.modify (fun _ => Interp.factory) t i
          (fun p => { p with calibrating := some 0, cycle := true, forced := true })) s.tiu.interps } }
    else s)

/-- HBM_INIT_COMPLETE: the journalled rows named are repaired; the stacks are trained, and the parameter sets of every channel
at both rates are kept (R641 step 9, R380, R388). -/
def execHbmInitComplete (repaired : List Nat) (s : State) : Out State :=
  s.guarded (fun s =>
    if s.ctl.firmware then
      let rows := s.flt.rows.filter (fun a => !repaired.contains a)
      let s := (List.range 128).foldl (fun s k =>
        ({ s with hbm := { s.hbm with params := Tab.set (fun _ => 0) s.hbm.params k s.fresh } } : State).drew) s
      State.putLive { s with ctl := { s.ctl with hbmReady := true }, flt := { s.flt with rows := rows } } 0x2802 7 rows.length
    else s)

/-- The emergency code of a reset cause: supply, temperature, firmware (R89, R638). -/
def causeEmergency (c : Nat) : Nat :=
  if c = 0x10 ∨ c = 0x11 then 0x3000 else if c = 0x12 then 0x4000 else if c = 0x13 then 0x6100 else 0xFF00

/-- The cause entry of the last reset (R641 step 13, R649): critical for a controlled reset, info for the others. The entry
that a controlled reset committed stands in the non-volatile area already. -/
def State.causeEntry (s : State) : State :=
  let c := s.flt.cause
  let controlled := decide (0x10 ≤ c)
  let nv := s.flt.nv
  let s := s.report { severity := if controlled then 4 else 0, subsys := 20, kind := if controlled then 8 else 9, detail := c,
                      notes := if s.flt.causeIncomplete then 4 else 0, code := causeEmergency c }
  if controlled && !s.flt.causeIncomplete then { s with flt := { s.flt with nv := nv } } else s

/-- DICTIONARY_READY: 0x2001.06 is 1, the AL status code 0x0000, and the timebase qualifies its sources (R641 step 13). -/
def execDictionaryReady (s : State) : Out State :=
  s.guarded (fun s =>
    if s.ctl.firmware && s.ctl.hbmReady && s.num 0x2001 6 == 0 then
      (((s.put 0x2001 6 1).put 0x2001 5 0).causeEntry).emit (.alStatus 1 0)
    else s)

/-- PCIE_CONFIG_REQUEST: Retry Status until the endpoint answers, normally after that (R641 step 12, R643). -/
def execPcieConfigRequest (s : State) : Out State :=
  s.guarded (fun s => s.emit (.configAnswer (!(s.ctl.firmware && s.net.hostUp))))

/-- BOOT_RESTART: a request for INIT in BOOT from the state owner resets the device with cause 0x03 (R638, R95). -/
def execBootRestart (m : Master) (s : State) : Out State :=
  s.guarded (fun s =>
    if s.ctl.dev ≠ .boot then s
    else if s.ctl.owner = some m then s.restart 0x03 false false
    else s.refuseState m 0x8002 0x08000021)

/-- The cause code of a controlled reset (R638). -/
def ResetCondition.cause : ResetCondition → Nat
  | .supply => 0x10 | .sram => 0x11 | .temperature => 0x12 | .firmware => 0x13

/-- CONTROLLED_RESET_CONDITION: the journal begins to write the cause entry (R619); conditions are armed from step 2. The
lowest code of several stands (R638). -/
def execControlledResetCondition (cond : ResetCondition) (s : State) : Out State :=
  s.guarded (fun s =>
    if s.ctl.crystal then
      { s with flt := { s.flt with resetCond := match s.flt.resetCond with
        | some c => if ResetCondition.cause c ≤ ResetCondition.cause cond then some c else some cond
        | none => some cond } }
    else s)

/-- CONTROLLED_RESET_ASSERT: reset, with the entry committed or, after 100 µs, without it and cause 0x1F (R619, R638). -/
def execControlledResetAssert (committed : Bool) (s : State) : Out State :=
  s.guarded (fun s =>
    match s.flt.resetCond with
    | none => s
    | some c =>
      if committed then
        let s := s.report { severity := 4, subsys := 20, kind := 8, detail := ResetCondition.cause c,
                            code := causeEmergency (ResetCondition.cause c) }
        s.restart (ResetCondition.cause c) false false
      else s.restart 0x1F true false)

end Sys2Proof.Machine
end

