-- ==== Sys2Proof/Machine/Store.lean ====
section
/-! DEFINITION. Commands of the recording store (chapter 14). -/

namespace Sys2Proof.Machine

/-- A label's block (R538). -/
def labelImage (d : Nat) (l : DriveLabel) (i : DriveInfo) : List Byte :=
  let body := padTo 4092 (leBytes 4 0x51434C31 ++ leBytes 8 l.storeId.toNat ++ leBytes 1 l.position.val ++ leBytes 1 l.drives
    ++ leBytes 2 1 ++ leBytes 4 l.generation.toNat ++ leBytes 8 (i.zoneCapacity / 4096) ++ leBytes 4 i.zones
    ++ leBytes 12 l.formatTime.toNat ++ padTo 20 (Config.driveSerial d))
  body ++ leBytes 4 (crc32c body).toNat

/-- The drives that a format names: position d is the drive at port d (R539). -/
def State.formatDrives (s : State) (mask : Byte) : List Nat :=
  (upTo 8).filter (fun d => mask.getLsbD d && (s.drive d).info.isSome &&
    ((s.drive d).st == 2 || (s.drive d).st == 3 || (s.drive d).st == 5))

/-- A format discards the store: it names one of its drives, or no drive is in service (R539). -/
def State.formatDiscards (s : State) (mask : Byte) : Bool :=
  !(s.formatDrives mask).isEmpty && (s.inService.isEmpty || (s.formatDrives mask).any (fun d => s.inService.contains d))

/-- STORE_FORMAT: in PREOP only, the drives at the named positions get new labels under one new Store ID and empty zones, and
a format that names a drive of the store discards the whole store (R539). Drives that another store's drives stand beside
stay foreign. -/
def execStoreFormat (r : Requester) (mask : Byte) (s : State) : Out State :=
  s.guarded (fun s =>
    if (s.writeBar r).isSome || s.ctl.dev != .preop then s.refuse r ((s.writeBar r).getD 0x08000022) (keyOf 0x2C00 2)
    else
      let ds := s.formatDrives mask
      let whole := s.formatDiscards mask
      let id := s.fresh % 2 ^ 64
      let gen := s.sto.generation + 1
      let now := s.now
      let s := s.drew.modSto (fun t => if whole then { t with
        storeId := id, generation := gen, chunks := [], entries := [], blocks := [], ringZone := 4, ringUsed := 0,
        catZone := 3, catalogueDue := false, unavailable := 0, streams := [], st := 3 } else t)
      let s := (upTo 8).foldl (fun s d =>
        if ds.contains d then
          match (s.drive d).info with
          | none => s
          | some i =>
            let l : DriveLabel := { storeId := BitVec.ofNat 64 id, position := Fin.ofNat 8 d,
                                    drives := ds.length, generation := BitVec.ofNat 32 gen, formatTime := now }
            let s := s.modDrive d (fun v => { v with st := if whole then 2 else 5, zones := [], log := [], outstanding := [],
                                                     info := some { i with label := some l } })
            ((s.emit (.drive d 0x79 0 [])).emit (.drive d 0x7D 0 (labelImage d l i))).emit (.drive d 0x7D 1 (labelImage d l i))
        else if whole ∧ ((s.drive d).st = 2 ∨ (s.drive d).st = 3) then s.modDrive d (fun v => { v with st := 5 })
        else s) s
      s)

/-- STOR_LINK_UP: a port's link comes up and its drive is enumerated (R535, R536). -/
def execStorLinkUp (d : Fin 8) (gen width : Byte) (s : State) : Out State :=
  s.guarded (fun s =>
    if s.ctl.firmware then
      (s.modDrive d (fun v => { v with st := 1, link := (gen.toNat % 16) * 16 + width.toNat % 16 })).modSto
        (fun t => { t with st := if t.st = 0 then 1 else t.st })
    else s)

/-- Wear as a log page shows it: the warning is raised when it is reached, and a drive at its limit is worn (R554). -/
def State.wear (s : State) (d used spare threshold media : Nat) : State :=
  let v := s.drive d
  let warn := s.num 0x2C00 7
  let due := (decide (warn ≤ used) && decide (v.used < warn)) ||
    (decide (spare < threshold) && (decide (threshold ≤ v.spare) || v.media == 0 && v.spare == 0))
  let s := s.modDrive d (fun v => { v with
    used := used, spare := spare, media := media
    st := if v.st = 2 ∧ s.num 0x2C00 8 ≤ used then 3 else v.st })
  if due then s.report { severity := 2, subsys := 16, kind := 9, element := d * 2 ^ 56, code := 0xFF00 } else s

/-- What enumeration makes of a drive: 6 outside the limits of R535, 5 foreign, 4 retired since the last start-up (R551), 2 in
service (R538, R539). -/
def State.driveVerdict (s : State) (d : Nat) (i : DriveInfo) : Nat :=
  let others := (upTo 8).filter (fun e => e != d && ((s.drive e).st == 2 || (s.drive e).st == 3))
  if !i.withinLimits ∨ i.zoneCapacity < 67108864 ∨ i.appendLimit < 131072 then 6
  else match i.label with
    | none => 5
    | some l =>
      if (s.drive d).retired then 4
      else if others.isEmpty then 2
      else if others.all (fun e => ((s.drive e).info.bind DriveInfo.label).map DriveLabel.storeId == some l.storeId) then 2
      else 5

/-- The store's state once the drives found so far are known (R539, R561). -/
def State.storeVerdict (s : State) : Nat :=
  if s.sto.st = 3 then 3
  else if (upTo 8).any (fun d => (s.drive d).st == 1) then 1
  else if !s.inService.isEmpty then 2
  else if (upTo 8).any (fun d => (s.drive d).st == 5 && ((s.drive d).info.bind DriveInfo.label).isSome) then 5
  else if (upTo 8).any (fun d => (s.drive d).st == 5) then 4
  else 0

/-- DRIVE_ENUMERATED: the drive's label is read; a drive that comes after the recovery has its data at the next start-up
(R535-R539, R554). -/
def execDriveEnumerated (d : Fin 8) (info : DriveInfo) (s : State) : Out State :=
  s.guarded (fun s =>
    if (s.drive d).st = 1 then
      let st := s.driveVerdict d info
      let s := s.modDrive d (fun v => { v with st := st, info := some info, outstanding := [] })
      let s := s.wear d info.used.toNat info.spare.toNat info.spareThreshold.toNat info.mediaErrors.toNat
      let s := match info.label with
        | some l => if st = 2 then s.modSto (fun t => { t with storeId := l.storeId.toNat, generation := l.generation.toNat }) else s
        | none => s
      let s := if st = 2 ∧ s.sto.st = 3 then
          let away := s.sto.chunks.filter (fun p => p.2.drive == d.val && p.2.live)
          s.modSto (fun t => { t with
            unavailable := t.unavailable + away.length
            chunks := t.chunks.map (fun p => if p.2.drive == d.val && p.2.live then (p.1, { p.2 with st := .unavailable }) else p) })
        else s
      s.modSto (fun t => { t with st := s.storeVerdict })
    else s)

/-- DRIVE_READY_TIMEOUT: a drive that misses its cap reads absent (R642). -/
def execDriveReadyTimeout (d : Fin 8) (s : State) : Out State :=
  s.guarded (fun s =>
    if (s.drive d).st = 1 then
      let s := s.modDrive d (fun v => { v with st := 0 })
      s.modSto (fun t => { t with st := s.storeVerdict })
    else s)

/-- What recovery found of one stream (R557): chunks recovered (kind 2), the next chunk number, and the first sequence not
stored (kind 10); where chunks failed the checks, the zone left open is finished. -/
def State.recoverStream (s : State) (t : StreamTail) : State :=
  let n := t.stream.val
  let next := t.nextChunk.toNat
  let keys := (s.sto.chunks.filter (fun p => p.2.stream == n && decide (next - t.recovered ≤ p.2.number) &&
    decide (p.2.number < next))).map Prod.fst
  let s := keys.foldl (fun s k => match s.chunk? k with
    | none => s
    | some c => (s.modChunk k (fun c => { c with st := .recovered })).storeLog (c.entryOf 2)) s
  let s := s.modStream n (fun r => { r with
    next := next, waiting := [], series := [], starts := [], firstIn := none, carry := none
    tails := if t.lostTail then r.tails ++ [(next, r.session)] else r.tails })
  let s := if t.lostTail then s.inService.foldl (fun s d => match (s.drive d).openZone n with
      | some z => s.finishZone d z 2
      | none => s) s else s
  s.storeLog { kind := 10, stream := n, chunk := next, seq := t.firstLost.toNat, session := (s.rstream n).session }

/-- The chunks after recovery: those not stored are gone, those on a drive that is not in service are unavailable (R557). -/
def Chunk.recovery (c : Chunk) (serves : Bool) : Option Chunk :=
  match c.st with
  | .buffered | .appending | .appended => none
  | .lost => some c
  | .committed | .recovered | .unavailable =>
    some (if !serves then { c with st := .unavailable } else if c.st = .unavailable then { c with st := .committed } else c)

/-- STORE_RECOVERY_COMPLETE: recovery from catalogue and journal ends and the store is ready; `badCatalogue` says that a copy of the
catalogue was invalid (R557, R561). -/
def execStoreRecoveryComplete (tails : List StreamTail) (badCatalogue : Bool) (s : State) : Out State :=
  s.guarded (fun s =>
    if s.sto.st = 2 then
      let s := tails.foldl (fun s t => s.recoverStream t) s
      let s := s.modSto (fun t => { t with
        chunks := t.chunks.filterMap (fun p => (p.2.recovery (s.inService.contains p.2.drive)).map (fun c => (p.1, c))) })
      let found := tails.foldl (fun a t => a + t.recovered) 0
      let s := s.modSto (fun t => { t with
        st := 3, recovered := found
        unavailable := (t.chunks.filter (fun p => p.2.st == .unavailable)).length
        result := if badCatalogue then 4 else if tails.any StreamTail.lostTail then 3 else if 0 < found then 2 else 1 })
      s
    else s)

/-- A stream's flush time has passed since the first byte of its open chunk (R541). -/
def State.flushDue (s : State) (n : Nat) : Bool :=
  ((s.rstream n).firstIn.map (fun t => s.elapsed t (s.scfg n 6 * 1000))).getD false

/-- CHUNK_FLUSH_TIMER: the partly filled chunk is appended once the flush time has passed (R541). -/
def execChunkFlushTimer (st : Fin 32) (s : State) : Out State :=
  s.guarded (fun s =>
    let r := s.rstream st
    if r.series.isEmpty || !s.flushDue st then s else (s.cutChunk st r.series.length).appendNext st)

/-- CHUNK_APPEND: the chunk that waits is appended with FUA to the next eligible drive, or the stream stalls (R543-R545). -/
def execChunkAppend (st : Fin 32) (s : State) : Out State :=
  s.guarded (fun s => s.appendNext st)

/-- The append of a drive that a completion ends: the one put at that place of its zone, or else the oldest. -/
def State.completes (s : State) (d lba : Nat) : Option Nat :=
  let keys := (s.drive d).outstanding
  match keys.find? (fun k => ((s.chunk? k).map Chunk.lba) == some lba) with
  | some k => some k
  | none => keys.head?

/-- APPEND_COMPLETE: a chunk-committed entry is written, or the chunk is reissued after an error and its zone finished; streams
that stalled go on (R543, R545, R551, R552). -/
def execAppendComplete (d : Fin 8) (lba : U64) (status : AppendStatus) (s : State) : Out State :=
  s.guarded (fun s =>
    match s.completes d lba.toNat with
    | none => s
    | some key =>
      let s := s.modDrive d (fun v => { v with outstanding := v.outstanding.erase key })
      if status = .ok then
        let s := s.modChunk key (fun c => { c with st := .appended, lba := lba.toNat, entry := some s.sto.entryNo })
        match s.chunk? key with
        | none => s
        | some c => (s.storeLog (c.entryOf 1)).resumeStalled
      else
        match s.chunk? key with
        | none => s
        | some c =>
          let s := s.finishZone d c.zone (if status = .readOnly then 3 else 2)
          let s := (s.modChunk key (fun c => { c with st := .buffered })).modStream c.stream
            (fun r => { r with waiting := key :: r.waiting })
          ((s.driveFault d).appendNext c.stream).resumeStalled)

/-- An append of drive d has not completed within 0x2C00.03 (R551). -/
def State.appendOverdue (s : State) (d : Nat) : Bool :=
  (s.drive d).outstanding.any (fun k => ((s.chunk? k).map (fun c => s.elapsed c.sent (s.num 0x2C00 3 * 1000000))).getD false)

/-- APPEND_TIMEOUT: an append has not completed within the command timeout: the drive is retired at once and its chunks are reissued
(R551, R552). -/
def execAppendTimeout (d : Fin 8) (s : State) : Out State :=
  s.guarded (fun s =>
    if !s.appendOverdue d then s
    else
      let ns := (s.drive d).outstanding.map (· / 2 ^ 32)
      let (s, _, _) := s.countDrive d.val
      let s := s.retireNow d 0x5000
      ns.foldl (fun s n => s.appendNext n) s)

/-- JOURNAL_BLOCK_APPEND: the open block of up to 64 entries is appended to every journal drive (R545). -/
def execJournalBlockAppend (s : State) : Out State :=
  s.guarded (fun s =>
    let es := s.sto.entries.take 64
    if es.isEmpty ∨ s.journalDrives.isEmpty then s
    else
      let data := padTo 4096 es.flatten
      let last := s.sto.entryNo - (s.sto.entries.length - es.length) - 1
      let z := s.sto.ringZone
      let cap := ((s.journalDrives.map (fun d => (s.drive d).zoneLbas)).foldl min (2 ^ 32))
      let s := s.journalDrives.foldl (fun s d =>
        (s.modDrive d (fun v => { v with log := (z, data) :: v.log })).emit (.drive d 0x7D z data)) s
      s.modSto (fun t =>
        let full := decide (cap ≤ t.ringUsed + 1)
        { t with
          entries := t.entries.drop 64
          blocks := t.blocks ++ [(last, data)]
          ringUsed := if full then 0 else t.ringUsed + 1
          ringZone := if full then 4 + (t.ringZone - 3) % 16 else t.ringZone
          catalogueDue := t.catalogueDue || full }))

/-- JOURNAL_BLOCK_DURABLE: the chunks of the oldest block are committed, and segments whose chunks all are committed are
released (R545, R546). -/
def execJournalBlockDurable (s : State) : Out State :=
  s.guarded (fun s =>
    match s.sto.blocks with
    | [] => s
    | (last, _) :: rest => (s.modSto (fun t => { t with blocks := rest })).commitChunks last)

/-- A catalogue is due: the interval 0x2C00.09 has passed since the last, or the journal ring has filled a zone (R548). -/
def State.catalogueIsDue (s : State) : Bool := s.sto.catalogueDue || s.elapsed s.sto.catalogueAt (s.num 0x2C00 9 * 1000000000)

/-- CATALOGUE_WRITE: a catalogue that is due goes to the catalogue zone not written last, on every journal drive, and older journal zones
are reset (R548). -/
def execCatalogueWrite (s : State) : Out State :=
  s.guarded (fun s =>
    if s.journalDrives.isEmpty || !s.catalogueIsDue then s
    else
      let zones := (upTo 8).flatMap (fun d => ((s.drive d).zones.filter (fun p => p.2.cond == 1 || p.2.cond == 2 ||
        p.2.cond == 3)).map (fun p => p.2.entryOf 5 d p.1))
      let lost := (s.sto.chunks.filter (fun p => p.2.st == .lost)).map (fun p => p.2.entryOf 4)
      let mid := zones ++ lost
      let es := [{ kind := 9 }] ++ mid ++ [{ kind := 9, len := mid.length + 2 : SEntry }]
      let no := s.sto.entryNo
      let data := (es.zipIdx.map (fun (e, i) => e.image (no + i))).flatten
      let z := if s.sto.catZone = 2 then 3 else 2
      let keep := s.sto.ringZone
      let s := s.journalDrives.foldl (fun s d =>
        (s.modDrive d (fun v => { v with log := (z, data) :: v.log.filter (fun p => p.1 != z && (decide (p.1 < 4) || p.1 == keep)) })).emit
          (.drive d 0x7D z data)) s
      s.modSto (fun t => { t with catZone := z, entryNo := no + es.length, catalogueDue := false, catalogueAt := s.now }))

/-- ZONE_STATE_REPORT: a zone Read Only is finished; every chunk of a zone Offline is lost and the zone retired (R551). -/
def execZoneStateReport (d : Fin 8) (zone : Nat) (rep : ZoneReport) (s : State) : Out State :=
  s.guarded (fun s =>
    match rep with
    | .readOnly =>
      let zn := (s.drive d).zone zone
      let s := (s.modDrive d (fun v => v.modZone zone (fun q => { q with cond := 3 }))).storeLog (zn.entryOf 6 d zone)
      s.driveFault d
    | .offline =>
      let zn := (s.drive d).zone zone
      let keys := (s.sto.chunks.filter (fun p => p.2.drive == d.val && p.2.zone == zone && (p.2.live || p.2.st == .appended))).map Prod.fst
      let s := keys.foldl (fun s k => s.loseChunk k) s
      let s := ((s.modDrive d (fun v => v.modZone zone (fun q => { q with cond := 4 }))).storeLog (zn.entryOf 7 d zone)).modSto
        (fun t => { t with retiredZones := t.retiredZones + 1 })
      s.driveFault d)

/-- STOR_LINK_LOSS: the drive is retired at once with emergency 0x8100, and its chunks are unavailable (R551). -/
def execStorLinkLoss (d : Fin 8) (s : State) : Out State :=
  s.guarded (fun s =>
    let v := s.drive d
    if v.st = 0 then s
    else
      let ns := v.outstanding.map (· / 2 ^ 32)
      let (s, _, _) := s.countDrive d.val
      let s := (s.retireNow d 0x8100).modDrive d (fun v => { v with link := 0 })
      let s := s.modSto (fun t => { t with st := if t.st = 3 then 3 else s.storeVerdict })
      ns.foldl (fun s n => s.appendNext n) s)

/-- WEAR_POLL: the logs of a drive are read and its wear checked (R554). -/
def execWearPoll (d : Fin 8) (used spare spareThreshold : Byte) (mediaErrors : U64) (s : State) : Out State :=
  s.guarded (fun s =>
    if (s.drive d).st = 2 ∨ (s.drive d).st = 3 then
      s.wear d used.toNat spare.toNat spareThreshold.toNat mediaErrors.toNat
    else s)

/-- The zone's newest chunk is older than the retention age of 0x2C00.05 days (R555). -/
def State.zoneAged (s : State) (d z : Nat) : Bool :=
  let newest := ((s.drive d).zone z).newest
  decide (newest.toNat + s.num 0x2C00 5 * 86400 * t96PerSecond < s.now.toNat)

/-- The Read Only zones of a drive with chunks that can be read: the scrub rewrites them before any other zone (R551). -/
def State.readOnlyZones (s : State) (d : Nat) : List Nat :=
  (s.drive d).dataZones.filter (fun z => ((s.drive d).zone z).cond == 3 &&
    s.sto.chunks.any (fun p => p.2.drive == d && p.2.zone == z && p.2.live))

/-- The scrub may read a chunk: once per scrub period 0x2C00.04, and at no more than the scrub rate 0x2C00.06 per drive (R555). -/
def State.scrubDue (s : State) (d : Nat) (c : Chunk) : Bool :=
  let now := s.ctl.crystalCount
  s.bcfg .store 0x2C00 6 != 0 && decide ((s.drive d).scrubFree ≤ now)
    && c.scrubAt.all (fun t => decide (t + s.num 0x2C00 4 * 1000000 * microCount ≤ now))

/-- The scrub has read a chunk of drive d: its bytes take their time at the scrub rate (R555). -/
def State.scrubbed (s : State) (d key : Nat) (c : Chunk) : State :=
  let now := s.ctl.crystalCount
  (s.modChunk key (fun c => { c with scrubAt := some now })).modDrive d (fun v => { v with
    scrubFree := now + c.used * microCount / s.bcfg .store 0x2C00 6 })

/-- SCRUB_CHUNK_READ: the scrub pauses at Q1 and above. A bad CRC and an unrecovered read error lose the chunk; a zone that is
aged, Read Only, on a worn drive or that needed a retry has its live chunks relocated, Read Only zones first (R551, R555,
R556). The chunk is named by 2^32 · stream + number. -/
def execScrubChunkRead (d : Fin 8) (chunk : U64) (result : ScrubResult) (s : State) : Out State :=
  s.guarded (fun s =>
    match s.chunk? chunk.toNat with
    | none => s
    | some c =>
      if c.drive ≠ d.val ∨ !c.live ∨ 1 ≤ s.hea.level ∨ !s.scrubDue d c then s
      else
      let s := s.scrubbed d chunk.toNat c
      if result = .crcBad then s.loseChunk chunk.toNat
      else if result = .unreadable then (s.loseChunk chunk.toNat).driveFault d
      else if result = .retried ∨ ((s.drive d).zone c.zone).retry ∨ s.zoneAged d c.zone ∨ ((s.drive d).zone c.zone).cond = 3 ∨ (s.drive d).st = 3 then
        ((s.readOnlyZones d).foldl (fun s z => if z = c.zone then s else s.relocateZone d z) s).relocateZone d c.zone
      else s)

/-- A replay, and a replay changed by `f`. -/
def State.replay (s : State) (i : Nat) : Replay := Tab.get (fun _ => Replay.idle) s.sto.replays i
def State.modReplay (s : State) (i : Nat) (f : Replay → Replay) : State :=
  s.modSto (fun t => { t with replays := Tab.modify (fun _ => Replay.idle) t.replays i f })

/-- The lowest-numbered chunk of a stream. -/
def State.firstChunk (s : State) (n : Nat) : Nat :=
  (s.sto.chunks.filter (fun p => p.2.stream == n)).foldl (fun a p => min a p.2.number) (s.rstream n).next

/-- REPLAY_START: the replay takes its entries and starts at the start point (R558). The store must be ready, and the runner
a record runner with no other writer. -/
def execReplayStart (r : Requester) (i : Fin 8) (s : State) : Out State :=
  s.guarded (fun s =>
    let ix := 0x2C60 + i.val
    let rn := s.num ix 8
    if (s.writeBar r).isSome then s.refuse r ((s.writeBar r).getD 0) (keyOf ix 0x0A)
    else if s.sto.st ≠ 3 ∨ !s.isRecordRunner rn ∨ s.runnerNamed rn ∨
        (upTo 8).any (fun j => j != i.val && ((s.replay j).st == 1 || (s.replay j).st == 2) && (s.replay j).runner == rn) then
      s.refuse r 0x08000020 (keyOf ix 0x0A)
    else
      let n := s.num ix 1
      s.modReplay i (fun _ => { Replay.idle with
        st := 1, stream := n, mode := s.num ix 2, session := s.num ix 3, seq := s.num ix 4
        time := BitVec.ofNat 96 (s.num ix 5), limit := s.num ix 7, runner := rn, chunk := s.firstChunk n,
        offset := 2 ^ 32 }))

/-- REPLAY_STOP: control 2 stops a replay (R558). -/
def execReplayStop (r : Requester) (i : Fin 8) (s : State) : Out State :=
  s.guarded (fun s =>
    if (s.writeBar r).isSome then s.refuse r ((s.writeBar r).getD 0) (keyOf (0x2C60 + i.val) 0x0A)
    else s.modReplay i (fun p => { p with st := if p.st = 1 ∨ p.st = 2 then 4 else p.st }))

/-- A log notice (R559): cause, chunks concerned, session, and the first record time where it is known. -/
def State.replayNotice (s : State) (i cause first count session : Nat) (time : T96) : State :=
  let p := s.replay i
  let fields := leBytes 8 first ++ leBytes 4 count ++ leBytes 4 session ++ leBytes 4 p.stream
  let bytes := sealRecord (headerBytes 0x1F 0xFFFE 64 p.notices 0 time 0xFF cause 0 0 fields) []
  (s.writeSlot p.runner bytes).modReplay i (fun p => { p with notices := p.notices + 1 })

/-- `n` bytes of a stream's series from chunk `k` and offset `off`, over chunks that can be read; none where one cannot. -/
def State.seriesBytes (s : State) (stream : Nat) : (fuel k off n : Nat) → Option (List Byte)
  | 0, _, _, _ => none
  | fuel + 1, k, off, n =>
    match s.chunk? (chunkKey stream k) with
    | none => none
    | some c =>
      if !c.live then none
      else
        let here := (c.data.drop off).take n
        if here.length = n then some here
        else (s.seriesBytes stream fuel (k + 1) 0 (n - here.length)).map (here ++ ·)

/-- What a replay does next. -/
inductive ReplayItem where
  /-- A notice: cause, first chunk and chunks concerned, session, time. -/
  | notice (cause first count session : Nat) (time : T96)
  /-- A record, whether it is at or after the start point, and where the replay stands after it. -/
  | record (bytes : List Byte) (found : Bool) (chunk offset : Nat)
  /-- Only the place changes. -/
  | move (chunk offset : Nat)
  /-- A chunk whose record fails its CRC is lost. -/
  | lose (chunk : Nat)
  | finish

/-- The offset that stands for the first record that starts in a chunk. -/
def resync : Nat := 2 ^ 32

/-- Chunks in a row, from chunk `k` on, that are in one state. -/
def State.stretch (s : State) (stream : Nat) (st : ChunkState) : (fuel k : Nat) → Nat
  | 0, _ => 0
  | fuel + 1, k => if (s.chunk? (chunkKey stream k)).map Chunk.st = some st then s.stretch stream st fuel (k + 1) + 1 else 0

/-- Chunk numbers in a row, from `k` on, of which no place is known. -/
def State.missingFrom (s : State) (stream k : Nat) : Nat :=
  s.sto.chunks.foldl (fun a p => if p.2.stream = stream ∧ k < p.2.number then min a p.2.number else a) (s.rstream stream).next - k

/-- A record or chunk at or after a replay's start point (R558). -/
def Replay.reached (p : Replay) (session seq : Nat) (time : T96) : Bool :=
  p.found || (if p.mode = 0 then decide (p.session < session) || (session == p.session && decide (p.seq ≤ seq))
    else decide (p.time.toNat ≤ time.toNat))

/-- The next item of a replay (R558, R559). -/
def State.replayNext (s : State) (p : Replay) : ReplayItem :=
  let n := p.stream
  let fuel := s.sto.chunks.length
  match (s.rstream n).tails.find? (fun t => t.1 == p.chunk && p.found && p.tailNoticed != some p.chunk
      && (p.offset == 0 || p.offset == resync)) with
  | some (_, session) => .notice 5 p.chunk 0 session 0
  | none =>
  match s.chunk? (chunkKey n p.chunk) with
  | none =>
    if (s.rstream n).next ≤ p.chunk then .finish
    else
      let m := s.missingFrom n p.chunk
      if p.found then .notice 2 p.chunk m 0 0 else .move (p.chunk + m) resync
  | some c =>
    if c.st = .lost ∨ c.st = .unavailable then
      if p.found ∨ (c.firstOff ≠ 0 ∧ p.reached c.session c.firstSeq c.firstTime = true) then
        .notice (if c.st = .lost then 1 else 2) p.chunk (s.stretch n c.st fuel p.chunk) c.session (if c.firstOff = 0 then 0 else c.firstTime)
      else .move (p.chunk + 1) resync
    else if !c.live then .finish
    else if p.offset = resync then
      if c.firstOff = 0 then .move (p.chunk + 1) resync else .move p.chunk (c.firstOff - 64)
    else if c.data.length ≤ p.offset then .move (p.chunk + 1) (p.offset - c.data.length)
    else
      match s.seriesBytes n 4096 p.chunk p.offset 64 with
      | none => .move (p.chunk + 1) resync
      | some h =>
        let len := field h 4 4
        match s.seriesBytes n 4096 p.chunk p.offset (max 64 len) with
        | none => .move (p.chunk + 1) resync
        | some b =>
          if (crc32c (b.take 60 ++ b.drop 64)).toNat ≠ field b 60 4 then .lose p.chunk
          else
            let time := if c.firstOff = 0 then 0 else c.firstTime
            let ok := p.reached c.session (field b 8 8) (BitVec.ofNat 96 (field b 20 12))
            if ok && p.lastSession.isSome && p.lastSession != some c.session then .notice 4 p.chunk 1 c.session time
            else if ok && c.st == .recovered && decide (p.recoveredTo ≤ p.chunk) then
              .notice 3 p.chunk (s.stretch n .recovered fuel p.chunk) c.session time
            else .record b ok p.chunk (p.offset + ceilTo 64 (max 64 len))

/-- A replay once its notice is written: it stands beyond chunks that cannot be read, and goes on where it stands otherwise. -/
def Replay.afterNotice (p : Replay) (cause first count session : Nat) : Replay :=
  let p := { p with st := 1 }
  if cause = 1 ∨ cause = 2 then { p with chunk := first + max 1 count, offset := resync }
  else if cause = 3 then { p with recoveredTo := first + max 1 count }
  else if cause = 4 then { p with lastSession := some session }
  else { p with tailNoticed := some first }

/-- The earliest instant of a replay's next record after one of `len` bytes, under its rate limit in MB/s; 0 is none (0x2C60 + r.09). -/
def State.replayDue (s : State) (i len : Nat) : T96 :=
  let rate := s.bcfg .store (0x2C60 + i) 9
  if rate = 0 then s.now else s.now + BitVec.ofNat 96 (len * t96PerSecond / (rate * 1000000))

/-- What a replay's read of a chunk shows: an unreadable one and one whose CRC fails are lost, the former an event of its drive; a retry
makes the scrub rewrite the zone (R551, R555, R558). -/
def State.replayRead (s : State) (key : Nat) (read : ScrubResult) : State :=
  match s.chunk? key with
  | none => s
  | some c =>
    if !c.live then s
    else
      match read with
      | .good => s
      | .retried => s.modDrive c.drive (fun v => v.modZone c.zone (fun z => { z with retry := true }))
      | .crcBad => s.loseChunk key
      | .unreadable => (s.loseChunk key).driveFault c.drive

/-- A replay passes over what lies before its start point and what cannot be read, and writes one record or notice where its
runner has room; a full runner makes it wait (R19, R558). -/
def State.replayRun (s : State) (i : Nat) : (fuel : Nat) → State
  | 0 => s
  | fuel + 1 =>
    let p := s.replay i
    let full := !s.runnerTakes p.runner
    if p.st ≠ 1 ∧ p.st ≠ 2 then s
    else match s.replayNext p with
      | .move k off => (s.modReplay i (fun p => { p with chunk := k, offset := off })).replayRun i fuel
      | .lose k => (s.loseChunk (chunkKey p.stream k)).replayRun i fuel
      | .record b ok k off =>
        if !ok then (s.modReplay i (fun p => { p with chunk := k, offset := off })).replayRun i fuel
        else if full then s.modReplay i (fun p => { p with st := 2 })
        else
          let s := s.writeSlot p.runner b
          s.modReplay i (fun p => { p with
            st := 1, found := true, chunk := k, offset := off, due := s.replayDue i b.length, delivered := p.delivered + 1
            lastSession := (s.chunk? (chunkKey p.stream k)).map Chunk.session })
      | .notice cause first count session time =>
        if full then s.modReplay i (fun p => { p with st := 2 })
        else (s.replayNotice i cause first count session time).modReplay i (fun p => p.afterNotice cause first count session)
      | .finish =>
        if full then s.modReplay i (fun p => { p with st := 2 })
        else (s.replayNotice i 6 p.chunk 0 ((p.lastSession).getD 0) 0).modReplay i (fun p => { p with st := 3 })

/-- REPLAY_RECORD_DELIVER: the next record or notice goes into the runner once there is room and the rate limit lets it; with rate limit
0 reads go to a drive only while fewer than 2 MiB of its appends are outstanding; the record limit ends the replay (R550, R558, R559).
`read` says how the drive read the chunk that the replay stands in. -/
def execReplayRecordDeliver (i : Fin 8) (read : ScrubResult) (s : State) : Out State :=
  s.guarded (fun s =>
    let p := s.replay i
    if p.st ≠ 1 ∧ p.st ≠ 2 then s
    else if p.limit ≠ 0 ∧ p.limit ≤ p.delivered then
      if s.runnerTakes p.runner then
        (s.replayNotice i 6 p.chunk 0 ((p.lastSession).getD 0) 0).modReplay i (fun p => { p with st := 3 })
      else s.modReplay i (fun p => { p with st := 2 })
    else
      let busy := (s.chunk? (chunkKey p.stream p.chunk)).map (fun c => decide (2097152 ≤ s.outstandingBytes c.drive))
      let limited := s.bcfg .store (0x2C60 + i.val) 9 != 0
      if (!limited && busy == some true) || (limited && decide (s.now.toNat < p.due.toNat)) then s
      else
      let s := if s.runnerTakes p.runner then s.replayRead (chunkKey p.stream p.chunk) read else s
      s.replayRun i (s.sto.chunks.foldl (fun a q => a + q.2.data.length / 64 + 2) 8))

end Sys2Proof.Machine
end

