-- ==== Sys2Proof/Machine/DataPath.lean ====
section
/-! DEFINITION. What a change of device state and a change of configuration do to each block: stops, starts, and the switch to a
new pour at a natural boundary (R24-R29, R43-R46, R112, R188). -/

namespace Sys2Proof.Machine

/-! ### The blocks -/

/-- The blocks of channel c, upstream first. -/
def channelBlocks (c : Ch) : List BlockId :=
  [.conditioner c] ++ (List.finRange 8).map (fun k => .ddc c k) ++ [.main c, .side c .density, .side c .trigger]
    ++ (List.finRange 4).map (fun u => .trig (Fin.ofNat 16 (4 * c.val + u.val))) ++ [.density c]
    ++ (List.finRange 6).map (fun r => .reduction c r) ++ (List.finRange 2).map (fun g => .envelope c g) ++ [.capture c]

/-- The blocks that run in SAFEOP and OP only, but the ladles. -/
def pathBlocks : List BlockId :=
  (List.finRange 4).flatMap channelBlocks ++ [.cross] ++ (List.finRange 8).map (fun n => .tiInput n) ++ [.tiGate]
    ++ (List.finRange 4).map (fun u => .mu u)

/-- The blocks that run in PREOP too. The slot table switches by itself, at its table cycle. -/
def standingBlocks : List BlockId := [.runners, .store, .clocks, .health] ++ (List.finRange 32).map (fun t => .net t)

/-! ### Stops by a state change (R44, R45, R172, R367, R492) -/

/-- The density engine of channel c stops: the period in progress and the pass that runs are delivered. -/
def State.stopPeriod (s : State) (c : Nat) : State :=
  let d := s.density c
  if !d.on then s
  else
    let s := s.finishDrain c
    let s := if d.started then (s.closePeriod c (d.stop.getD s.now) 0 none).finishDrain c else s
    (s.modDensity c (fun _ => Dens.off)).showState (0x2601 + 16 * c) 3 0

/-- The conditioner of channel c stops: what is open closes, and a foreground calibration in progress is abandoned (R187). -/
def State.stopConditioner (s : State) (c : Nat) : State :=
  let s := s.leaveFg c
  let s := (s.closeRaw c (s.chan c).counter).abandonWindow c
  (s.modChan c (fun h => { h with on := false, est := none })).showState (0x2201 + 16 * c) 6 0

/-- A block stops at its natural boundary after the data path was left. -/
def State.stopBlock (s : State) (b : BlockId) : State :=
  match b with
  | .conditioner c => s.stopConditioner c
  | .ddc c k => (((s.closeDdc c k).modDdc c k (fun _ => Ddc.off)).showDdc c k).showGroup (0x2308 + 16 * c)
  | .main c =>
    (((s.modXf c (fun x => { x with
      cfgs := [], crossPours := [], pass2 := none, pass1Lost := false, bx := none, recent := [], lost := [], flagged := []
      sideFlagged := [] })).dropBursts (1 + c)).dropBursts (5 + c)).showMain c 0 0
  | .side c .density => s.modXf c (fun x => { x with densPours := [] })
  | .side c .trigger => s.modXf c (fun x => { x with trigPours := [] })
  | .trig u => (s.modTrig u (fun _ => Trig.idle)).showTrig u
  | .density c => s.stopPeriod c
  | .reduction c r =>
    let s := if (s.red c r).started then s.closeInterval c r (some (s.xf c).nextMain) else s
    s.modRed c r (fun _ => Red.idle)
  | .envelope c g => (s.closeEnv c g).modEnv c g (fun _ => Env.idle)
  | .capture c => s.abortCap c
  | .tiInput n => s.stopTiInput n
  | .tiGate => s.stopTiGate
  | .mu u => s.stopMu u
  | .ladle l => if (s.ladle l).run = .failed then s else s.haltLadle l
  | .cross | .runners | .store | .net _ | .slotTable | .clocks | .health => s

/-- Every block of the data path has stopped. -/
def State.stopAll (s : State) : State :=
  s.ladles.foldl (fun s q => s.stopBlock (.ladle (Fin.ofNat 256 q.1))) (pathBlocks.foldl State.stopBlock s)

/-- BLOCK_STATE_STOP: a block reaches its natural boundary after a state change that stops the data path (R44). -/
def execBlockStateStop (b : BlockId) (s : State) : Out State :=
  s.guarded (fun s => if s.ctl.dev.runs || s.ctl.starting then s else s.stopBlock b)

/-! ### Switches of the blocks that always run -/

/-- A recording stream is turned on, a new session of it beginning, or off, its open chunk cut (R541, R542). -/
def State.switchStream (s : State) (p : U32) (n : Nat) : State :=
  let on := s.cfg p (0x2C20 + n) 1 != 0
  let r := s.rstream n
  if on && r.st == 0 then
    s.modStream n (fun r => { r with st := 1, session := s.sto.session, firstOfSession := true })
  else if !on && r.st != 0 then
    let s := if r.series.isEmpty then s else s.cutChunk n r.series.length
    s.modStream n (fun r => { r with st := 0 })
  else s

/-- A new session: what a stream has open belongs to the one before (R542). -/
def State.newSession (s : State) : State :=
  let s := (upTo 32).foldl (fun s n =>
    let r := s.rstream n
    if r.st ≠ 0 ∧ !r.series.isEmpty then s.cutChunk n r.series.length else s) s
  let s := s.modSto (fun t => { t with session := (t.session + 1) % 2 ^ 32 })
  (upTo 32).foldl (fun s n => s.modStream n (fun r =>
    if r.st = 0 then r else { r with session := s.sto.session, firstOfSession := true })) s

/-- A monitor takes a pour: a change of its source or mode starts it inside again; any other change keeps its state (R596,
R597). -/
def State.switchWm (s : State) (old new : U32) (m : Nat) : State :=
  let i := 0x2E00 + m
  if s.cfg old i 1 = s.cfg new i 1 ∧ s.cfg old i 2 = s.cfg new i 2 then s
  else ((s.modWm m (fun w => { w with st := 0, hist := Wm.start.hist })).put (0x2E10 + m) 2 (if s.cfg new i 1 = 0 then 3 else 0)).bump (0x2E10 + m) 1

/-- A converter takes a mode: a change of it ends what runs, and mode 1 starts once the reference has settled (R604, R606). -/
def State.switchHk (s : State) (old new : U32) (k : Nat) : State :=
  let m := s.cfg new (0x2E40 + k) 1
  if s.cfg old (0x2E40 + k) 1 = m then s
  else s.modHk k (fun h => { h with
    running := m == 1 && s.hea.refState == 2, waiting := false, left := 0, first := true, mode := m, byMonitor := false
    due := s.firstResult k })

/-- The reference buffer follows the converters that are enabled (R606, R607). -/
def State.switchReferenceBuffer (s : State) (p : U32) : State :=
  let any := (upTo 12).any (fun k => s.cfg p (0x2E40 + k) 1 != 0)
  if s.lowPower then
    if s.hea.refState ≠ 0 ∧ (upTo 12).all (fun k => !(s.hk k).running && !(s.hk k).waiting) then s.setRef 0 else s
  else if any && s.hea.refState == 0 then s.setRef 1
  else if !any && s.hea.refState != 0 then s.setRef 0
  else s

/-- The converters take a pour. -/
def State.switchHealth (s : State) (old new : U32) : State :=
  let s := (upTo 16).foldl (fun s m => s.switchWm old new m) s
  (((upTo 12).foldl (fun s k => s.switchHk old new k) s).switchReferenceBuffer new).quenchUpdate

/-! ### The switch to a new pour (R24, R25, R27, R84) -/

/-- A synchronising reset of channel c is asked for by a commit after `old`, up to `new` (R218). -/
def State.resetAsked (s : State) (c : Nat) (old new : U32) : Bool :=
  ((s.ctl.pours.dropWhile (fun p => p.number != new)).takeWhile (fun p => p.number != old)).any (fun p =>
    ((lookup p.delta (keyOf 0x2380 1)).map (fun v => v.nat.testBit c)).getD false)

/-- The raw record of channel c in progress ends under the old configuration where its runner changes (R172). -/
def State.switchRaw (s : State) (c : Nat) (old new : U32) : State :=
  if s.cfg old (0x2200 + 16 * c) 8 = s.cfg new (0x2200 + 16 * c) 8 then s else s.closeRaw c (s.chan c).counter

/-- Inputs and units that a gate governs wait for its opening; while the gate is off they switch with the others (R477). -/
def State.waitsForGate (s : State) (b : BlockId) : Bool :=
  s.gateRuns && (match b with
    | .tiInput n => s.evtCfg n 4 == 1
    | .mu u => s.muCfg u 5 == 1
    | .tiGate => true
    | _ => false)

/-- Block b takes a pour at a boundary, but for the ports that follow it. -/
def State.switchOwn (s : State) (b : BlockId) (at' : T96) (new : U32) : State :=
  let old := s.pourOf b
  let sw := s.setPour b new
  match b with
  | .conditioner c => ((s.switchRaw c old new).switchOffset c old new).setPour b new
  | .ddc c k => sw.switchDdc c k (s.indexAt c at') old new (s.resetAsked c old new)
  | .main c => (sw.switchMain c (s.indexAt c at') new (decide (4 ≤ s.hea.level))).showReductions c
  | .side c d => sw.switchSide c d (s.indexAt c at') new
  | .trig u => sw.switchTrig u (s.indexAt (u.val / 4) at') new
  | .density c => sw.switchDensity c new
  | .reduction c _ => sw.showReductions c
  | .envelope c g => sw.switchEnv c g (s.indexAt c at') new
  | .capture c => if (s.cap c).armed then s else if s.cfg new (0x2700 + 16 * c) 1 = 0 then sw.showState (0x2701 + 16 * c) 2 0 else sw
  | .tiInput n => if s.waitsForGate b then s else s.switchTiInput n new
  | .tiGate => if s.waitsForGate b then s else s.switchTiGate new
  | .mu u => if s.waitsForGate b then s else s.switchMu u new
  | .ladle l => s.switchLadle l new
  | .store => (upTo 32).foldl (fun s n => s.switchStream new n) sw
  | .net t => s.netSwitch t new
  | .clocks => sw.switchClocks new
  | .health => sw.switchHealth old new
  | .cross => (upTo 4).foldl (fun s c => if (s.chan c).on then s.switchCross c (s.indexAt c at') new else s) sw
  | .runners => sw
  | .slotTable => s

/-- Block b takes a pour at a boundary, and with it the ladle ports that take it as their source (R424). -/
def State.switchBlock (s : State) (b : BlockId) (at' : T96) (new : U32) : State := ((s.switchOwn b at' new).noteWriter b).switchPortsOf b new

/-- A block that takes tokens of the data path as its input, and so waits for the first one that carries the new pour (R24). -/
def takesTokens : BlockId → Bool
  | .conditioner _ | .tiInput _ | .tiGate | .mu _ | .runners | .slotTable | .clocks | .health => false
  | .ddc _ _ | .main _ | .cross | .side _ _ | .trig _ | .density _ | .reduction _ _ | .envelope _ _ | .capture _ | .ladle _
  | .store | .net _ => true

/-- A block of the data path takes no pour of another nominal rate before SYNA has been retuned to it: meanwhile data go on under the
old pour (R109, R110). -/
def State.rateAllows (s : State) (b : BlockId) (p : U32) : Bool :=
  standingBlocks.contains b || b == .slotTable || s.cfg p 0x2100 1 == s.clk.rate

/-- The newest configuration that block b can take at a boundary whose first input token carries `inputPour` (R24, R84, R110). -/
def State.pourFor (s : State) (b : BlockId) (boundary : T96) (inputPour : U32) : Option U32 :=
  let old := s.pourOf b
  match s.ctl.pours.find? (fun p => decide (p.tc.toNat ≤ boundary.toNat) && s.rateAllows b p.number
      && (!takesTokens b || (inputPour != 0 && !older inputPour p.number))) with
  | none => none
  | some p => if old = 0 ∨ older old p.number = true then some p.number else none

/-- BLOCK_POUR_SWITCH: block b reaches a natural boundary, whose instant and whose first input token's pour are given. -/
def execBlockPourSwitch (b : BlockId) (boundary : T96) (inputPour : U32) (s : State) : Out State :=
  s.guarded (fun s =>
    if !s.ctl.running && !standingBlocks.contains b then s
    else
      match s.pourFor b boundary inputPour with
      | none => s
      | some p => s.switchBlock b boundary p)

/-! ### State requests (R36-R48) -/

/-- The device is in another state: its codes, the answer and MSI-X vector 3 (R41, R72). -/
def State.enter (s : State) (d : DevState) : State :=
  let changed := s.ctl.dev != d
  let s := State.put { s with ctl := { s.ctl with dev := d } } 0x2001 5 0
  (if changed then s.signal 3 else s).emit (.alStatus d.code 0)

/-- Whether a master may claim ownership (R37). -/
def State.mayClaim (s : State) (m : Master) : Bool :=
  match s.num 0x2001 3 with
  | 0 => true
  | 1 => m == .ecat
  | _ => m == .host

/-- A request that the state machine has no transition for (R41). -/
def State.invalidRequest (s : State) (m : Master) : State := s.refuseState m Config.alInvalidChange.toNat 0x08000022

/-- A request that only the state owner may make (R36, R38). In INIT ownership modes 1 and 2 name the owner; in mode 0 there is none
yet, and no master is shut out (R37). -/
def State.byOwner (s : State) (m : Master) (f : State → State) : State :=
  if (s.ctl.dev = .init ∧ s.mayClaim m = true) ∨ s.ctl.owner = some m then f s else s.refuseState m 0x8002 0x08000021

/-- An accepted request, as 0x2001.02 reads. -/
def State.asked (s : State) (d : DevState) : State := s.put 0x2001 2 d.code

/-- The rollback counter takes the security version of the image that first reaches PREOP (R94). -/
def State.advanceRollback (s : State) : State :=
  let slot := if s.flt.runningB then s.flt.slotB else s.flt.slotA
  let v := (slot.map Slot.security).getD 0
  { s with flt := { s.flt with rollback := max s.flt.rollback (min 64 v) } }

/-- Outstanding commits apply at once, in pour order, and keep their numbers (R44). -/
def State.applyOutstanding (s : State) : State :=
  let now := s.now
  let s := { s with ctl := { s.ctl with
    pours := s.ctl.pours.map (fun (p : Pour) => if now.toNat < p.tc.toNat then { p with tc := now } else p) } }
  s.advancePour

/-- Every runner that a producer of the data path writes. -/
def State.producerRunners (s : State) : List Nat :=
  (upTo 4).flatMap (fun c => s.liveRunners c ++ s.densityRunners (s.density c).pour c)
    ++ (upTo 8).flatMap (fun n => s.stampRunners (s.pourOf (evtBlock n)) n) ++ s.gateRunners (s.pourOf .tiGate)
    ++ (upTo 4).flatMap (fun u => s.muRunners (s.pourOf (muBlock u)) u)
    ++ s.ladles.flatMap (fun q => s.ladleRunners q.1)

/-- SAFEOP or OP is left: the stops in force become part of this one (R44, R45). -/
def State.leaveRun (s : State) : State :=
  let s := s.applyOutstanding.absorbStops s.producerRunners
  { s with ctl := { s.ctl with running := false, starting := false } }

/-- REQUEST_PREOP (R37, R42, R44, R94). A master that the ownership mode shuts out is refused for that before the dictionary is
looked at (DESIGN CHOICE, log entry 13). -/
def execRequestPreop (m : Master) (s : State) : Out State :=
  s.guarded (fun s =>
    match s.ctl.dev with
    | .init =>
      if !s.mayClaim m then s.refuseState m 0x8002 0x08000021
      else if s.num 0x2001 6 = 0 then s.refuseState m s.bootStatus 0x08000022
      else
        let s := State.advanceRollback { s with ctl := { s.ctl with owner := some m } }
        (s.asked .preop).enter .preop
    | .preop => s.byOwner m (fun s => s.asked .preop)
    | .boot => s.byOwner m (fun s => s.invalidRequest m)
    | .safeop | .op => s.byOwner m (fun s => (s.leaveRun.asked .preop).enter .preop))

/-- REQUEST_BOOT: from INIT, once the dictionary is ready, or where no slot is valid (R37, R41, R95). -/
def execRequestBoot (m : Master) (s : State) : Out State :=
  s.guarded (fun s =>
    match s.ctl.dev with
    | .init =>
      if !s.mayClaim m then s.refuseState m 0x8002 0x08000021
      else if s.num 0x2001 6 = 0 ∧ !(s.ctl.crystal && s.flt.bootSlot.isNone) then s.refuseState m s.bootStatus 0x08000022
      else State.enter (State.asked { s with ctl := { s.ctl with owner := some m } } .boot) .boot
    | .boot => s.byOwner m (fun s => s.asked .boot)
    | .preop | .safeop | .op => s.byOwner m (fun s => s.invalidRequest m))

/-- REQUEST_OP (R41). -/
def execRequestOp (m : Master) (s : State) : Out State :=
  s.guarded (fun s => s.byOwner m (fun s =>
    match s.ctl.dev with
    | .op => s.asked .op
    | .safeop => (s.asked .op).enter .op
    | .init | .preop | .boot => s.invalidRequest m))

/-- SM2_WATCHDOG_EXPIRY: OP is left for SAFEOP; the data path runs on (R47). -/
def execSm2WatchdogExpiry (s : State) : Out State :=
  s.guarded (fun s =>
    if s.ctl.dev = .op then
      let s := State.put { s with ctl := { s.ctl with dev := .safeop } } 0x2001 5 0x001B
      (s.signal 3).emit (.alStatus 4 0x001B)
    else s)

/-! ### INIT (R46) -/

/-- Whether entry to INIT returns an entry to its default: RW, RWP and RWC entries. -/
def defaultsAtInit (k : Nat) : Bool :=
  match Dict.row (k / 256) (k % 256) with
  | none => false
  | some r => r.acc == .rw || r.acc == .rwp || r.acc == .rwc

/-- Every runner destroyed, its transfer completed with status 0x0B; a replay loses its runner (R503). -/
def State.destroyRunners (s : State) : State :=
  let s := s.dma.runners.foldl (fun s q => (s.modXfer q.1 (fun x => { x with reads := [] })).endXfer q.1 0x0B) s
  let s := (upTo 8).foldl (fun s i => s.modReplay i (fun p => { p with st := if p.st = 1 ∨ p.st = 2 then 4 else p.st })) s
  { s with dma := { s.dma with runners := [], inFlight := 0 } }

/-- A submitted commit whose frozen set is discarded; its result is still written (R82, R83). -/
def Commit.emptied (c : Commit) : Commit := { c with delta := [], stamps := [] }

/-- Control at INIT: no configuration, no pending set, no owner (R46). -/
def Ctl.cleared (k : Ctl) : Ctl :=
  { k with
    pendingSet := [], stamps := [], pours := [], currentPour := 0, blockPour := [], applied := [], owner := none
    running := false, starting := false, validating := k.validating.map Commit.emptied
    waiting := k.waiting.map Commit.emptied }

/-- What follows from the default configuration at the clocks, health and the store. -/
def State.releaseStanding (s : State) : State :=
  let s := (upTo 4).foldl (fun s c => s.switchOffset c (s.pourOf (condBlock c)) 0) s
  let s := (s.switchClocks 0).switchHealth (s.pourOf .health) 0
  let s := (upTo 32).foldl (fun s n => s.switchStream 0 n) s
  (upTo 4).foldl (fun s n => s.put (0x2110 + n) 6 0) (s.modClk (fun k => { k with
    clkoutHeld := [], clkoutFirst := [], aligned := false, aligning := false }))

/-- Every RW, RWP and RWC entry at its default, and the default configuration current. -/
def State.returnDefaults (s : State) : State :=
  let old := s.ctl.currentPour
  let s := s.releaseStanding
  let s := { s with od := s.od.filter (fun e => !defaultsAtInit e.1), ctl := s.ctl.cleared }
  let s := if s.num 0x2100 4 = 2 ∨ s.num 0x2100 4 = 3 then s.lockSyna else s
  let s := s.selectSource
  if old = 0 then s else s.showPours

/-- INIT is entered from a state other than BOOT (R46). -/
def State.toInit (s : State) : State :=
  let s := s.leaveRun.stopAll.destroyRunners.returnDefaults
  let s := (s.asked .init).enter .init
  if s.num 0x2102 3 = 2 ∧ !s.clk.refin then s.switchReference true else s

/-- REQUEST_INIT; from BOOT it restarts the device (R638). -/
def execRequestInit (m : Master) (s : State) : Out State :=
  s.guarded (fun s => s.byOwner m (fun s =>
    match s.ctl.dev with
    | .init => s.asked .init
    | .boot => s.restart 0x03 false false
    | .preop | .safeop | .op => s.toInit))

/-! ### SAFEOP (R43, R100, R112, R188) -/

/-- The RWP values written so far. -/
def State.writtenRwp (s : State) : Tab Val :=
  s.od.filter (fun e => ((Dict.row (e.1 / 256) (e.1 % 256)).map (fun r => r.acc == .rwp)).getD false)

/-- The setting of REFIN takes effect: a signal that does not satisfy it is lost; with "unused" it is still reported (R100). -/
def State.takeRefinSetting (s : State) : State :=
  let setting := s.app 0x2102 1
  let seen := s.num 0x2102 2
  if s.num 0x2102 3 = 2 ∧ !refinAccepts setting seen then
    let s := s.loseRefin
    if setting = 4 then s.put 0x2102 2 seen else s
  else s

/-- The enabled channels that are calibrated before the data path starts (R188). -/
def State.autoForeground (s : State) : State :=
  let mode := s.app 0x2F80 2
  (upTo 4).foldl (fun s c =>
    if s.enabled c && (mode == 2 || (mode == 1 && ((s.chan c).setOf (s.chanRate c)).isNone)) then s.beginFg c true else s) s

/-- The implicit commit of PREOP→SAFEOP is accepted at once, and the transition begins (R43, R80). -/
def State.acceptImplicit (s : State) (m : Master) : State :=
  let now := s.now
  let delta := s.ctl.pendingSet
  State.accept { s with ctl := { s.ctl with pendingSet := [], stamps := [], starting := true } } delta now now m.requester.code

/-- What the transition does before the data path starts: rate, reference, reference buffer, calibrations (R100, R112, R188). -/
def State.prepareRun (s : State) : State :=
  let rate := s.cur 0x2100 1
  let s := if rate = s.clk.rate then s else s.takeRate rate s.ctl.currentPour
  (s.takeRefinSetting.selectSource.switchReferenceBuffer (s.pourOf .health)).autoForeground

/-- REQUEST_SAFEOP: from PREOP the implicit commit, whose validation failure leaves the device in PREOP; from OP a change of state
only. A repeated request joins the transition in progress. -/
def execRequestSafeop (m : Master) (s : State) : Out State :=
  s.guarded (fun s => s.byOwner m (fun s =>
    match s.ctl.dev with
    | .safeop => s.asked .safeop
    | .op => (s.asked .safeop).enter .safeop
    | .init | .boot => s.invalidRequest m
    | .preop =>
      let s := s.asked .safeop
      if s.ctl.starting then s
      else
        let s := s.stopAll
        let t := { s with ctl := { s.ctl with applied := s.writtenRwp } }
        match t.validate s.ctl.pendingSet with
        | some (entry, reason) =>
          ((s.postRefusal 6 entry reason m.requester.code).put 0x2001 5 0x8003).emit (.alStatus 2 0x8003)
        | none => (t.acceptImplicit m).prepareRun))

/-- Channel c as the data path starts: enabled or off, with its calibration kept, placed and delivering (R145, R190). -/
def State.startChannel (s : State) (p : U32) (c : Nat) : State :=
  let s := s.switchOffset c (s.pourOf (condBlock c)) p
  let s := (channelBlocks (Fin.ofNat 4 c)).foldl (fun s b => s.setPour b p) s
  let s := s.modChan c (fun h => { h with
    on := s.enabled c, gated := false, discard := false, fg := none, isolated := false, tone := none, frames := [], tail := [], prior := (0, false), overSpans := [], shadow := none, stepIx := [], anchor := none
    est := none, rawStart := none, rawCount := s.cfg p (0x2200 + 16 * c) 9 })
  let s := (upTo 4).foldl (fun s u => s.modTrig (4 * c + u) (fun _ => { Trig.idle with pour := p })) s
  let s := (upTo 2).foldl (fun s g => s.modEnv c g (fun _ => { Env.idle with pour := p })) s
  let s := (upTo 6).foldl (fun s r => s.modRed c r (fun _ => { Red.idle with pour := p })) s
  let s := (s.modCap c (fun q => { Cap.off with shed := q.shed })).showState (0x2701 + 16 * c) 2 0
  if !(s.chan c).on then s.showState (0x2201 + 16 * c) 6 0
  else
    let s := (((s.activateSet c).switchDensity c p).showReductions c).place c
    if (s.chan c).delivers then s.restartChannel c else s.showState (0x2201 + 16 * c) 6 3

/-- The time-interval unit starts. -/
def State.startTiu (s : State) (p : U32) : State :=
  let s := (upTo 8).foldl (fun s n => (s.setPour (evtBlock n) p).startTiInput n) s
  let s := (s.setPour .tiGate p).startTiGate
  (upTo 4).foldl (fun s u => (s.setPour (muBlock u) p).startMu u) s

/-- DATA_PATH_START: every block starts under the current pour, once the calibrations and clock events of the transition are over
(R43, R188). -/
def execDataPathStart (s : State) : Out State :=
  s.guarded (fun s =>
    if !s.ctl.starting || (upTo 4).any (fun c => (s.chan c).fg.isSome) || s.clk.event.isSome || s.clk.retune.isSome then s
    else
      let p := s.ctl.currentPour
      let s := { s with ctl := { s.ctl with starting := false, running := true }, tapSeq := [] }
      let s := s.newSession
      let s := standingBlocks.foldl (fun s b => s.switchBlock b s.now p) s
      let s := s.setPour .cross p
      let s := (upTo 4).foldl (fun s c => s.startChannel p c) s
      let s := s.startTiu p
      let s := pathBlocks.foldl State.noteWriter s
      let s := (upTo 256).foldl (fun s l => (s.switchPorts l p).applyLadle l p) s
      s.enter .safeop)

end Sys2Proof.Machine
end

