-- ==== Sys2Proof/Machine/Health.lean ====
section
/-! DEFINITION. Commands of the monitors' latches, the alert and the housekeeping converters (R598-R609). -/

namespace Sys2Proof.Machine

/-- MONITOR_LATCH_CLEAR: a write of 1 to 0x2E00 + m.0B clears the latch (R598). -/
def execMonitorLatchClear (r : Requester) (m : Fin 16) (s : State) : Out State :=
  s.guarded (fun s =>
    if (s.writeBar r).isSome then s.refuse r ((s.writeBar r).getD 0) (keyOf (0x2E00 + m.val) 0x0B)
    else ((s.modWm m (fun w => { w with latch := 0 })).put (0x2E10 + m.val) 3 0).bump (0x2E10 + m.val) 1)

/-- ALERT_ACKNOWLEDGE: a write of 1 to 0x2E20.04 acknowledges every journal entry written so far; the error register is
cleared with them (R601). -/
def execAlertAcknowledge (r : Requester) (s : State) : Out State :=
  s.guarded (fun s =>
    if (s.writeBar r).isSome then s.refuse r ((s.writeBar r).getD 0) (keyOf 0x2E20 4)
    else State.put { s with flt := { s.flt with acked := s.flt.written } } 0x1001 0 0)

/-- HK_GROUP_START: the mode 2 and mode 3 converters of the named groups start at one modulator edge (R604, R605). -/
def execHkGroupStart (r : Requester) (mask : Byte) (s : State) : Out State :=
  s.guarded (fun s =>
    if (s.writeBar r).isSome then s.refuse r ((s.writeBar r).getD 0) (keyOf 0x2E30 2)
    else (upTo 4).foldl (fun s g => if mask.getLsbD g then s.startGroup g false else s) s)

/-- HK_REFERENCE_SETTLED: 200 µs after the buffer powered up, the held starts proceed and continuous converters begin (R606). -/
def execHkReferenceSettled (s : State) : Out State :=
  s.guarded (fun s =>
    if s.hea.refState = 1 && !s.lowPower && decide (s.hea.refAt + 320000 ≤ s.ctl.crystalCount) then
      let s := (s.setRef 2).releaseHk (upTo 12)
      (upTo 12).foldl (fun s k => if s.hcfg (0x2E40 + k) 1 = 1 then
        s.modHk k (fun h => { h with running := true, first := true, mode := 1, due := s.firstResult k }) else s) s
    else s)

/-- HK_LOWPOWER_WAKE: 50 µs after a start the filters of the group start (R607). -/
def execHkLowpowerWake (group : Fin 4) (s : State) : Out State :=
  s.guarded (fun s =>
    if s.lowPower then
      let ks := (upTo 12).filter (fun k => s.hcfg (0x2E40 + k) 4 == group.val && (s.hk k).waiting
        && decide ((s.hk k).due ≤ s.ctl.crystalCount))
      if ks.isEmpty then s else (s.releaseHk ks).setRef 2
    else s)

/-- HK_RESULT: a running converter's result, once it is due, is clamped to its source's range and written into its buffer entry (R602-R609). -/
def execHkResult (k : Fin 12) (v : Int) (s : State) : Out State :=
  s.guarded (fun s =>
    let ix := 0x2E40 + k.val
    let h := s.hk k
    if !h.running || decide (s.ctl.crystalCount < h.due) then s
    else
      let (lo, hi) := sourceRange (s.hcfg ix 2)
      let r := clampInt (lo * 1024) (hi * 1024) v
      let clamped := clamps (lo * 1024) (hi * 1024) v
      let flags := k.val * 16 + (if clamped then 8 else 0) + (if h.byMonitor then 4 else 0) + (if s.lowPower then 2 else 0)
        + (if h.first then 1 else 0)
      let size := max 16 (s.hcfg ix 7)
      let a := s.hcfg ix 6 + (16 * h.written) % size
      let entry := leBytes 12 s.now.toNat ++ leBytes 3 (bitsOf 24 r) ++ leBytes 1 flags
      let s := (s.store a entry).queueBursts 0 0 a 16 true
      let left := h.left - 1
      let s := s.modHk k (fun h => { h with
        written := h.written + 1, first := false, left := left, due := h.due + s.hkPeriod k
        running := h.mode == 1 || decide (0 < left) })
      let ox := 0x2E50 + k.val
      let s := ((((s.putInt ox 2 r).put ox 3 s.now.toNat).put ox 5 (h.written + 1)).bump ox 1)
      if s.lowPower && (upTo 12).all (fun j => !(s.hk j).running && !(s.hk j).waiting) then s.setRef 0 else s)

end Sys2Proof.Machine
end

