-- ==== Sys2Proof/Machine/Runner.lean ====
section
/-! DEFINITION. Commands of runners and DMA engines (chapter 13, and BAR2 of chapter 15). -/

namespace Sys2Proof.Machine

/-- RUNNER_CREATE_RECORD: a runner entry written to 0x2B02.00 (R500, R501). -/
def execRunnerCreateRecord (r : Requester) (image : List Byte) (s : State) : Out State :=
  s.guarded (fun s => s.runnerEntry r image)

/-- RUNNER_CREATE_DESCRIPTOR: a runner entry written to 0x2B02.00 (R500, R501). -/
def execRunnerCreateDescriptor (r : Requester) (image : List Byte) (s : State) : Out State :=
  s.guarded (fun s => s.runnerEntry r image)

/-- RUNNER_DESTROY: a runner entry of kind 0 written to 0x2B02.00 (R500, R501). -/
def execRunnerDestroy (r : Requester) (image : List Byte) (s : State) : Out State :=
  s.guarded (fun s => s.runnerEntry r image)

/-- A control action on a runner that exists, outside INIT and BOOT (R502, R41). -/
def State.runnerControl (s : State) (rq : Requester) (n : RunnerIx) (f : State → State) : State :=
  if (s.writeBar rq).isSome then s.refuse rq ((s.writeBar rq).getD 0) (keyOf 0x2B06 1)
  else if (s.runner n.toNat).kind = 0 then s.refuse rq 0x06090030 (keyOf 0x2B06 1)
  else f s

/-- RUNNER_ENABLE: the runner becomes active; a record whose forwarding was cut off starts again (R502, R526, R529). -/
def execRunnerEnable (r : Requester) (runner : RunnerIx) (s : State) : Out State :=
  s.guarded (fun s => s.runnerControl r runner (fun s =>
    s.modRunner runner.toNat (fun q => { q with state := .active, fwdDone := 0, fwdParked := none })))

/-- RUNNER_STOP: the engine finishes the record or descriptor in progress, and the runner is then stopped (R502). -/
def execRunnerStop (r : Requester) (runner : RunnerIx) (s : State) : Out State :=
  s.guarded (fun s => s.runnerControl r runner (fun s =>
    s.modRunner runner.toNat (fun q =>
      { q with state := if q.xfer.isSome || q.fwdParked.isSome then .stopping else .stopped })))

/-- RUNNER_ABORT: a transfer completes with status 0x02; a record in progress is not published; the vector is signalled
(R529). Read requests that are out end first. -/
def execRunnerAbort (r : Requester) (runner : RunnerIx) (s : State) : Out State :=
  s.guarded (fun s => s.runnerControl r runner (fun s =>
    let n := runner.toNat
    let s := (s.endXfer n 0x02).modRunner n (fun q => { q with
      state := if q.xfer.isSome then .stopping else .stopped, fwdDone := 0, fwdParked := none })
    if (s.runner n).xfer.isSome then s else s.signalRunner n))

/-- RECORD_WRITE: a producer writes a record into its runner, or drops it (R17-R23). The runner gives the sequence number. -/
def execRecordWrite (runner : RunnerIx) (rec : Record) (spanEnd : T96) (s : State) : Out State :=
  s.guarded (fun s => s.publish runner.toNat
    { typ := rec.typ.toNat, chan := rec.channel.toNat, source := rec.source.toNat, prog := rec.progFlags.toNat,
      time := rec.time, stop := spanEnd, fields := rec.fields, payload := rec.payload,
      mark := { flags := rec.flags.toNat &&& 0x1CF, pour := some rec.pour, mixed := rec.flags.getLsbD 4 },
      cfgPour := rec.pour })

/-- RECORD_FORWARDED: the engine passes the front record to its destination, or waits for space or for a page; a full host ring
stalls the runner (R510, R511, R517, R524). -/
def execRecordForwarded (runner : RunnerIx) (bad : Bool) (s : State) : Out State :=
  s.guarded (fun s =>
    let n := runner.toNat
    let r := s.runner n
    let len := (s.frontRecord n).length
    if r.kind = 1 ∧ s.ready n ∧ r.w ≠ r.rd ∧ r.dest ≠ 0 then
      if s.destinationTakes r len then
        if !s.engineTakes n then s
        else
        let ranges := if r.dest = 1 then
          (r.hostBase + (r.wh.toNat % r.hostSlots) * r.slotBytes, ceilTo 64 len)
            :: (if r.wbAddr = 0 then [] else [(r.wbAddr, 16)]) else []
        match s.missingPage ranges with
        | some p => s.requestPage p
        | none => (s.engineServed n).forward n bad
      else if r.dest = 1 then s.modRunner n (fun r => { r with state := if r.state = .stopping then .stopped else .stalled })
      else s
    else s)

/-- A BAR2 write that is discarded (R587): bit 31 and the offset stand for the entry. -/
def State.bar2Error (s : State) (code offset : Nat) : State :=
  s.accessError .host code (2 ^ 31 + offset % 2 ^ 22)

/-- HOST_RING_RELEASE: a host write of Rd_h frees host slots (R511, R587). -/
def execHostRingRelease (runner : RunnerIx) (v : U32) (s : State) : Out State :=
  s.guarded (fun s =>
    let n := runner.toNat
    let r := s.runner n
    if r.kind ≠ 1 ∨ r.dest ≠ 1 then s.bar2Error 0x08000020 (n * 64 + 8)
    else if r.hostSlots < (r.wh - v).toNat then s.bar2Error 0x06090030 (n * 64 + 8)
    else s.modRunner n (fun r => { r with
      rdh := v
      state := if r.state = .stalled ∧ (r.wh - v).toNat < r.hostSlots then .active else r.state }))

/-- DESCRIPTOR_DOORBELL: a host write of the descriptor write index submits descriptors (R514, R587). -/
def execDescriptorDoorbell (runner : RunnerIx) (v : U32) (s : State) : Out State :=
  s.guarded (fun s =>
    let n := runner.toNat
    let r := s.runner n
    if r.kind ≠ 2 then s.bar2Error 0x08000020 (n * 64)
    else if r.slots < (v - r.rd).toNat then s.bar2Error 0x06090030 (n * 64)
    else s.modRunner n (fun r => { r with w := v }))

/-- DESCRIPTOR_FETCH: the engine reads the next descriptor once and checks it, with its gather list or fill pattern (R514, R516,
R519-R522). What stands in host memory is in `hostBytes`: the descriptor where the ring is there and it is read now, then the list or
pattern. -/
def execDescriptorFetch (runner : RunnerIx) (hostBytes : List Byte) (s : State) : Out State :=
  s.guarded (fun s =>
    let n := runner.toNat
    let r := s.runner n
    if r.kind = 2 ∧ s.engineTakes n then
      match r.xfer with
      | some x => match x.unread with
        | some d => (s.engineServed n).takeDescriptor n d hostBytes
        | none => s
      | none =>
        let a := r.slotAddr r.rd
        match (if isHost r.base then s.missingPage [(a, 64)] else none) with
        | some p => s.requestPage p
        | none =>
          let d := if isHost r.base then padTo 64 hostBytes else s.load a 64
          let rest := if isHost r.base then hostBytes.drop 64 else hostBytes
          ((s.engineServed n).xferBurst (s.xferClass (field d 8 8) (field d 16 8)) a 64 false).takeDescriptor n d rest
    else s)

/-- One record of a ring-to-ring descriptor: it waits for a source record and a free destination slot, and moves in the slots of the
two runners' groups (R512, R513). -/
def State.ringRecord (s : State) (n : Nat) (x : Xfer) : State :=
  let a := s.runner x.src
  let b := s.runner x.dst
  if a.w = a.rd ∨ b.full then s
  else
    let bytes := (s.frontRecord x.src).take b.slotBytes
    let off := x.written.length
    let s := s.queueBursts (0x11 + a.group) 1 (a.slotAddr a.rd) bytes.length false
    let s := (s.writeSlot x.dst bytes).freeSlot x.src
    s.modXfer n (fun y => { y with done := y.done + 1, written := keepBytes y.written off bytes })

/-- The engine after a burst: Select, or Writeback at the end of the transfer (R519). -/
def State.afterBurst (s : State) (n : Nat) : State :=
  s.engineTo (s.runner n).engineNow (if ((s.runner n).xfer.map (fun x => x.done == x.total)).getD true then 5 else 1)

/-- DMA_BURST: the engine translates and issues the next burst of the runner, where that is the one it takes (R517, R518, R522, R524). A
residue error is a fault event of the engine and the burst is reissued (R532). `failed` lists the beats of a read of HBM that
failed. -/
def execDmaBurst (runner : RunnerIx) (failed : List (Fin 32)) (residueError : Bool) (s : State) : Out State :=
  s.guarded (fun s =>
    let n := runner.toNat
    let r := s.runner n
    match r.xfer with
    | none => s
    | some x =>
      if r.kind ≠ 2 || x.unread.isSome || !s.engineTakes n then s
      else if residueError then s.engineFault r.engineNow
      else if x.opcode = 4 then ((s.engineServed n).ringRecord n x).afterBurst n
      else
        let (off, src, dst, len) := x.burst
        let ranges := (if isHost src && x.opcode != 2 then [(src, len)] else []) ++ (if isHost dst then [(dst, len)] else [])
        if isHost src && x.opcode != 2 && !s.tagFree then s
        else
        match s.missingPage ranges with
        | some p => ((s.engineTo r.engineNow 4).requestPage p).modXfer n (fun y => { y with waitingAts := some p })
        | none =>
          let s := (s.engineServed n).modXfer n (fun y => { y with done := y.done + len })
          let s :=
            if x.opcode = 2 then s.deliver n x off dst (patternBytes x.pattern off len)
            else if isHost src then
              ((s.emit (.hostRead (BitVec.ofNat 64 src) len)).inFlight true).modXfer n
                (fun y => { y with reads := y.reads ++ [(src, off, len)] })
            else (s.xferBurst (s.xferClass src dst) src len false).deliverBeats n x src off dst (s.load src len)
              (failed.map Fin.val)
          s.afterBurst n)

/-- A read request has completed: pending invalidations that no outstanding read depends on complete (R524). -/
def State.settleInvalidations (s : State) : State :=
  let busy (p : Nat) : Bool := s.dma.runners.any (fun (_, r) =>
    (r.xfer.map (fun x => x.reads.any (fun (a, _, m) => decide (hostPage a ≤ p) && decide (p ≤ hostPage (a + m - 1))))).getD false)
  let done := s.dma.invalidating.filter (fun p => !busy p)
  let s := { s with dma := { s.dma with invalidating := s.dma.invalidating.filter busy } }
  done.foldl (fun s p => s.emit (.invalidationDone (BitVec.ofNat 64 (p * 4096)))) s

/-- The beats of a read completion that failed: all where it brings no data, else those listed (R530). -/
def failedBeats (status : BeatStatus) (failed : List (Fin 32)) : List Nat :=
  match status with
  | .ok => []
  | .ur | .ca => List.range 32
  | .poisoned | .uncorrectable => failed.map Fin.val

/-- DMA_READ_COMPLETION: the oldest read's data go to their destination, but for its failed beats, the first of which is recorded
(R530). -/
def execDmaReadCompletion (runner : RunnerIx) (data : List Byte) (status : BeatStatus) (failed : List (Fin 32)) (s : State) :
    Out State :=
  s.guarded (fun s =>
    let n := runner.toNat
    match (s.runner n).xfer with
    | none => s
    | some x =>
      match x.reads with
      | [] => s
      | (a, off, len) :: rest =>
        let s := (s.inFlight false).modXfer n (fun y => { y with reads := rest })
        let s := s.deliverBeats n x a off (x.dst + off) (padTo len data) (failedBeats status failed)
        let s := if status = .ur ∨ status = .ca then { s with net := { s.net with urca := s.net.urca + 1 } } else s
        s.settleInvalidations)

/-- COMPLETION_TIMEOUT: the oldest read's beat fails (R530, 0x2D80.06). -/
def execCompletionTimeout (runner : RunnerIx) (s : State) : Out State :=
  s.guarded (fun s =>
    let n := runner.toNat
    match (s.runner n).xfer with
    | none => s
    | some x =>
      match x.reads with
      | [] => s
      | (a, _, _) :: rest =>
        let s := (s.inFlight false).modXfer n (fun y => { y.fail a with reads := rest })
        ({ s with net := { s.net with timeouts := s.net.timeouts + 1 } } : State).settleInvalidations)

/-- DESCRIPTOR_COMPLETE: once a transfer has ended, its status part, the indices and the write-back are written and the
vector is signalled under moderation (R514, R528). -/
def execDescriptorComplete (runner : RunnerIx) (s : State) : Out State :=
  s.guarded (fun s =>
    let n := runner.toNat
    match (s.runner n).xfer with
    | none => s
    | some x =>
      match x.outcome with
      | none => s
      | some (code, residue, addr) =>
        let r := s.runner n
        if x.status.isNone ∧ (x.parked.isSome ∨ x.waitingAts.isSome) then s
        else
          match s.missingPage ((if isHost r.base then [(r.slotAddr r.rd + 32, 32)] else [])
              ++ (if r.wbAddr = 0 then [] else [(r.wbAddr, 16)])) with
          | some p => (s.requestPage p).modXfer n (fun y => { y with waitingAts := some p })
          | none => s.writeStatus n x code residue addr)

/-- A page that is not present parks runner n: its transfer asked for it, or a record or a descriptor of it waits (R525). -/
def Runner.mayPark (r : Runner) (p : Nat) : Bool :=
  match r.xfer with
  | some x => x.waitingAts == some p
  | Option.none => r.kind != 0 && r.w != r.rd && r.fwdParked.isNone

/-- ATS_TRANSLATION_COMPLETION: a granted page enters the cache; a page not present parks the transfer with a page request
(R524, R525). -/
def execAtsTranslationCompletion (runner : RunnerIx) (page : U64) (answer : AtsAnswer) (s : State) : Out State :=
  s.guarded (fun s =>
    let n := runner.toNat
    let p := hostPage page.toNat
    match answer with
    | .granted =>
      let s := { s with dma := { s.dma with atc := (p :: s.dma.atc.filter (· != p)).take 4096 } }
      s.modXfer n (fun y => { y with waitingAts := if y.waitingAts = some p then none else y.waitingAts })
    | .notPresent =>
      let r := s.runner n
      if !r.mayPark p then s
      else
        let s := ((s.pageRequest p).engineTo r.engineNow 1).modRunner n (fun q => { q with parkedAt := some s.now })
        if r.xfer.isNone then s.modRunner n (fun r => { r with
          fwdParked := some p, fwdDone := 0, state := if r.state = .stopping then .stopping else .waitingPage })
        else (s.modXfer n (fun y => { y with waitingAts := none, parked := some p, pageReqs := true })).modRunner n
          (fun r => { r with state := if r.state = .stopping then .stopping else .waitingPage }))

/-- ATS_INVALIDATION: the entry goes at once; the completion waits for the reads issued under it (R524). -/
def execAtsInvalidation (page : U64) (s : State) : Out State :=
  s.guarded (fun s =>
    let p := hostPage page.toNat
    let s := { s with
      dma := { s.dma with atc := s.dma.atc.filter (· != p), invalidating := s.dma.invalidating ++ [p] }
      net := { s.net with invalidations := s.net.invalidations + 1 } }
    s.settleInvalidations)

/-- Runner n waits for a page: a record or a transfer of it is parked, and has not been ended (R525). -/
def Runner.waitsPage (r : Runner) : Bool :=
  r.fwdParked.isSome || (r.xfer.map (fun x => x.parked.isSome && x.status.isNone)).getD false

/-- A parked transfer or record of runner n fails with a code: a record, or a descriptor whose own page is not there, stops the
runner (R526). -/
def State.pageFailed (s : State) (n code : Nat) : State :=
  let r := s.runner n
  if r.fwdParked.isSome then
    (s.modRunner n (fun r => { r with fwdParked := none, fwdDone := 0, state := .stopped, lastStatus := code })).report
      { severity := 2, subsys := 15, kind := 9, detail := code, code := 0xFF00
        runners := [let k := if r.kind = 1 then field (s.frontRecord n) 8 8 else r.rd.toNat; (n, k, k)] }
  else s.endXfer n code

/-- PRI_PAGE_RESPONSE: success makes the parked transfer ready under a new translation; any other answer completes it with
0x08 (R525, R526). -/
def execPriPageResponse (runner : RunnerIx) (answer : PageResponse) (s : State) : Out State :=
  s.guarded (fun s =>
    let n := runner.toNat
    if !(s.runner n).waitsPage then s
    else
      match answer with
      | .success =>
        (s.modXfer n (fun y => { y with parked := none })).modRunner n
          (fun r => { r with fwdParked := none, state := if r.state = .stopping then .stopping else .active })
      | _ =>
        State.pageFailed { s with dma := { s.dma with pageFails := s.dma.pageFails + 1 } } n 0x08)

/-- The page response that runner n waits for has not come within 0x2B00.01 (R526). -/
def State.pageOverdue (s : State) (n : Nat) : Bool :=
  (s.runner n).waitsPage && ((s.runner n).parkedAt.map (fun t => s.elapsed t (s.num 0x2B00 1 * 1000000))).getD false

/-- PAGE_REQUEST_TIMEOUT: a page response that has not come within 0x2B00.01 completes the descriptor with 0x09 (R526). -/
def execPageRequestTimeout (runner : RunnerIx) (s : State) : Out State :=
  s.guarded (fun s =>
    let n := runner.toNat
    if !s.pageOverdue n then s
    else State.pageFailed { s with dma := { s.dma with pageTimeouts := s.dma.pageTimeouts + 1 } } n 0x09)

/-- The moderation time of runner n has passed since its first completion not yet signalled (R528). -/
def State.moderationDue (s : State) (n : Nat) : Bool :=
  let r := s.runner n
  (r.firstUnsignalled.map (fun t => s.elapsed t r.modTime)).getD false

/-- MSIX_MODERATION_TIMER: completions not yet signalled are signalled once the moderation time has passed (R528). -/
def execMsixModerationTimer (runner : RunnerIx) (s : State) : Out State :=
  s.guarded (fun s => if s.moderationDue runner.toNat then s.signalRunner runner.toNat else s)

/-- MSIX_UNMASK: a pending message is sent (R588). -/
def execMsixUnmask (vector : BitVec 11) (s : State) : Out State :=
  s.guarded (fun s =>
    let v := vector.toNat
    let was := Tab.get (fun _ => false) s.dma.msixPending v
    let s := { s with dma := { s.dma with
      unmasked := Tab.set (fun _ => false) s.dma.unmasked v true
      msixPending := Tab.set (fun _ => false) s.dma.msixPending v false } }
    if was then s.emit (.msix v) else s)

/-- BAR2_INVALID_ACCESS: a write to a read-only field is refused with 0x0601_0002; any other unsupported access as R56 says;
both are recorded with bit 31 and the BAR2 offset (R587). -/
def execBar2InvalidAccess (write : Bool) (offset size : Nat) (_v : U64) (s : State) : Out State :=
  s.guarded (fun s =>
    let aligned := (size == 4 || size == 8) && decide (offset % size = 0)
    let s := if write then s else s.emit (.answer 1 (.bits (BitVec.ofNat 96 (2 ^ (8 * min size 12) - 1))))
    s.bar2Error (if write && aligned then 0x06010002 else 0x06010000) offset)

end Sys2Proof.Machine
end

