-- ==== Sys2Proof/Machine/Tiu.lean ====
section
/-! DEFINITION. Commands of the time-interval unit (chapter 12). -/

namespace Sys2Proof.Machine

/-- The status bits of a stamp of input n (R472, R473, R468): uncalibrated while the factory table is in use, time quality in
HOLDOVER, and stale once an interpolator has retired and Tj has moved. -/
def State.stampFlags (s : State) (n : Nat) : Nat :=
  let p := s.interp n
  let own := if p.active = 0 then p.i0.isSome else p.i1.isSome
  (if own then 0 else 4) + (if s.timeState = 3 then 8 else 0)
    + (if s.stale n then 16 else 0)

/-- A stamp enters its record and is told to the units that take it (R478, R480, R484). The first one after a discard closes the
gap (R481). -/
def State.stampEdge (s : State) (n : Nat) (raw : Int) (t : T96) (falling err : Bool) (count : Nat) : State :=
  let s := match (s.evt n).overflow with
    | none => s
    | some t0 =>
      ((s.gapRunners (s.stampRunners (s.pourOf (evtBlock n)) n) t0 t 3 false).tellLost n ((s.evt n).lastStamp.getD raw)).modEvt n
        (fun e => { e with overflow := none })
  let p : Stamp :=
    { raw := raw, t := t, falling := falling, interp := (s.interp n).active, err := err, count := count, status := s.stampFlags n
      pour := s.pourOf (evtBlock n), steps := s.clk.steps }
  let s := (s.modEvt n (fun e => { e with record := p :: e.record, lastStamp := some raw })).tellStamp n p
  if s.evtCfg n 6 ≤ (s.evt n).record.length then s.closeStamps n false else s

/-- EVENT_EDGE: an edge of the input's polarity is counted; one that the prescaler presents is stamped, unless the time is not
valid, the window is closed, the dead time runs, or both interpolators are retired (R465-R469, R473, R475, R476). -/
def execEventEdge (n : Fin 8) (falling : Bool) (coarse : U64) (fine : Fin 384) (s : State) : Out State :=
  s.guarded (fun s =>
    let e := s.evt n
    let (raw, err) := s.rawTime n coarse.toNat fine.val (s.bcfgInt (evtBlock n) (0x2A00 + 16 * n.val) 5)
    let t := s.rawT96 raw
    if !e.on || s.tiu.gated || falling != (s.evtCfg n 2 == 1) || (s.interp n).retired.length == 2 then s
    else if s.evtCfg n 4 == 1 && !s.inWindow raw t then s
    else
      let s := s.modEvt n (fun e => { e with count := e.count + 1 })
      if s.timeState < 2 then s.modEvt n (fun e => { e with ignored := e.ignored + 1 })
      else if e.count % s.evtCfg n 3 != 0 then s
      else if (e.lastStamp.map (fun l => decide (l ≤ raw) && decide (raw < l + deadTime))).getD false then
        s.modEvt n (fun e => { e with misses := e.misses + 1, missAll := e.missAll + 1 })
      else
        let s := s.stampEdge n raw t falling err e.count
        if err then s.interpFault n (s.interp n).active else s)

/-- GATE_EDGE: opens or closes a window of modes 1 and 2; 0x2A80.02 says which level is active (R474). A level that is active at enable is no edge and opens none
(R648). -/
def execGateEdge (rising : Bool) (coarse : U64) (fine : Fin 384) (s : State) : Out State :=
  s.guarded (fun s =>
    let mode := s.gateCfg 1
    let active := rising != (s.gateCfg 2 == 1)
    let (raw, err) := s.rawTime 8 coarse.toNat fine.val (s.bcfgInt .tiGate 0x2A80 8)
    let t := s.rawT96 raw
    if !s.tiu.gateOn || s.tiu.gated || (mode != 1 && mode != 2) || (s.interp 8).retired.length == 2 then s
    else
      let s := if err then s.interpFault 8 (s.interp 8).active else s
      if !active then
        if mode = 1 then s.closeGate raw t else s
      else
        let s := if mode = 2 ∧ s.tiu.gateOpen ∧ s.tiu.closeRaw ≤ raw then s.closeGate s.tiu.closeRaw (s.rawT96 s.tiu.closeRaw) else s
        if s.tiu.gateOpen then s.modTiu (fun q => { q with ignored := q.ignored + 1 })
        else s.openGate raw t)

/-- GATE_WINDOW_TIMER: the schedule of mode 3 opens its next window, or the length of a window of modes 2 and 3 has run (R474). -/
def execGateWindowTimer (opening : Bool) (s : State) : Out State :=
  s.guarded (fun s =>
    let mode := s.gateCfg 1
    let q := s.tiu
    if !q.gateOn || q.gated then s
    else if !opening then
      if mode = 2 then s.closeGate q.closeRaw (s.rawT96 q.closeRaw)
      else if mode = 3 then s.closeGate (s.rawOf q.closeT) q.closeT
      else s
    else if mode ≠ 3 ∨ q.gateOpen then s
    else
      let t0 := s.gateCfg 4
      let period := s.gateCfg 6
      let since := (s.now.toNat - t0) * 1000000000000 / t96PerSecond
      let k := if period = 0 then q.k else max q.k (since / period)
      if period = 0 ∧ q.k ≠ 0 then s
      else
        let t := t96Add (BitVec.ofNat 96 t0) (psToT96 (k * period))
        (s.modTiu (fun q => { q with k := k + 1 })).openGate (s.rawOf t) t)

/-- EVENT_RISER_OVERFLOW: the record in progress closes, and stamps are discarded until one is kept again (R481). -/
def execEventRiserOverflow (n : Fin 8) (s : State) : Out State :=
  s.guarded (fun s =>
    let e := s.evt n
    if !e.on then s
    else
      let from' := match e.record, e.lastStamp with
        | p :: _, _ => p.t
        | [], some raw => s.rawT96 raw
        | [], none => s.now
      (s.closeStamps n false).modEvt n (fun e => { e with
        overflow := some (e.overflow.getD from'), discarded := e.discarded + 1, discAll := e.discAll + 1 }))

/-- The flush time 0x2A00 + 0x10 n.07 has passed since the first stamp of the record in progress (R478). -/
def State.stampsDue (s : State) (n : Nat) : Bool :=
  (((s.evt n).record.getLast?).map (fun p => s.elapsed p.t (s.evtCfg n 7))).getD false

/-- STAMP_RECORD_FLUSH: the flush time after the first stamp of a record has passed (R478). -/
def execStampRecordFlush (n : Fin 8) (s : State) : Out State :=
  s.guarded (fun s => if s.stampsDue n then s.closeStamps n false else s)

/-- MU_EVENT_DECIDE: the unit decides on the first event up to which both its inputs and the gate have been stamped (R483-R491). -/
def execMuEventDecide (u : Fin 4) (s : State) : Out State := s.guarded (fun s => if (s.mu u).on then s.stepMu u else s)

/-- The recalibration interval has elapsed since the last calibration of an input, Tj has moved by the recalibration step since then, or
there has been none (R471). -/
def State.calDue (s : State) (n : Nat) : Bool :=
  let p := s.interp n
  let now := s.ctl.crystalCount
  match p.calAt, p.calTemp with
  | some t, some tj =>
    decide (t + s.num 0x2AF0 2 * 1000000 * microCount ≤ now) || decide (s.num 0x2AF0 3 ≤ (Config.ioTemperature now - tj).natAbs)
  | _, _ => true

/-- INTERP_CAL_START: the interval or the temperature step of background calibration; none starts at Q1 or above (R471). -/
def execInterpCalStart (input : Fin 9) (s : State) : Out State :=
  s.guarded (fun s => if s.num 0x2AF0 1 = 1 ∧ s.hea.level = 0 ∧ s.calDue input then s.startCycle input false else s)

/-- INTERP_CAL_COMPLETE: 2^24 hits make a table, which is accepted or is a fault event (R470-R473). -/
def execInterpCalComplete (input : Fin 9) (hits : List Nat) (s : State) : Out State :=
  s.guardedWf (Instr.interpCalComplete input hits).wellFormed (fun s =>
    let p := s.interp input
    match p.calibrating with
    | none => s
    | some i =>
      let s := s.modInterp input (fun p =>
        let p := { p with calibrating := none }
        if !p.cycle then p
        else if i = p.active then { p with calibrating := some (1 - i), cycle := false }
        else { p with switchTo := some i })
      let s := s.modInterp input (fun p => { p with
        calTemp := some (Config.ioTemperature s.ctl.crystalCount), calAt := some s.ctl.crystalCount })
      match calTable hits with
      | some b => s.modInterp input (fun p => if i = 0 then { p with i0 := some b } else { p with i1 := some b })
      | none => s.interpFault input i)

/-- CALIBRATE_NOW: a mask written to 0x2AF0.04 runs a cycle on each input that it names, at any quench level (R472). -/
def execCalibrateNow (r : Requester) (mask : U16) (s : State) : Out State :=
  s.guarded (fun s => s.mayWrite r (keyOf 0x2AF0 4) (fun s =>
    (upTo 9).foldl (fun s n => if mask.getLsbD n then s.startCycle n true else s) s))

/-- INTERPOLATOR_SWITCHOVER: no edge has been presented for 2.5 ns (R471, R473). -/
def execInterpolatorSwitchover (input : Fin 9) (s : State) : Out State := s.guarded (fun s => s.switchInterp input)

end Sys2Proof.Machine
end

