-- ==== Sys2Proof/Machine/AccessOps.lean ====
section
/-! DEFINITION. Access to the object dictionary: what an entry reads as, which writes are refused and what an accepted one does,
and the slots, latches and staged parts of BAR0 (R34-R39, R49-R67, R644, R672). -/

namespace Sys2Proof.Machine

/-! ### What an entry reads as -/

/-- The ASCII digits of a number. -/
def digits (n : Nat) : List Byte := (Nat.toDigits 10 n).map (fun c => BitVec.ofNat 8 c.toNat)

/-- The running image. -/
def Flt.runningSlot (f : Flt) : Option Slot := if f.runningB then f.slotB else f.slotA

/-- A slot's version, 0 where it holds no valid image (R98). -/
def slotVersion (t : Option Slot) : Nat := ((t.map Slot.version).getD 0).toNat

/-- "major.minor.patch" (R97). -/
def versionText (v : Nat) : List Byte :=
  digits (v / 2 ^ 24) ++ [0x2E] ++ digits (v / 2 ^ 16 % 256) ++ [0x2E] ++ digits (v % 2 ^ 16)

/-- The state owner as 0x2001.04 codes it. -/
def ownerCode : Option Master → Nat
  | none => 0
  | some .ecat => 1
  | some .host => 2

/-- The blocks of a subsystem that switch pours for themselves (R24, R98). -/
def subsystemBlocks (n : Nat) : List BlockId :=
  let chans : List Ch := List.finRange 4
  match n with
  | 1 | 2 => chans.map (fun c => .conditioner c)
  | 3 | 4 => [.clocks]
  | 5 => (List.finRange 8).map (fun n => .tiInput n) ++ [.tiGate] ++ (List.finRange 4).map (fun u => .mu u)
  | 6 => chans.flatMap (fun c => (List.finRange 8).map (fun k => .ddc c k))
  | 7 => [.cross] ++ chans.flatMap (fun c => [.main c, .side c .density, .side c .trigger])
  | 8 => (List.finRange 16).map (fun u => .trig u)
  | 9 => chans.map (fun c => .density c)
  | 10 => chans.flatMap (fun c => (List.finRange 6).map (fun r => .reduction c r) ++ (List.finRange 2).map (fun g => .envelope c g))
  | 11 => chans.map (fun c => .capture c)
  | 12 => [.slotTable]
  | 14 => (List.finRange 256).map (fun l => .ladle l)
  | 15 => [.runners]
  | 16 => [.store]
  | 17 => (List.finRange 32).map (fun t => .net t)
  | 20 => [.health]
  | _ => []

/-- 0x2014.n: the oldest pour in force in a subsystem, the current one where it has no block that switches (R98). -/
def State.subsystemPour (s : State) (n : Nat) : U32 :=
  match (subsystemBlocks n).map s.pourOf with
  | [] => s.ctl.currentPour
  | p :: ps => ps.foldl oldestPour p

/-- Journal entries of the area that 0x3000.06 selects, oldest first (R626, R631). -/
def State.journalArea (s : State) : List JEntry :=
  (if s.num 0x3000 6 = 1 then s.flt.nv else s.flt.journal).reverse

/-- 0x3001: entries from the read start on, at most the read count (R631). -/
def State.journalBlock (s : State) : List Byte :=
  ((s.journalArea.filter (fun e => decide (s.num 0x3000 7 ≤ e.number.toNat))).take (s.num 0x3000 8)).flatMap JEntry.image

/-- The number of the oldest entry of a journal, 0 of an empty one. -/
def oldestEntry (j : List JEntry) : Nat := ((j.getLast?.map JEntry.number).getD 0).toNat

/-- A runner's status as 0x2B04.02-.0C show it (R534). -/
def Runner.shown (r : Runner) (sub : Nat) : Nat :=
  match sub with
  | 2 => r.stateCode
  | 3 => r.w.toNat
  | 4 => r.rd.toNat
  | 5 => r.wh.toNat
  | 6 => r.rdh.toNat
  | 7 => r.nextSeq.toNat
  | 8 => r.drops.toNat
  | 9 => r.gaps.toNat
  | 0x0A => r.completions.toNat
  | 0x0B => r.engineNow
  | _ => r.lastStatus

/-- The bytes of a bin table (R495). -/
def BinTable.image (b : BinTable) : List Byte := leBytes 4 b.cmax ++ b.widths.flatMap (fun w => leBytes 4 w)

/-- Entries of 0x2000-0x20FF whose value stands elsewhere in the state than in the store. -/
def State.controlView (s : State) (index sub : Nat) : Option Val :=
  let n (v : Nat) : Option Val := some (Val.ofNat v)
  let q := s.num 0x2010 4
  match index, sub with
  | 0x100A, 0 => some (.bytes (versionText (slotVersion s.flt.runningSlot)))
  | 0x2000, 2 => n (slotVersion s.flt.runningSlot)
  | 0x2001, 1 => n s.ctl.dev.code
  | 0x2001, 4 => n (ownerCode s.ctl.owner)
  | 0x2010, 1 => n s.ctl.pendingSet.length
  | 0x2010, 5 => n (s.queryEntry q).1
  | 0x2010, 6 => n (((s.queryEntry q).2.map (slotImage (q / 256) (q % 256))).getD 0)
  | 0x2010, 7 =>
    n (if entryWidth (q / 256) (q % 256) = 96 then ((s.queryEntry q).2.map (fun v => v.nat / 2 ^ 64)).getD 0 else 0)
  | 0x2020, 3 => n (slotVersion s.flt.slotA)
  | 0x2020, 4 => n (slotVersion s.flt.slotB)
  | 0x2020, 5 => n (if s.flt.runningB then 1 else 0)
  | 0x2020, 6 => n s.flt.rollback
  | 0x2083, 1 => n s.ctl.hostEmg.length
  | 0x2083, 2 => n ((s.ctl.hostEmg.head?.map BitVec.toNat).getD 0)
  | 0x2120, 4 => n s.now.toNat
  | 0x2120, 7 => n (((s.clk.holdover.map (fun t => (t96Diff s.now t).toNat / t96PerSecond)).getD 0) % 2 ^ 32)
  | 0x2B00, 2 => n s.dma.runners.length
  | 0x2B05, 0 => some (.bytes (let r := s.runner (s.num 0x2B03 1); if r.kind = 0 then List.replicate 64 0 else r.image))
  | 0x2C00, 1 => n s.sto.st
  | 0x3000, 1 => n s.flt.bootCount
  | 0x3000, 2 => n (s.flt.written % 2 ^ 32)
  | 0x3000, 3 => n (oldestEntry s.flt.journal)
  | 0x3000, 4 => n s.flt.nv.length
  | 0x3000, 5 => n (oldestEntry s.flt.nv)
  | 0x3001, 0 => some (.bytes s.journalBlock)
  | _, _ =>
    if index = 0x2014 then n (s.subsystemPour sub).toNat
    else if index = 0x2B04 ∧ sub ≠ 1 then n ((s.runner (s.num 0x2B03 1)).shown sub)
    else if index = 0x2B09 then n (s.engineShown (sub - 1))
    else none

/-- The member of a family of indices base, base + step, …: n of them. -/
def family (base step n index : Nat) : Option Nat :=
  if base ≤ index ∧ (index - base) % step = 0 ∧ (index - base) / step < n then some ((index - base) / step) else none

/-- The align-loop code of channel c (R122, R155). -/
def State.loopView (s : State) (index sub : Nat) : Option Val :=
  match family 0x2181 16 4 index with
  | some c => if sub = 3 then some (Val.ofNat (s.loopPhase c)) else none
  | none => none

/-- DOMAIN entries that the state spells out (R191, R200, R495). -/
def State.imageView (s : State) (index sub : Nat) : Option Val :=
  match family 0x2204 16 4 index, family 0x2F00 16 4 index, family 0x2A02 16 8 index with
  | some c, _, _ => some (.bytes (s.tableImage c))
  | none, some c, _ => if sub = 0x0E then some (.bytes (s.activeImage c)) else none
  | none, none, some i => some (.bytes (s.binTable i (sub - 1)).image)
  | none, none, none => if index = 0x2800 ∧ sub = 1 then some (.bytes s.slotTableImage) else none

/-- What a read of an existing entry returns (R34, R51): of an RWC entry, its value in the current pour. -/
def State.view (s : State) (index sub : Nat) : Val :=
  match (s.controlView index sub).orElse (fun _ => s.loopView index sub) with
  | some v => v
  | none =>
    match s.imageView index sub with
    | some v => v
    | none =>
      match Dict.row index sub with
      | some r =>
        match r.acc with
        | .rwc => cfgVal s.ctl.pours s.ctl.currentPour (keyOf index sub)
        | .wo => Val.ofNat 0
        | _ => s.val index sub
      | none => Val.ofNat 0

/-! ### Which writes are refused (R51-R53) -/

/-- The code that refuses an access to an absent entry (R53). -/
def absentCode (index : Nat) : Nat := if Dict.indexExists index then 0x06090011 else 0x06020000

/-- The result words that a cluster may write: those of its own ladles (R39, R425). -/
def ownResult (g : Fin 16) (index sub : Nat) : Bool :=
  decide (0x6800 + 16 * g.val ≤ index) && decide (index < 0x6810 + 16 * g.val) && decide (1 ≤ sub) && decide (sub ≤ 0x10)

/-- The access code bars a requester's write (R39, R51). -/
def barredBy (row : EntryRow) (r : Requester) (index sub : Nat) : Bool :=
  match r with
  | .cluster g => !ownResult g index sub
  | _ => row.acc == .const || row.acc == .ro

/-- The device state bars a write (R41, R51). -/
def State.stateBars (s : State) (row : EntryRow) (index sub : Nat) : Bool :=
  match s.ctl.dev with
  | .init => !(index == 0x2001 && (sub == 2 || sub == 3))
  | .boot => !((index == 0x2001 && sub == 2) || (index == 0x2020 && sub == 1) || index == 0x2080 || (index == 0x2082 && sub == 1))
  | .preop => index == 0x2020 && sub == 1
  | .safeop | .op => row.acc == .rwp || (index == 0x2020 && sub == 1)

/-- The CRC-32C in bytes 4-7 covers bytes 8 to the end (R289, R375). -/
def crcOk (b : List Byte) : Bool := field b 4 4 == (crc32c (b.drop 8)).toNat

/-- A mask image (R289). -/
def maskImageOk (b : List Byte) : Bool :=
  let j := field b 0 4
  decide (128 ≤ j) && decide (j ≤ 4096) && b.length == 8 + 4 * j && crcOk b

/-- A slot-table image, whose codes R373 lists (R375). -/
def tableImageOk (b : List Byte) : Bool :=
  let n := field b 0 4
  decide (128 ≤ n) && decide (n ≤ 2048) && decide (n % 128 = 0) && b.length == 8 + n && crcOk b
    && (b.drop 8).all (fun c => decide (c.toNat ≤ 0x20) || c == 0xFF)

/-- The images of RWC entries are checked as they are written (R289, R375). -/
def imageOk (index sub : Nat) (v : Val) : Bool :=
  if index = 0x2800 ∧ sub = 1 then tableImageOk v.data
  else if 0x2500 ≤ index ∧ index < 0x2540 ∧ sub = 0x1C then maskImageOk v.data
  else true

/-- An entry's own bits of a written number (R672). -/
def ownBits (row : EntryRow) (v : Val) : Val :=
  match v with
  | .bits n => Val.ofNat (n.toNat % 2 ^ row.ty.width)
  | .bytes b => .bytes b

/-- The refusals that do not rest on the value: absence, access code, state (R51). -/
def State.barCode (s : State) (r : Requester) (index sub : Nat) : Option Nat :=
  match Dict.row index sub with
  | none => some (absentCode index)
  | some row =>
    if barredBy row r index sub then some 0x06010002
    else if s.stateBars row index sub then some 0x08000022
    else none

/-- The capacity of the pending set bars a new entry (R73, R76). -/
def State.pendingFull (s : State) (k : Nat) : Bool :=
  decide (4096 ≤ s.pendingLoad) && !(s.ctl.pendingSet.any (fun p => p.1 == k))

/-- The code that refuses a write: the first that applies (R51-R53, R73). -/
def State.writeCode (s : State) (r : Requester) (index sub : Nat) (v : Val) : Option Nat :=
  match s.barCode r index sub with
  | some c => some c
  | none =>
    match Dict.row index sub with
    | none => some (absentCode index)
    | some row =>
      if !row.admits (ownBits row v) || !imageOk index sub v then some 0x06090030
      else if row.acc == .rwc && s.pendingFull (keyOf index sub) then some 0x05040005
      else none

/-! ### What an accepted write does -/

/-- The state that an operation on the state answers; the state before, where it stops. -/
def State.after (s : State) (o : Out State) : State :=
  match o with
  | .next t => t
  | .fault _ => s
  | .refused _ => s

/-- A state request by its code (R41, R95). -/
def State.stateRequest (s : State) (m : Master) (code : Nat) : State :=
  match code with
  | 1 => s.after (execRequestInit m s)
  | 2 => s.after (execRequestPreop m s)
  | 3 => s.after (execRequestBoot m s)
  | 4 => s.after (execRequestSafeop m s)
  | _ => s.after (execRequestOp m s)

/-- Entries of 0x2000-0x20FF whose write does more than store a value. -/
def State.controlWrite (s : State) (r : Requester) (index sub : Nat) (v : Val) : Option State :=
  match index, sub with
  | 0x2001, 2 => some (s.stateRequest (if r = .ecat then .ecat else .host) v.nat)
  | 0x2002, 6 => some ((List.range 5).foldl (fun s i => s.put 0x2002 (i + 1) 0) s)
  | 0x2010, 3 => some (s.after (execDiscardPending r s))
  | 0x2011, 4 => some (s.after (execCommitExecute r s))
  | 0x2011, 5 => some (s.after (execCommitToggle r (BitVec.ofNat 8 v.nat) s))
  | 0x2020, 1 => some (s.after (execFirmwareImageWrite (Config.firmwareImage v.data) s))
  | 0x2082, 1 => some (s.after (execMailboxDoorbell s))
  | _, _ => none

/-- Entries of the clocks whose write does more than store a value. -/
def State.clockWrite (s : State) (r : Requester) (index sub : Nat) (v : Val) : Option State :=
  match index, sub with
  | 0x2100, 2 => some (s.after (execTrimWrite r (BitVec.ofNat 32 v.nat) s))
  | 0x2102, 6 => some (s.after (execReturnModeWrite r (BitVec.ofNat 8 v.nat) s))
  | 0x2102, 7 => some (s.after (execReturnToRefin r s))
  | 0x2121, 7 => some (s.after (execSetTimeWrite r (BitVec.ofNat 96 v.nat) s))
  | 0x2121, 9 => some (s.after (execPpsSecondWrite r (BitVec.ofNat 64 v.nat) s))
  | 0x2124, 1 => some ((s.putVal 0x2124 1 v).modClk (fun k => { k with dcWritten := true }))
  | 0x2130, 4 => some (s.after (execSyncAlign r s))
  | _, 1 =>
    match family 0x2110 1 4 index with
    | some n =>
      some (s.after (if v.nat = 0 then execClkoutDisable r (Fin.ofNat 4 n) s else execClkoutEnable r (Fin.ofNat 4 n) s))
    | none => none
  | _, _ => none

/-- The commands of a capture channel (R371). -/
def State.captureWrite (s : State) (r : Requester) (c : Ch) (sub : Nat) (v : Val) : Option State :=
  match sub with
  | 0x0B => some (s.after (execCaptureArm r c s))
  | 0x0C => some (s.after (execCaptureStop r c s))
  | 0x0D => some (s.after (execCaptureAbort r c s))
  | 0x0E => some (s.after (execCaptureForceTrigger r c s))
  | 0x0F => some (s.after (execCaptureRelease r c (BitVec.ofNat 32 v.nat) s))
  | _ => none

/-- Entries of the channels whose write does more than store a value (R199, R234, R284, R347, R371). -/
def State.channelWrite (s : State) (r : Requester) (index sub : Nat) (v : Val) : Option State :=
  if index = 0x2481 then some (s.after (execTransformBankWrite r (sub == 2) v.data s))
  else
    match family 0x2309 16 4 index, family 0x230A 16 4 index, family 0x2600 16 4 index, family 0x2700 16 4 index,
        family 0x2F00 16 4 index with
    | some c, _, _, _, _ => some (s.after (execDdcBankWrite r (Fin.ofNat 4 c) (Fin.ofNat 8 (sub - 1)) false v.data s))
    | _, some c, _, _, _ => some (s.after (execDdcBankWrite r (Fin.ofNat 4 c) (Fin.ofNat 8 (sub - 1)) true v.data s))
    | _, _, some c, _, _ => if sub = 0x0D then some (s.after (execDensityClear r (Fin.ofNat 4 c) s)) else none
    | _, _, _, some c, _ => s.captureWrite r (Fin.ofNat 4 c) sub v
    | _, _, _, _, some c => if sub = 0x0E then some (s.after (execCalSetImport r (Fin.ofNat 4 c) v.data s)) else none
    | _, _, _, _, _ => none

/-- A runner command: the kind in byte 2 says which (R500, R501). -/
def State.runnerWrite (s : State) (r : Requester) (image : List Byte) : State :=
  match field image 2 1 with
  | 0 => s.after (execRunnerDestroy r image s)
  | 1 => s.after (execRunnerCreateRecord r image s)
  | _ => s.after (execRunnerCreateDescriptor r image s)

/-- 0x2B06.01: the runner in bits [31:16], the action in bits [7:0]; another action is out of range (R502, R534). -/
def State.controlRunner (s : State) (r : Requester) (v : Nat) : State :=
  let n : RunnerIx := BitVec.ofNat 16 (v / 2 ^ 16)
  match v % 256 with
  | 1 => s.after (execRunnerEnable r n s)
  | 2 => s.after (execRunnerStop r n s)
  | 3 => s.after (execRunnerAbort r n s)
  | _ => s.refuse r 0x06090030 (keyOf 0x2B06 1)

/-- Entries of the other subsystems whose write does more than store a value (R182, R436, R495, R534, R561, R630). -/
def State.otherWrite (s : State) (r : Requester) (index sub : Nat) (v : Val) : Option State :=
  match index, sub with
  | 0x2AF0, 4 => some (s.after (execCalibrateNow r (BitVec.ofNat 16 v.nat) s))
  | 0x2B02, 0 => some (s.runnerWrite r v.data)
  | 0x2B03, 1 => some (if s.num 0x2B03 1 = v.nat then s else (s.putVal 0x2B03 1 v).bump 0x2B04 1)
  | 0x2B06, 1 => some (s.controlRunner r v.nat)
  | 0x2C00, 2 => some (s.after (execStoreFormat r (BitVec.ofNat 8 v.nat) s))
  | 0x2E20, 4 => some (s.after (execAlertAcknowledge r s))
  | 0x2F80, 3 =>
    let s := s.putVal 0x2F80 3 v
    some (if v.nat = 0 then (upTo 4).foldl (fun s c => s.abandonWindow c) s else s)
  | 0x2E30, 2 => some (s.after (execHkGroupStart r (BitVec.ofNat 8 v.nat) s))
  | _, _ =>
    match family 0x2909 16 16 index, family 0x2C60 1 8 index, family 0x2E00 1 16 index, family 0x4000 1 256 index with
    | some g, _, _, _ =>
      if sub = 1 then some (s.after (execFreezeMaskWrite r (Fin.ofNat 16 g) (BitVec.ofNat 32 v.nat) s)) else none
    | _, some i, _, _ =>
      if sub = 0x0A then
        some (s.after (if v.nat = 1 then execReplayStart r (Fin.ofNat 8 i) s else execReplayStop r (Fin.ofNat 8 i) s))
      else none
    | _, _, some m, _ => if sub = 0x0B then some (s.after (execMonitorLatchClear r (Fin.ofNat 16 m) s)) else none
    | _, _, _, some l => some (s.after (execLadleImageWrite r (Fin.ofNat 256 l) v.data s))
    | _, _, _, _ => none

/-- The effect of its own that a write of an entry has; none where the value is only stored. -/
def State.ownEffect (s : State) (r : Requester) (index sub : Nat) (v : Val) : Option State :=
  (((s.controlWrite r index sub v).orElse (fun _ => s.clockWrite r index sub v)).orElse
    (fun _ => s.channelWrite r index sub v)).orElse (fun _ => s.otherWrite r index sub v)

/-- An accepted write: the effect of its own that an entry has, else the value enters the pending set or the store (R51, R73). -/
def State.applyWrite (s : State) (r : Requester) (index sub : Nat) (v : Val) : State :=
  match s.ownEffect r index sub v with
  | some t => t
  | none =>
    match (Dict.row index sub).map EntryRow.acc with
    | some .rwc => (s.putPending (keyOf index sub) v).put 0x2010 8 r.code
    | _ => s.putVal index sub v

/-! ### Latches (R61-R63) -/

/-- Whether an index is a snapshot group: its .01 is marked as a sequence counter in its entry table (R61, R64). -/
def isGroup (index : Nat) : Bool :=
  match Dict.row index 1 with
  | some row =>
    row.ty == .u32 && row.acc == .ro && index != 0x2002 && index != 0x2014 && index != 0x2E61 && index != 0x3000
      && !(decide (0x6800 ≤ index) && decide (index ≤ 0x68FF))
  | none => false

/-- A requester's latch of an object. -/
def State.latchOf (s : State) (r : Requester) (lowest : Nat) : Option Latch :=
  s.ctl.latches.find? (fun l => l.requester == r.code && l.lowest == lowest)

/-- The latches without one of them. -/
def State.dropLatch (s : State) (r : Requester) (lowest : Nat) : State :=
  { s with ctl := { s.ctl with latches := s.ctl.latches.filter (fun l => !(l.requester == r.code && l.lowest == lowest)) } }

/-- An object latched: the newest latch of its requester, which keeps 16 (R61, R62). -/
def State.latch (s : State) (r : Requester) (lowest : Nat) (values : List (Nat × Val)) : State :=
  let rest := (s.dropLatch r lowest).ctl.latches
  let own := rest.filter (fun l => l.requester == r.code)
  let others := rest.filter (fun l => l.requester != r.code)
  { s with ctl := { s.ctl with
      latches := { requester := r.code, lowest := lowest, values := values } :: own.take 15 ++ others } }

/-- The sub-indices that an index has, from one on. -/
def subsFrom (index lo : Nat) : List Nat :=
  (List.range 256).filter (fun sub => decide (lo ≤ sub) && (Dict.row index sub).isSome)

/-- The entries of a group (R61). -/
def State.groupValues (s : State) (index : Nat) : List (Nat × Val) :=
  (subsFrom index 1).map (fun sub => (sub, s.view index sub))

/-- A value in a latch. -/
def Latch.value (l : Latch) (sub : Nat) : Option Val := (l.values.find? (fun p => p.1 == sub)).map Prod.snd

/-- A read of an entry, or of a part of it: `wide` where the access path is narrower than the entry, `lowest` where the part is
its lowest. A group's latch serves its entries whole. A read of either half of the slot of a group's .01 latches the group (DESIGN
CHOICE, log entry 10). (R61-R63) -/
def State.readPart (s : State) (r : Requester) (index sub : Nat) (wide lowest : Bool) : State × Val :=
  let v := s.view index sub
  let k := keyOf index sub
  let miss (s : State) : State := s.bump 0x2002 5
  if isGroup index && sub == 1 then (s.latch r k (s.groupValues index), v)
  else
    match if isGroup index then (s.latchOf r (keyOf index 1)).bind (fun l => l.value sub) else none with
    | some w => (s, w)
    | none =>
      if wide then
        if lowest then
          let s := if isGroup index then miss s else s
          (s.latch r k [(sub, v)], v)
        else
          match (s.latchOf r k).bind (fun l => l.value sub) with
          | some w => (s, w)
          | none => (miss s, v)
      else (if isGroup index then miss s else s, v)

/-- A message leaves the emergency queue when it is read (R90). -/
def State.popEmergency (s : State) (index sub : Nat) (lowest : Bool) : State :=
  if index = 0x2083 ∧ sub = 2 ∧ lowest = true then { s with ctl := { s.ctl with hostEmg := s.ctl.hostEmg.tail } } else s

/-! ### Slots of BAR0 (R49, R55-R59, R65, R672) -/

/-- From here no slot holds an entry (R55). -/
def slotEnd : Nat := 0x08000000

/-- The part of a 64-bit slot that an access moves. -/
def movedBits (h : Half) (x : Nat) : Nat :=
  match h with
  | .full => x % 2 ^ 64
  | .low => x % 2 ^ 32
  | .high => x / 2 ^ 32 % 2 ^ 32

/-- The slot image of an entry's value (R49, R59). -/
def slotWord (index sub : Nat) (upper : Bool) (v : Val) : Nat :=
  if upper then v.nat / 2 ^ 64 % 2 ^ 32 else slotImage index sub v

/-- Whether a type is wider than an access (R61). -/
def wideUnder (t : Ty) (h : Half) : Bool :=
  match t with
  | .t96 => true
  | .u64 | .i64 => h != .full
  | _ => false

/-- Entries that BAR0 serves before the dictionary is ready (R644). -/
def earlyEntry (index : Nat) : Bool :=
  (decide (0x1000 ≤ index) && decide (index ≤ 0x1018)) || (decide (0x2000 ≤ index) && decide (index ≤ 0x2002)) || index == 0x2020

/-- BAR0 does not serve an index yet (R644). -/
def State.early (s : State) (r : Requester) (index : Nat) : Bool := r == .host && s.num 0x2001 6 == 0 && !earlyEntry index

/-- A read of a part of a slot: an absent entry reads 0 and is recorded; so is a write-only one (R39, R51, R53, R55, R644). -/
def State.readSlot (s : State) (r : Requester) (index sub : Nat) (upper : Bool) (h : Half) : State × Nat :=
  if s.early r index then (s, 0)
  else
    match Dict.row index sub with
    | none => (s.refuse r (absentCode index) (keyOf index sub), 0)
    | some row =>
      if row.acc = .wo then (s.refuse r 0x06010001 (keyOf index sub), 0)
      else
        let wide := wideUnder row.ty h
        let lowest := !upper && h != .high
        let (t, v) := s.readPart r index sub wide lowest
        (t.popEmergency index sub lowest, movedBits h (slotWord index sub upper v))

/-- The bits of a part of a slot, from the entry's first bit: where it starts and its width. -/
def partBits (upper : Bool) (h : Half) : Nat × Nat :=
  if upper then (64, 32)
  else
    match h with
    | .full => (0, 64)
    | .low => (0, 32)
    | .high => (32, 32)

/-- A number with some of its bits replaced. -/
def withBits (x lo width v : Nat) : Nat :=
  x % 2 ^ lo + v % 2 ^ width * 2 ^ lo + x / 2 ^ (lo + width) * 2 ^ (lo + width)

/-- The staged parts of an object, oldest first (R65). -/
def State.parts (s : State) (r : Requester) (k : Nat) : List Staged :=
  (s.ctl.staged.filter (fun p => p.requester == r.code && p.lowest == k)).reverse

/-- No part of an object staged. -/
def State.unstage (s : State) (r : Requester) (k : Nat) : State :=
  { s with ctl := { s.ctl with staged := s.ctl.staged.filter (fun p => !(p.requester == r.code && p.lowest == k)) } }

/-- A part staged; a later one of the same bits replaces it (R65). -/
def State.stage (s : State) (r : Requester) (k lo width v : Nat) : State :=
  let rest := s.ctl.staged.filter (fun p => !(p.requester == r.code && p.lowest == k && p.bit == lo))
  { s with ctl := { s.ctl with
      staged := { requester := r.code, lowest := k, bit := lo, width := width, value := v % 2 ^ width } :: rest } }

/-- The value that a part not staged keeps: the pending one of an RWC entry, where there is one, else the one in effect (R65,
R671). -/
def State.basis (s : State) (index sub : Nat) : Val :=
  match (Dict.row index sub).map EntryRow.acc with
  | some .rwc => ((s.queryEntry (keyOf index sub)).2).getD (s.view index sub)
  | _ => s.view index sub

/-- A write of a whole entry, or its refusal; an accepted one releases the latches of the objects that it is a part of (R51-R53,
R62, R672). -/
def State.writeEntry (s : State) (r : Requester) (index sub : Nat) (v : Val) : State :=
  match s.writeCode r index sub v with
  | some code => s.refuse r code (keyOf index sub)
  | none =>
    let v := match Dict.row index sub with
      | some row => ownBits row v
      | none => v
    let s := (s.dropLatch r (keyOf index sub)).unstage r (keyOf index sub)
    let s := if isGroup index then s.dropLatch r (keyOf index 1) else s
    s.applyWrite r index sub v

/-- An access that holds none of an entry's bits (R672). -/
def ignores (t : Ty) (upper : Bool) (h : Half) : Bool :=
  h == .high && (upper || (!t.string && decide (t.width ≤ 32)))

/-- A write of a part of a slot (R55, R65, R644, R672). -/
def State.writeHalf (s : State) (r : Requester) (index sub : Nat) (upper : Bool) (h : Half) (v : Nat) : State :=
  if s.early r index then s.refuse r 0x08000022 (keyOf index sub)
  else
    match Dict.row index sub with
    | none => s.refuse r (absentCode index) (keyOf index sub)
    | some row =>
      let k := keyOf index sub
      if ignores row.ty upper h then s
      else if wideUnder row.ty h then
        if upper || h == .high then
          match s.barCode r index sub with
          | some code => s.refuse r code k
          | none =>
            let (lo, width) := partBits upper h
            (s.dropLatch r k).stage r k lo width v
        else
          let base := (s.basis index sub).nat
          let whole := (s.parts r k).foldl (fun x p => withBits x p.bit p.width p.value) base
          let (lo, width) := partBits false h
          (s.unstage r k).writeEntry r index sub (Val.ofNat (withBits whole lo width v))
      else s.writeEntry r index sub (Val.ofNat v)

/-- The entry of a slot, and whether the slot is the upper one of a T96 entry (R55, R59). -/
def locate (slot : Nat) : Nat × Nat × Bool :=
  let index := slot / 256
  let sub := slot % 256
  if (Dict.row index sub).isNone && decide (0 < sub) && entryWidth index (sub - 1) == 96 then (index, sub - 1, true)
  else (index, sub, false)

/-- An 8-byte read of a slot by the host. -/
def State.readAt (s : State) (slot : Nat) : State × Nat :=
  if slotEnd ≤ 8 * slot then (s, 0)
  else
    let (index, sub, upper) := locate slot
    s.readSlot .host index sub upper .full

/-- An 8-byte write of a slot by the host. -/
def State.writeAt (s : State) (slot v : Nat) : State :=
  if slotEnd ≤ 8 * slot then s
  else
    let (index, sub, upper) := locate slot
    s.writeHalf .host index sub upper .full v

/-- An access that R56 or R57 serves. -/
def formOk (offset size : Nat) : Bool :=
  ((size == 4 || size == 8) && decide (offset % size = 0))
    || (decide (8 < size) && decide (size ≤ 128) && decide (size % 8 = 0) && decide (offset % 8 = 0))

/-- An access of a form that is not served: a read returns all ones, a write is discarded, and it is recorded once (R56, R57). -/
def State.malformed (s : State) (write : Bool) (offset size : Nat) : State :=
  let s := if write then s else s.emit (.answer 1 (.bytes (List.replicate size 0xFF)))
  s.accessError .host 0x06010000 (offset / 8)

/-- 8-byte reads in ascending address order. -/
def State.readRun (s : State) : Nat → Nat → State × List Byte
  | _, 0 => (s, [])
  | slot, n + 1 =>
    let (t, v) := s.readAt slot
    let (u, bs) := t.readRun (slot + 1) n
    (u, leBytes 8 v ++ bs)

/-- 8-byte writes in descending address order: the later values first. -/
def State.writeRun (s : State) : Nat → List U64 → State
  | _, [] => s
  | slot, v :: vs => (s.writeRun (slot + 1) vs).writeAt slot v.toNat

/-! ### Process data (R40, R41, R66) -/

/-- What an assignment maps, in order: index, sub-index and bit length, as applied at the last PREOP→SAFEOP. -/
def State.mapped (s : State) (assignment lo count : Nat) : List (Nat × Nat × Nat) :=
  (List.range (min count (s.app assignment 0))).flatMap (fun i =>
    let p := s.app assignment (i + 1)
    if lo ≤ p ∧ p < lo + 2 * count then
      (List.range (min 32 (s.app p 0))).map (fun j =>
        let m := s.app p (j + 1)
        (m / 2 ^ 16, m / 2 ^ 8 % 256, m % 256))
    else [])

/-- The first bit of each mapped entry. -/
def bitOffsets : Nat → List (Nat × Nat × Nat) → List (Nat × Nat × Nat × Nat)
  | _, [] => []
  | lo, (index, sub, n) :: rest => (lo, index, sub, n) :: bitOffsets (lo + n) rest

/-- RxPDO-mappable entries; 0x2011.02 is the upper part of the instant (R40, R59). -/
def rxMappable (index sub : Nat) : Bool := index == 0x2011 && (sub == 1 || sub == 2 || sub == 3 || sub == 5)

/-- TxPDO-mappable entries (R40). -/
def txMappable (index : Nat) : Bool :=
  (decide (0x6000 ≤ index) && decide (index ≤ 0x6FFF)) || index == 0x2012 || index == 0x2013

/-- One mapped entry applied; a value out of range is recorded (R52). -/
def State.rxApply (s : State) (index sub n v : Nat) : State :=
  let write (s : State) (x : Nat) : State :=
    match s.writeCode .ecat index sub (Val.ofNat x) with
    | some code => s.accessError .ecat code (keyOf index sub)
    | none => s.writeEntry .ecat index sub (Val.ofNat x)
  if sub = 1 ∧ n < 96 then
    let whole := (s.parts .ecat (keyOf index sub)).foldl (fun x p => withBits x p.bit p.width p.value) (s.basis index sub).nat
    write (s.unstage .ecat (keyOf index sub)) (withBits whole 0 n v)
  else write s v

/-- An RxPDO applied: upper parts first, then the other mapped entries in order. -/
def State.rxWrite (s : State) (data : List Byte) : State :=
  let bits := ofLeBytes data
  let es := (bitOffsets 0 (s.mapped 0x1C12 0x1600 4)).filter (fun (_, index, sub, _) => rxMappable index sub)
  let s := es.foldl (fun s (lo, index, sub, n) =>
    if sub = 2 then s.stage .ecat (keyOf index 1) 64 32 (bits / 2 ^ lo % 2 ^ n) else s) s
  es.foldl (fun s (lo, index, sub, n) => if sub = 2 then s else s.rxApply index sub n (bits / 2 ^ lo % 2 ^ n)) s

/-- The bits of a mapped entry in a TxPDO; one that may not be mapped gives zeros. -/
def State.txBits (s : State) (index sub n : Nat) : Nat :=
  if txMappable index then
    let (i, b, upper) := locate (index * 256 + sub)
    (if upper then (s.view i b).nat / 2 ^ 64
     else if entryWidth i b = 96 then (s.view i b).nat else slotImage i b (s.view i b)) % 2 ^ n
  else 0

/-- The TxPDO of one moment (R66). -/
def State.txData (s : State) : List Byte :=
  let es := bitOffsets 0 (s.mapped 0x1C13 0x1A00 8)
  let total := es.foldl (fun a (_, _, _, n) => a + n) 0
  leBytes (min 1024 ((total + 7) / 8)) (es.foldl (fun a (lo, index, sub, n) => a + s.txBits index sub n * 2 ^ lo) 0)

end Sys2Proof.Machine
end

