-- ==== Sys2Proof/Machine/Coe.lean ====
section
/-! DEFINITION. The CoE services: SDO upload and download with complete access, SDO information, and their frames in the host mailbox
(R40, R49, R51, R66, R68-R71). The layout of a CoE frame is EtherCAT's (PRESUMED, log entry 51): the specification names the
services and their abort codes. -/

namespace Sys2Proof.Machine

/-! ### Entries as bytes -/

/-- The bytes of a value in an SDO (R49, R50). -/
def sdoBytes (index sub : Nat) (v : Val) : List Byte :=
  match v, Dict.row index sub with
  | .bytes b, _ => b
  | .bits n, some row => leBytes row.ty.bytes n.toNat
  | .bits _, none => []

/-- The entries that bytes spell from a list of sub-indices on, each in its size; a string takes all that is left. None where the
bytes end inside an entry or go on past the last one (R49). -/
def sdoValues (index : Nat) : List Nat → List Byte → Option (List (Nat × Val))
  | [], [] => some []
  | [], _ :: _ => none
  | b :: bs, data =>
    if data.isEmpty then some []
    else
      match Dict.row index b with
      | none => none
      | some row =>
        if row.ty.string then some [(b, .bytes data)]
        else if data.length < row.ty.bytes then none
        else (sdoValues index bs (data.drop row.ty.bytes)).map (fun rest =>
          (b, Val.ofNat (ofLeBytes (data.take row.ty.bytes))) :: rest)

/-! ### The services -/

/-- An SDO upload: one entry whole, or an index from a sub-index on in one moment (complete access); the abort code where it is
refused (R51, R53, R61, R66). -/
def State.sdoRead (s : State) (m : Master) (index sub : Nat) (complete : Bool) : State × Except Nat Val :=
  if complete then
    let subs := subsFrom index sub
    if subs.isEmpty then (s, .error (absentCode index))
    else if subs.any (fun b => (Dict.row index b).any (fun row => row.acc == .wo)) then (s, .error 0x06010001)
    else
      (subs.foldl (fun s b => s.popEmergency index b true) s,
        .ok (.bytes (subs.flatMap (fun b => sdoBytes index b (s.view index b)))))
  else
    match Dict.row index sub with
    | none => (s, .error (absentCode index))
    | some row =>
      if row.acc = .wo then (s, .error 0x06010001)
      else
        let (t, v) := s.readPart m.requester index sub false true
        (t.popEmergency index sub true, .ok v)

/-- An SDO download of one entry; the abort code where it is refused, by the entry or by its own effect (R51-R53). -/
def State.sdoWrite (s : State) (m : Master) (index sub : Nat) (v : Val) : State × Option Nat :=
  match s.writeCode m.requester index sub v with
  | some code => (s.accessError m.requester code (keyOf index sub), some code)
  | none =>
    let t := s.writeEntry m.requester index sub v
    if keyOf index sub ≠ keyOf 0x2002 6 ∧ t.num 0x2002 1 = (s.num 0x2002 1 + 1) % 2 ^ 32 then (t, some (t.num 0x2002 2))
    else (t, none)

/-- A complete-access download: the entries from a sub-index on that the bytes spell, written in order. It is refused whole where one
of them may not be written, or where the bytes fit no entries: then no entry changes (DESIGN CHOICE, log entry 11). -/
def State.sdoWriteAll (s : State) (m : Master) (index sub : Nat) (data : List Byte) : State × Option Nat :=
  let subs := subsFrom index sub
  if subs.isEmpty then (s.accessError m.requester (absentCode index) (keyOf index sub), some (absentCode index))
  else
    match sdoValues index subs data with
    | none => (s.accessError m.requester 0x06070010 (keyOf index sub), some 0x06070010)
    | some vs =>
      match vs.findSome? (fun (b, v) => (s.writeCode m.requester index b v).map (fun code => (b, code))) with
      | some (b, code) => (s.accessError m.requester code (keyOf index b), some code)
      | none => (vs.foldl (fun s (b, v) => (s.sdoWrite m index b v).1) s, none)

/-- A download of bytes, of one entry or with complete access. -/
def State.sdoStore (s : State) (m : Master) (index sub : Nat) (complete : Bool) (data : List Byte) : State × Option Nat :=
  if complete then s.sdoWriteAll m index sub data
  else
    match Dict.row index sub with
    | none => s.sdoWrite m index sub (.bytes data)
    | some row =>
      if row.ty.string then s.sdoWrite m index sub (.bytes data)
      else if data.length = row.ty.bytes then s.sdoWrite m index sub (Val.ofNat (ofLeBytes data))
      else (s.accessError m.requester 0x06070010 (keyOf index sub), some 0x06070010)

/-! ### SDO information -/

/-- Every index of the dictionary (R54). -/
def allIndices : List Nat := (List.range 0x7000).filter (fun i => decide (0x1000 ≤ i) && Dict.indexExists i)

/-- RxPDO-mappable and TxPDO-mappable entries of an index (R40). -/
def rxIndex (index : Nat) : Bool := (subsFrom index 0).any (fun b => rxMappable index b)

/-- The indices of an object list: 1 all, 2 RxPDO-mappable, 3 TxPDO-mappable, 4 and 5 none. -/
def objectList (typ : Nat) : List Nat :=
  match typ with
  | 1 => allIndices
  | 2 => allIndices.filter rxIndex
  | 3 => allIndices.filter txMappable
  | _ => []

/-- The rights of an entry: reads in PREOP, SAFEOP and OP in bits 0-2, writes in bits 3-5, RxPDO and TxPDO mapping in bits 6 and 7
(R40, R51). -/
def entryRights (row : EntryRow) (index sub : Nat) : Nat :=
  (match row.acc with
    | .const | .ro => 7
    | .rw | .rwc => 63
    | .rwp => 15
    | .wo => 56)
    + (if rxMappable index sub then 64 else 0) + (if txMappable index then 128 else 0)

/-- What SDO information returns: the counts of the lists, a list, an object's description, an entry's description; the abort code
of a request for what does not exist (R40, R49, R53). -/
def sdoInfo (q : InfoQuery) : Except Nat (List Byte) :=
  match q with
  | .list typ =>
    .ok (leBytes 2 typ.toNat ++ (if typ = 0 then (List.range 5).flatMap (fun i => leBytes 2 (objectList (i + 1)).length)
      else (objectList typ.toNat).flatMap (leBytes 2)))
  | .object index =>
    let i := index.toNat
    let subs := subsFrom i 0
    if Dict.indexExists i then
      .ok (leBytes 2 i ++ leBytes 2 (((Dict.row i 0).map (fun r => r.ty.coe)).getD 0) ++ leBytes 1 (subs.getLastD 0)
        ++ leBytes 1 (if subs == [0] then 7 else 9) ++ Config.objectName i)
    else .error 0x06020000
  | .entry index sub =>
    let i := index.toNat
    let b := sub.toNat
    match Dict.row i b with
    | none => .error (absentCode i)
    | some row =>
      .ok (leBytes 2 i ++ leBytes 1 b ++ leBytes 1 0 ++ leBytes 2 row.ty.coe ++ leBytes 2 (8 * row.ty.bytes)
        ++ leBytes 2 (entryRights row i b) ++ Config.entryName i b)

/-! ### Frames of the host mailbox (R68, R71) -/

/-- Bytes of service data in a mailbox frame, after the CoE header (R68). -/
def coeRoom : Nat := 1014

/-- A CoE frame: the service in bits [15:12] of its header. -/
def coeFrame (service : Nat) (body : List Byte) : List Byte := leBytes 2 (service * 4096) ++ body

/-- An SDO abort. -/
def abortFrame (index sub code : Nat) : List Byte := coeFrame 2 ([0x80] ++ leBytes 2 index ++ leBytes 1 sub ++ leBytes 4 code)

/-- The response of an upload: expedited up to 4 bytes, normal as far as the frame holds it, the rest in segments. -/
def State.uploadFrame (s : State) (index sub : Nat) (complete : Bool) (data : List Byte) : State × List Byte :=
  let n := data.length
  let ca := if complete then 16 else 0
  if 1 ≤ n ∧ n ≤ 4 then
    (s, coeFrame 3 (leBytes 1 (0x43 + 4 * (4 - n) + ca) ++ leBytes 2 index ++ leBytes 1 sub ++ padTo 4 data))
  else
    let first := data.take (coeRoom - 8)
    let rest := data.drop (coeRoom - 8)
    let s := if rest.isEmpty then s else { s with ctl := { s.ctl with
      sdoSeg := some { upload := true, index := index, sub := sub, complete := complete, data := rest, total := n, toggle := false } } }
    (s, coeFrame 3 (leBytes 1 (0x41 + ca) ++ leBytes 2 index ++ leBytes 1 sub ++ leBytes 4 n ++ first))

/-- A segment of an upload. -/
def State.uploadSegment (s : State) (cmd : Nat) : State × List Byte :=
  match s.ctl.sdoSeg with
  | none => (s, abortFrame 0 0 0x05040001)
  | some g =>
    if g.upload = false then (s, abortFrame g.index g.sub 0x05040001)
    else if cmd.testBit 4 != g.toggle then
      ({ s with ctl := { s.ctl with sdoSeg := none } }, abortFrame g.index g.sub 0x05030000)
    else
      let part := g.data.take (coeRoom - 1)
      let rest := g.data.drop (coeRoom - 1)
      let head := (if g.toggle then 16 else 0) + (if part.length < 7 then 2 * (7 - part.length) else 0) + (if rest.isEmpty then 1 else 0)
      ({ s with ctl := { s.ctl with sdoSeg := if rest.isEmpty then none else some { g with data := rest, toggle := !g.toggle } } },
        coeFrame 3 (leBytes 1 head ++ padTo 7 part))

/-- The response of a download that has all its bytes. -/
def State.downloadFrame (s : State) (index sub : Nat) (complete : Bool) (data : List Byte) (answer : List Byte) : State × List Byte :=
  match s.sdoStore .host index sub complete data with
  | (t, none) => (t, answer)
  | (t, some code) => (t, abortFrame index sub code)

/-- The start of a download: expedited, normal, or the first part of a segmented one. -/
def State.downloadStart (s : State) (cmd index sub : Nat) (body : List Byte) : State × List Byte :=
  let complete := cmd.testBit 4
  let answer := coeFrame 3 (leBytes 1 (0x60 + if complete then 16 else 0) ++ leBytes 2 index ++ leBytes 1 sub ++ leBytes 4 0)
  if cmd.testBit 1 then
    let n := if cmd.testBit 0 then 4 - cmd / 4 % 4 else 4
    s.downloadFrame index sub complete ((body.drop 4).take n) answer
  else
    let total := field body 4 4
    let data := (body.drop 8).take total
    if data.length = total then s.downloadFrame index sub complete data answer
    else
      let s := { s with ctl := { s.ctl with
        sdoSeg := some { upload := false, index := index, sub := sub, complete := complete, data := data, total := total, toggle := false } } }
      (if index = 0x2020 then s.put 0x2020 2 1 else s, answer)

/-- A segment of a download; the last one applies the whole. -/
def State.downloadSegment (s : State) (cmd : Nat) (body : List Byte) : State × List Byte :=
  match s.ctl.sdoSeg with
  | none => (s, abortFrame 0 0 0x05040001)
  | some g =>
    let closed := { s with ctl := { s.ctl with sdoSeg := none } }
    if g.upload then (s, abortFrame g.index g.sub 0x05040001)
    else if cmd.testBit 4 != g.toggle then (closed, abortFrame g.index g.sub 0x05030000)
    else
      let part := (body.drop 1).take (if body.length ≤ 8 then 7 - cmd / 2 % 8 else body.length)
      let data := g.data ++ part
      let answer := coeFrame 3 (leBytes 1 (0x20 + if g.toggle then 16 else 0) ++ leBytes 7 0)
      if cmd.testBit 0 then
        if data.length = g.total then closed.downloadFrame g.index g.sub g.complete data answer
        else (closed, abortFrame g.index g.sub 0x06070010)
      else if g.total < data.length then (closed, abortFrame g.index g.sub 0x06070010)
      else ({ s with ctl := { s.ctl with sdoSeg := some { g with data := data, toggle := !g.toggle } } }, answer)

/-- An SDO request: the command specifier in bits [7:5] of its first byte. A new upload or download, or an abort, ends a segmented one
in progress (R40: one SDO in progress). -/
def State.serveSdo (s : State) (body : List Byte) : State × List (List Byte) :=
  let cmd := field body 0 1
  let index := field body 1 2
  let sub := field body 3 1
  let fresh := { s with ctl := { s.ctl with sdoSeg := none } }
  match cmd / 32 with
  | 0 => let (t, f) := s.downloadSegment cmd body; (t, [f])
  | 1 => let (t, f) := fresh.downloadStart cmd index sub body; (t, [f])
  | 2 =>
    match fresh.sdoRead .host index sub (cmd.testBit 4) with
    | (t, .error code) => (t.accessError .host code (keyOf index sub), [abortFrame index sub code])
    | (t, .ok v) =>
      let (u, f) := t.uploadFrame index sub (cmd.testBit 4) (match v with
        | .bytes b => b
        | .bits _ => sdoBytes index sub v)
      (u, [f])
  | 3 => let (t, f) := s.uploadSegment cmd; (t, [f])
  | 4 => (fresh, [[]])
  | _ => (s, [abortFrame index sub 0x05040001])

/-- Information data cut into frames, each with the fragments that follow it. -/
def infoFrames (opcode : Nat) : Nat → List Byte → List (List Byte)
  | 0, _ => []
  | n + 1, data =>
    let part := data.take (coeRoom - 4)
    coeFrame 8 (leBytes 1 (opcode + if n = 0 then 0 else 128) ++ leBytes 1 0 ++ leBytes 2 n ++ part)
      :: infoFrames opcode n (data.drop (coeRoom - 4))

/-- An SDO information request: the operation in bits [6:0] of its first byte, its data from byte 4 on. -/
def serveInfo (body : List Byte) : List (List Byte) :=
  let op := field body 0 1 % 128
  let q : Option InfoQuery :=
    if op = 1 then some (.list (BitVec.ofNat 16 (field body 4 2)))
    else if op = 3 then some (.object (BitVec.ofNat 16 (field body 4 2)))
    else if op = 5 then some (.entry (BitVec.ofNat 16 (field body 4 2)) (BitVec.ofNat 8 (field body 6 1)))
    else none
  match q with
  | none => infoFrames 7 1 (leBytes 4 0x05040001)
  | some q =>
    match sdoInfo q with
    | .ok data => infoFrames (op + 1) (max 1 ((data.length + (coeRoom - 5)) / (coeRoom - 4))) data
    | .error code => infoFrames 7 1 (leBytes 4 code)

/-- A request of the host mailbox: SDO and SDO information; any other service, or a frame of another length than 2-1,016 bytes, is
answered by an abort (R68, R71). -/
def State.serveCoe (s : State) (frame : List Byte) : State × List (List Byte) :=
  if frame.length < 2 ∨ 1016 < frame.length then (s, [abortFrame 0 0 0x05040001])
  else
    match field frame 0 2 / 4096 with
    | 2 => s.serveSdo (frame.drop 2)
    | 8 => (s, serveInfo (frame.drop 2))
    | _ => (s, [abortFrame 0 0 0x05040001])

end Sys2Proof.Machine
end

