-- ==== Sys2Proof/Machine/Access.lean ====
section
/-! DEFINITION. Commands of the EtherCAT port, the object dictionary and BAR0 (R34-R72, R644, R672). -/

namespace Sys2Proof.Machine

/-! ### Process data and SII (R40, R41, R66) -/

/-- RXPDO_CYCLE: applied in OP, ignored in every other state (R41); an RxPDO has at most 256 bytes (R40). -/
def execRxpdoCycle (data : List Byte) (s : State) : Out State :=
  s.guarded (fun s =>
    if s.ctl.dev = .op then
      State.rxWrite { s with ctl := { s.ctl with rxpdo := data.take 256 } } (data.take 256)
    else s)

/-- TXPDO_CYCLE: in SAFEOP and OP the buffer is filled from one moment's state (R66). -/
def execTxpdoCycle (s : State) : Out State :=
  s.guarded (fun s => if s.ctl.dev.runs then s.emit (.txpdo s.txData) else s)

/-- SII_READ: from the ESI content, or busy before the firmware runs (R40). -/
def execSiiRead (addr : U16) (s : State) : Out State :=
  s.guarded (fun s => s.emit (.sii (if s.ctl.firmware then some (Config.siiWord addr) else none)))

/-! ### SDO services (R40, R51, R66) -/

/-- A refused SDO of the EtherCAT master: answered by its abort code, and recorded (R51). -/
def State.abortSdo (s : State) (m : Master) (code k : Nat) : State :=
  (s.accessError m.requester code k).emit (.abort m.requester.code code)

/-- SDO_UPLOAD: one entry whole, or an index from a sub-index on in one moment (complete access) (R51, R53, R61, R66). -/
def execSdoUpload (m : Master) (key : Key) (complete : Bool) (s : State) : Out State :=
  s.guarded (fun s =>
    match s.sdoRead m key.index.toNat key.sub.toNat complete with
    | (t, .ok v) => t.emit (.answer m.requester.code v)
    | (t, .error code) => t.abortSdo m code (keyOf key.index.toNat key.sub.toNat))

/-- SDO_DOWNLOAD: a write of one entry, or with complete access of the entries that its bytes spell; where it is refused the answer
is the abort code (R40, R51-R53). The EtherCAT master gets the code of a refusal by the entry's own effect with that effect. -/
def execSdoDownload (m : Master) (key : Key) (v : Val) (complete : Bool) (s : State) : Out State :=
  s.guarded (fun s =>
    let index := key.index.toNat
    let sub := key.sub.toNat
    let own := complete || (s.writeCode m.requester index sub v).isSome
    match if complete then s.sdoWriteAll m index sub v.data else s.sdoWrite m index sub v with
    | (t, none) => t
    | (t, some code) => if m = .host ∨ own = true then t.emit (.abort m.requester.code code) else t)

/-- SDO_INFORMATION: the dictionary description (R40, R49, R53). -/
def execSdoInformation (m : Master) (q : InfoQuery) (s : State) : Out State :=
  s.guarded (fun s =>
    match sdoInfo q with
    | .ok data => s.emit (.answer m.requester.code (.bytes data))
    | .error code => s.abortSdo m code q.key)

/-- MAILBOX_RESPONSE_COMPLETE: the request is served, its response, or the next frame of a longer one, is in 0x2081, the response
sequence increments and MSI-X vector 0 is signalled; busy clears with the last frame (R68, R69, R71, R72). -/
def execMailboxResponseComplete (s : State) : Out State :=
  s.guarded (fun s =>
    if s.num 0x2082 2 ≠ 1 then s
    else
      let (t, frames) := match s.ctl.mbxRequest with
        | some f => s.serveCoe f
        | none => (s, s.ctl.mbxAnswers)
      let t := { t with ctl := { t.ctl with mbxRequest := none, mbxAnswers := frames.tail } }
      (((t.putFrame (frames.headD [])).put 0x2082 2 (if frames.tail.isEmpty then 0 else 1)).bump 0x2082 3).signal 0)

/-! ### Single entries and wide objects (R51, R55, R59-R65) -/

/-- REGISTER_WRITE: a whole entry written (R51-R53, R73). -/
def execRegisterWrite (r : Requester) (key : Key) (v : Val) (s : State) : Out State :=
  s.guarded (fun s =>
    if s.early r key.index.toNat then s.refuse r 0x08000022 (keyOf key.index.toNat key.sub.toNat)
    else s.writeEntry r key.index.toNat key.sub.toNat v)

/-- WIDE_PART_STAGE: a part above the lowest is staged for its requester (R65). -/
def execWidePartStage (r : Requester) (key : Key) (upperSlot : Bool) (h : Half) (v : U64) (s : State) : Out State :=
  s.guarded (fun s => s.writeHalf r key.index.toNat key.sub.toNat upperSlot h v.toNat)

/-- WIDE_LOWEST_WRITE: the lowest part applies all parts at once (R65). -/
def execWideLowestWrite (r : Requester) (key : Key) (h : Half) (v : U64) (s : State) : Out State :=
  s.guarded (fun s => s.writeHalf r key.index.toNat key.sub.toNat false h v.toNat)

/-- The answer of a read of a part of a slot. -/
def State.answerSlot (s : State) (r : Requester) (index sub : Nat) (upper : Bool) (h : Half) : State :=
  let (t, v) := s.readSlot r index sub upper h
  t.emit (.answer r.code (Val.ofNat v))

/-- SNAPSHOT_LATCH_READ: a read of the lowest part latches the object (R61, R62). -/
def execSnapshotLatchRead (r : Requester) (key : Key) (h : Half) (s : State) : Out State :=
  s.guarded (fun s => s.answerSlot r key.index.toNat key.sub.toNat false h)

/-- SNAPSHOT_PART_READ: another part returns the latched value, or the live one with a miss counted (R61, R63). -/
def execSnapshotPartRead (r : Requester) (key : Key) (upperSlot : Bool) (h : Half) (s : State) : Out State :=
  s.guarded (fun s => s.answerSlot r key.index.toNat key.sub.toNat upperSlot h)

/-- ABSENT_ENTRY_READ: a read of an absent entry returns 0 and is recorded (R53, R55). -/
def execAbsentEntryRead (r : Requester) (key : Key) (s : State) : Out State :=
  s.guarded (fun s =>
    let index := key.index.toNat
    let sub := key.sub.toNat
    let (i, b, upper) := locate (keyOf index sub)
    if (Dict.row i b).isSome then s else s.answerSlot r i b upper .full)

/-- CLEAR_ACCESS_ERRORS: 1 written to 0x2002.06 clears .01-.05 (R98). -/
def execClearAccessErrors (r : Requester) (s : State) : Out State :=
  s.guarded (fun s => s.writeEntry r 0x2002 6 (Val.ofNat 1))

/-! ### Other forms of BAR0 access (R55-R57) -/

/-- BAR0_UNMAPPED_ACCESS: at or above 0x0800_0000 a read returns 0, a write is discarded, and nothing is recorded (R55). -/
def execBar0UnmappedAccess (write : Bool) (offset size : Nat) (s : State) : Out State :=
  s.guarded (fun s =>
    if slotEnd ≤ offset ∧ write = false then s.emit (.answer 1 (.bytes (List.replicate size 0))) else s)

/-- BAR0_MALFORMED_ACCESS: below 0x0800_0000, of a form that neither R56 nor R57 serves. -/
def execBar0MalformedAccess (write : Bool) (offset size : Nat) (s : State) : Out State :=
  s.guarded (fun s => if offset < slotEnd ∧ formOk offset size = false then s.malformed write offset size else s)

/-- BAR0_MULTISLOT_TLP: served slot by slot, or handled whole as a form that is not served (R55-R57). -/
def execBar0MultislotTlp (offset : Nat) (op : TlpOp) (s : State) : Out State :=
  s.guarded (fun s =>
    match op with
    | .read n =>
      if slotEnd ≤ offset then s.emit (.answer 1 (.bytes (List.replicate n 0)))
      else if formOk offset n && decide (offset % 8 = 0) && decide (n % 8 = 0) then
        let (t, bs) := s.readRun (offset / 8) (n / 8)
        t.emit (.answer 1 (.bytes bs))
      else s.malformed false offset n
    | .write vs =>
      if slotEnd ≤ offset then s
      else if formOk offset (8 * vs.length) then s.writeRun (offset / 8) vs
      else s.malformed true offset (8 * vs.length))

end Sys2Proof.Machine
end

