-- ==== Sys2Proof/Machine/FaultEvents.lean ====
section
/-! DEFINITION. FAULT_EVENT: a fault event of any element, with the handling of its class (R620, R621). -/

namespace Sys2Proof.Machine

/-- The parts of an element number: channel, die or port, and the number in it (R623). -/
def elementHigh (e : U64) : Nat := e.toNat / 2 ^ 56
def elementLow (e : U64) : Nat := e.toNat % 2 ^ 56

/-- The slot that a physical slice serves, 64 being the spare; none while it serves none (R192, R194). -/
def State.slotServed (s : State) (c slice : Nat) : Option Nat :=
  if slice = 64 then (if s.num (0x2203 + 16 * c) 1 = 2 then some (s.num (0x2203 + 16 * c) 2) else none)
  else if slice < 64 ∧ s.sliceOf c slice = slice then some slice
  else none

/-- The logical ladle that a physical one carries: cluster g and its position there. -/
def State.ladleAt (s : State) (g pos : Nat) : Option Nat :=
  (upTo 16).findSome? (fun i => if (s.ladle (16 * g + i)).phys = pos then some (16 * g + i) else none)

/-- A sentinel's fault event: it is left out of its die's margin, for good once it is lasting (R611). -/
def State.sentinelFault (s : State) (i : Nat) : State :=
  let s := s.modHea (fun h => { h with excluded := Tab.set (fun _ => false) h.excluded i true })
  let (s, c, lasting) := s.countFault .sentinel (sentinelElement i)
  s.journalFault .sentinel (sentinelElement i) c lasting true

/-- A lane's fault event: it flags the token of the newest sample delivered on its logical lane, which both datapaths take, and a row
group of the frame in pass 2 (R274, R275; DESIGN CHOICE, log entry 25). -/
def State.laneFaultEvent (s : State) (c lane : Nat) : State :=
  match (s.xf c).logical lane with
  | none => s
  | some l =>
    let n := (s.chan c).counter
    let index := if l < n % 16 then n / 16 * 16 + l else n / 16 * 16 + l - 16
    s.laneError c { lane := Fin.ofNat 17 lane, index := index, shared := true } false true

/-- A fault event of an element of a class. An element that the part has not has no events. -/
def State.fault (s : State) (cls : FaultClass) (e : U64) : State :=
  let hi := elementHigh e
  let lo := elementLow e
  match cls with
  | .slice =>
    if hi < 4 then (match s.slotServed hi lo with | some slot => s.sliceFault hi slot none | none => s) else s
  | .comparator => if hi < 4 then s.comparatorFault hi else s
  | .tone => if hi < 4 then s.toneFault hi else s
  | .lane => if hi < 4 ∧ lo ≤ 16 ∧ (s.chan hi).on then s.laneFaultEvent hi lo else s
  | .synth => if lo = 0 then s.synthFault .syna else if lo = 1 then s.synthFault .synb else s
  | .interpolator => if hi ≤ 8 ∧ lo ≤ 1 ∧ !(s.interp hi).retired.contains lo then s.interpFault hi lo else s
  | .ladle =>
    if lo < 272 ∧ hi = lo / 17 / 8 then (match s.ladleAt (lo / 17) (lo % 17) with | some l => s.watchdogEvent l | none => s) else s
  | .engine => if lo < 64 ∧ Tab.get (fun _ => false) s.dma.retired lo = false then s.engineFault lo else s
  | .hbmRow => if e.toNat < hbmBytes then s.rowFault e.toNat 0 else s
  | .drive => if hi < 8 ∧ ((s.drive hi).st = 2 ∨ (s.drive hi).st = 3) then s.driveFault hi else s
  | .sentinel => if hi = lo / 32 ∧ lo < 64 ∧ !s.isLasting .sentinel (sentinelElement lo) then s.sentinelFault lo else s

/-- FAULT_EVENT. -/
def execFaultEvent (cls : FaultClass) (element : U64) (s : State) : Out State := s.guarded (fun s => s.fault cls element)

end Sys2Proof.Machine
end

