-- ==== Sys2Proof/Machine/LadleAlu.lean ====
section
/-! DEFINITION. Ladle instructions that reach registers only: arithmetic, logic, shifts, moves, special registers, accumulators
and the search step (R441-R445, R453). -/

namespace Sys2Proof.Machine

/-! ### Register operations (format R) -/

/-- NOP: no effect. -/
def execNop (l : LadleIx) (st : State) : Out State :=
  st.guarded (fun st => st.alu l (fun _ => (id, [])))

/-- ADD: Dd ← Ds + Dt with NZCV. -/
def execAdd (l : LadleIx) (d s t : DReg) (st : State) : Out State :=
  st.guarded (fun st => st.alu l (fun q =>
    let r := addFlags (q.dr s) (q.dr t)
    (fun q => q.resultNZCV d r, [])))

/-- SUB: Dd ← Ds − Dt with NZCV. -/
def execSub (l : LadleIx) (d s t : DReg) (st : State) : Out State :=
  st.guarded (fun st => st.alu l (fun q =>
    let r := subFlags (q.dr s) (q.dr t)
    (fun q => q.resultNZCV d r, [])))

/-- AND: bitwise, with N and Z. -/
def execAnd (l : LadleIx) (d s t : DReg) (st : State) : Out State :=
  st.guarded (fun st => st.alu l (fun q =>
    let v := q.dr s &&& q.dr t
    (fun q => q.resultNZ d v, [])))

/-- OR: bitwise, with N and Z. -/
def execOr (l : LadleIx) (d s t : DReg) (st : State) : Out State :=
  st.guarded (fun st => st.alu l (fun q =>
    let v := q.dr s ||| q.dr t
    (fun q => q.resultNZ d v, [])))

/-- XOR: bitwise, with N and Z. -/
def execXor (l : LadleIx) (d s t : DReg) (st : State) : Out State :=
  st.guarded (fun st => st.alu l (fun q =>
    let v := q.dr s ^^^ q.dr t
    (fun q => q.resultNZ d v, [])))

/-- SHL: Ds shifted left by Dt[4:0]. -/
def execShl (l : LadleIx) (d s t : DReg) (st : State) : Out State :=
  st.guarded (fun st => st.alu l (fun q =>
    let r := shiftOut .left (q.dr s) ((q.dr t).toNat % 32)
    (fun q => q.resultShift d r, [])))

/-- SHR: Ds shifted logical right by Dt[4:0]. -/
def execShr (l : LadleIx) (d s t : DReg) (st : State) : Out State :=
  st.guarded (fun st => st.alu l (fun q =>
    let r := shiftOut .logical (q.dr s) ((q.dr t).toNat % 32)
    (fun q => q.resultShift d r, [])))

/-- SRA: Ds shifted arithmetic right by Dt[4:0]. -/
def execSra (l : LadleIx) (d s t : DReg) (st : State) : Out State :=
  st.guarded (fun st => st.alu l (fun q =>
    let r := shiftOut .arithmetic (q.dr s) ((q.dr t).toNat % 32)
    (fun q => q.resultShift d r, [])))

/-- ADDS: Ds + Dt, clamped. -/
def execAdds (l : LadleIx) (d s t : DReg) (st : State) : Out State :=
  st.guarded (fun st => st.alu l (fun q =>
    let r := clamp32 ((q.dr s).toInt + (q.dr t).toInt)
    (fun q => q.resultClamped d r, [])))

/-- SUBS: Ds − Dt, clamped. -/
def execSubs (l : LadleIx) (d s t : DReg) (st : State) : Out State :=
  st.guarded (fun st => st.alu l (fun q =>
    let r := clamp32 ((q.dr s).toInt - (q.dr t).toInt)
    (fun q => q.resultClamped d r, [])))

/-- CMP: Ds − Dt, result discarded, with NZCV. -/
def execCmp (l : LadleIx) (s t : DReg) (st : State) : Out State :=
  st.guarded (fun st => st.alu l (fun q =>
    let r := subFlags (q.dr s) (q.dr t)
    (fun q => q.flagsNZCV r.1 r.2.1 r.2.2, [])))

/-- MUL: the chosen halves multiplied; Dd is visible one instruction late (R459). -/
def execMul (l : LadleIx) (d s t : DReg) (u hs ht : Bool) (st : State) : Out State :=
  st.guarded (fun st => st.alu l (fun q =>
    let v := product (q.dr s) (q.dr t) hs ht u false
    (id, [{ reg := .d d, val := bitsOf 32 v, left := 1 }])))

/-! ### Immediates (format I) -/

/-- ADDI: Dd ← Ds + sx(imm18) with NZCV. -/
def execAddi (l : LadleIx) (d s : DReg) (imm : BitVec 18) (st : State) : Out State :=
  st.guarded (fun st => st.alu l (fun q =>
    let r := addFlags (q.dr s) (sx18 imm)
    (fun q => q.resultNZCV d r, [])))

/-- ANDI: bitwise with zx(imm18), with N and Z. -/
def execAndi (l : LadleIx) (d s : DReg) (imm : BitVec 18) (st : State) : Out State :=
  st.guarded (fun st => st.alu l (fun q =>
    let v := q.dr s &&& zx18 imm
    (fun q => q.resultNZ d v, [])))

/-- ORI: bitwise with zx(imm18), with N and Z. -/
def execOri (l : LadleIx) (d s : DReg) (imm : BitVec 18) (st : State) : Out State :=
  st.guarded (fun st => st.alu l (fun q =>
    let v := q.dr s ||| zx18 imm
    (fun q => q.resultNZ d v, [])))

/-- XORI: bitwise with zx(imm18), with N and Z. -/
def execXori (l : LadleIx) (d s : DReg) (imm : BitVec 18) (st : State) : Out State :=
  st.guarded (fun st => st.alu l (fun q =>
    let v := q.dr s ^^^ zx18 imm
    (fun q => q.resultNZ d v, [])))

/-- SHLI: Ds shifted left by imm[4:0]. -/
def execShli (l : LadleIx) (d s : DReg) (imm : BitVec 5) (st : State) : Out State :=
  st.guarded (fun st => st.alu l (fun q =>
    let r := shiftOut .left (q.dr s) imm.toNat
    (fun q => q.resultShift d r, [])))

/-- SHRI: Ds shifted logical right by imm[4:0]. -/
def execShri (l : LadleIx) (d s : DReg) (imm : BitVec 5) (st : State) : Out State :=
  st.guarded (fun st => st.alu l (fun q =>
    let r := shiftOut .logical (q.dr s) imm.toNat
    (fun q => q.resultShift d r, [])))

/-- SRAI: Ds shifted arithmetic right by imm[4:0]. -/
def execSrai (l : LadleIx) (d s : DReg) (imm : BitVec 5) (st : State) : Out State :=
  st.guarded (fun st => st.alu l (fun q =>
    let r := shiftOut .arithmetic (q.dr s) imm.toNat
    (fun q => q.resultShift d r, [])))

/-- CMPI: Ds − sx(imm18) with NZCV. -/
def execCmpi (l : LadleIx) (s : DReg) (imm : BitVec 18) (st : State) : Out State :=
  st.guarded (fun st => st.alu l (fun q =>
    let r := subFlags (q.dr s) (sx18 imm)
    (fun q => q.flagsNZCV r.1 r.2.1 r.2.2, [])))

/-- MOVI: Dd ← sx(imm18). -/
def execMovi (l : LadleIx) (d : DReg) (imm : BitVec 18) (st : State) : Out State :=
  st.guarded (fun st => st.alu l (fun _ => (fun q => q.putD d (sx18 imm), [])))

/-- LIH: Dd[31:16] ← imm16, Dd[15:0] kept. -/
def execLih (l : LadleIx) (d : DReg) (imm : BitVec 16) (st : State) : Out State :=
  st.guarded (fun st => st.alu l (fun q =>
    let v := (imm ++ (q.dr d).setWidth 16 : BitVec 32)
    (fun q => q.putD d v, [])))

/-- MOVA: An ← Ds, visible as an address one instruction late (R459). -/
def execMova (l : LadleIx) (a : AReg) (s : DReg) (st : State) : Out State :=
  st.guarded (fun st => st.alu l (fun q =>
    let v := q.dr s
    (id, [{ reg := .a a, val := v.toNat, left := 1 }])))

/-- ADDA: An ← circ(An, sx(imm18)), visible as an address one instruction late (R446, R459). -/
def execAdda (l : LadleIx) (a : AReg) (imm : BitVec 18) (st : State) : Out State :=
  st.guarded (fun st => st.alu l (fun q =>
    let v := q.circ a (sx18 imm).toInt
    (id, [{ reg := .a a, val := v.toNat, left := 1 }])))

/-- MOVD: Dd ← An. -/
def execMovd (l : LadleIx) (d : DReg) (a : AReg) (st : State) : Out State :=
  st.guarded (fun st => st.alu l (fun q =>
    let v := q.ar a
    (fun q => q.putD d v, [])))

/-! ### Special registers (R438) -/

/-- MFS: Dd ← special; a code absent from R438 is an illegal instruction (R442). -/
def execMfs (l : LadleIx) (d : DReg) (code : BitVec 6) (st : State) : Out State :=
  st.guarded (fun st => st.issue l (specialCode code) false false (fun st =>
    let v := (st.ladle l).special l code.toNat
    st.finish l (fun q => q.putD d v)))

/-- MTS: special ← Ds after its delay; a code absent from R438 is an illegal instruction (R442, R459). -/
def execMts (l : LadleIx) (code : BitVec 6) (s : DReg) (st : State) : Out State :=
  st.guarded (fun st => st.issue l (specialCode code) false false (fun st =>
    st.finish l id (specialWrites code.toNat ((st.ladle l).dr s))))

/-! ### Accumulators (format A) -/

/-- A new value of accumulator k: at once for MAC and MSU, two instructions late for EXT, MFS and AVk (R459). -/
def putAcc (k : Fin 2) (v : BitVec 40) (clamped : Bool) : (Ladle → Ladle) × List PWrite :=
  (fun q => { q with accM := q.accM.set k.val v k.isLt },
    { reg := .accE k, val := v.toNat, left := 2 } :: (if clamped then [{ reg := .av k, val := 1, left := 2 }] else []))

/-- The number of an accumulator. -/
def accNumber (k : Bool) : Fin 2 := if k then 1 else 0

/-- MAC and MSU: ACCk ± p (R444). -/
def Ladle.macc (q : Ladle) (k : Bool) (p : Int) : (Ladle → Ladle) × List PWrite :=
  let n := accNumber k
  let r := accumulate ((q.accM.get n).toInt + p) (q.bit bitSAT)
  putAcc n r.1 r.2

/-- MAC: ACCk ← ACCk + p. -/
def execMac (l : LadleIx) (k : Bool) (s t : DReg) (hs ht u f : Bool) (st : State) : Out State :=
  st.guarded (fun st => st.alu l (fun q =>
    q.macc k (product (q.dr s) (q.dr t) hs ht u f)))

/-- MSU: ACCk ← ACCk − p. -/
def execMsu (l : LadleIx) (k : Bool) (s t : DReg) (hs ht u f : Bool) (st : State) : Out State :=
  st.guarded (fun st => st.alu l (fun q =>
    q.macc k (-product (q.dr s) (q.dr t) hs ht u f)))

/-- MPA: ACCk ← p. -/
def execMpa (l : LadleIx) (k : Bool) (s t : DReg) (hs ht u f : Bool) (st : State) : Out State :=
  st.guarded (fun st => st.alu l (fun q =>
    putAcc (accNumber k) (BitVec.ofInt 40 (product (q.dr s) (q.dr t) hs ht u f)) false))

/-- CLRA: ACCk ← 0. -/
def execClra (l : LadleIx) (k : Bool) (st : State) : Out State :=
  st.guarded (fun st => st.alu l (fun _ =>
    putAcc (accNumber k) 0 false))

/-- EXT: Dd ← ACCk shifted right, rounded and clamped; SV is set when it clamps (R445). A shift above 39 is illegal. -/
def execExt (l : LadleIx) (k : Bool) (d : DReg) (sh : BitVec 6) (r : Bool) (st : State) : Out State :=
  st.guarded (fun st => st.issue l (decide (sh.toNat ≤ 39)) false false (fun st =>
    let v := extract ((st.ladle l).accE.get (accNumber k)) sh.toNat r
    st.finish l (fun q => let q := q.putD d v.1
                          if v.2 then q.setBit bitSV true else q)))

/-! ### The search step (R453) -/

/-- MXV and MXI replaced: at once for MAX and MIN, one instruction late for MFS (R459). -/
def Ladle.search (q : Ladle) (isMax u e : Bool) (s t : DReg) : (Ladle → Ladle) × List PWrite :=
  let x := q.dr s
  let ix := q.dr t
  if replaces isMax u e x q.mxvM then
    (fun q => { q with mxvM := x, mxiM := ix },
      [{ reg := .mxvE, val := x.toNat, left := 1 }, { reg := .mxiE, val := ix.toNat, left := 1 }])
  else (id, [])

/-- MAX: Ds and Dt replace MXV and MXI when Ds is greater. -/
def execMax (l : LadleIx) (s t : DReg) (u e : Bool) (st : State) : Out State :=
  st.guarded (fun st => st.alu l (fun q =>
    q.search true u e s t))

/-- MIN: Ds and Dt replace MXV and MXI when Ds is less. -/
def execMin (l : LadleIx) (s t : DReg) (u e : Bool) (st : State) : Out State :=
  st.guarded (fun st => st.alu l (fun q =>
    q.search false u e s t))

end Sys2Proof.Machine
end

