-- ==== Sys2Proof/Machine/LadleFlow.lean ====
section
/-! DEFINITION. Ladle instructions of flow and control: branches, loops, waits, traps and the return from an exception (R441-R443,
R449-R463). -/

namespace Sys2Proof.Machine

/-! ### Branches (R441, R443) -/

/-- A branch to a target after two delay slots. -/
def Ladle.branchTo (q : Ladle) (target : BitVec 13) : Ladle := { q with branch := some (target, 2) }

/-- A branch instruction completes: it is itself in no delay slot and at no loop end (R460), so the next index follows; then the branch
is pending. -/
def State.branches (s : State) (l : Nat) (target : BitVec 13) (eff : Ladle → Ladle) : State :=
  (s.modLadle l (fun q => (Ladle.retire q eff []).branchTo target)).deliverLost l

/-- B: branches when the condition holds (R443). -/
def execB (l : LadleIx) (cond : BitVec 4) (target : BitVec 13) (st : State) : Out State :=
  st.guarded (fun st => st.issue l true true false (fun st =>
    if (st.ladle l).holds cond then st.branches l target id else st.finish l id))

/-- CALL: D15 takes the index of the instruction after the second delay slot. -/
def execCall (l : LadleIx) (target : BitVec 13) (st : State) : Out State :=
  st.guarded (fun st => st.issue l true true false (fun st =>
    let back : U32 := ((st.ladle l).pc + 3).setWidth 32
    st.branches l target (fun q => q.putD 15 back)))

/-- JR: branches to Ds[12:0]. -/
def execJr (l : LadleIx) (s : DReg) (st : State) : Out State :=
  st.guarded (fun st => st.issue l true true false (fun st => st.branches l (((st.ladle l).dr s).setWidth 13) id))

/-- The fields of ST; its reserved bits hold 0 (R439). -/
def stFields : U32 := 0xF80F00EF

/-- RETI: every earlier write lands, ST ← EST but for its live LK and MB and its reserved bits, and execution resumes at EPC, with a
pending branch when EC.DS is set (R439, R462). -/
def Ladle.returns (q : Ladle) : Ladle :=
  let q := q.settle
  let st := putBit (putBit (q.est &&& stFields) bitLK (q.bit bitLK)) bitMB (q.bit bitMB)
  let slots := q.ec.toNat / 2 ^ 28 % 4
  let ds := q.ec.getLsbD 30
  { q with
    st := st, pc := if ds && slots == 0 then q.ebt else q.epc
    branch := if ds && slots != 0 then some (q.ebt, slots) else none }

/-- RETI (R462). -/
def execReti (l : LadleIx) (st : State) : Out State :=
  st.guarded (fun st => st.issue l true true false (fun st => (st.modLadle l Ladle.returns).deliverLost l))

/-! ### Loops (R449-R452) -/

/-- Whether a loop that ends at e is a loop error (R452): no level is left, or its end is not after it, or is beyond that of the
enclosing level. -/
def Ladle.loopError (q : Ladle) (e : BitVec 13) : Bool :=
  let d := q.depth
  decide (3 ≤ d) || decide (e.toNat ≤ q.pc.toNat)
    || (decide (0 < d) && decide ((q.lpe.get (Fin.ofNat 3 (d - 1))).toNat < e.toNat))

/-- A loop level opens; with a count of 0 none does, and execution continues after the end (R449). -/
def State.opensLoop (s : State) (l : Nat) (e : BitVec 13) (count : U32) : State :=
  let q := s.ladle l
  if q.loopError e then s.exception l 8 0 0
  else
    (s.modLadle l (fun q =>
      let r := Ladle.retire q id []
      if count = 0 then (if (q.branch.map Prod.snd).getD 2 ≤ 1 then r else { r with pc := e + 1 })
      else
        let k : Fin 3 := Fin.ofNat 3 q.depth
        { r.setDepth (q.depth + 1) with
          lps := r.lps.set k.val (q.pc + 1) k.isLt, lpe := r.lpe.set k.val e k.isLt
          lpc := r.lpc.set k.val count k.isLt })).deliverLost l

/-- LOOP: a level with the immediate as its count. -/
def execLoop (l : LadleIx) (endIx count : BitVec 13) (st : State) : Out State :=
  st.guarded (fun st => st.issue l true false true (fun st => st.opensLoop l endIx (count.setWidth 32)))

/-- LOOPR: a level with Ds as its count. -/
def execLoopr (l : LadleIx) (endIx : BitVec 13) (s : DReg) (st : State) : Out State :=
  st.guarded (fun st => st.issue l true false true (fun st => st.opensLoop l endIx ((st.ladle l).dr s)))

/-- The levels that ENDLs on their way will close. -/
def Ladle.closing (q : Ladle) : Nat := (q.writes.filter (fun w => w.reg == .endl)).length

/-- ENDL: LD ← LD − 1 for the loop-end tests three instructions late; with LD = 0 it is a loop error (R451, R452, R459). -/
def execEndl (l : LadleIx) (st : State) : Out State :=
  st.guarded (fun st => st.issue l true false false (fun st =>
    let q := st.ladle l
    if q.depth ≤ q.closing then st.exception l 8 0 0
    else st.finish l id [{ reg := .endl, val := 0, left := 3 }]))

/-! ### Waits (R455) -/

/-- A WAIT that has its ports: Dd takes their mask. -/
def State.wakes (s : State) (l : Nat) (d : DReg) (mask : Nat) : State :=
  (s.modLadle l (fun q => { q.goesOn s.ctl.crystalCount with waitOn := none })).finish l (fun q => q.putD d (BitVec.ofNat 32 mask))

/-- The ports whose input interrupt is pending (R463). -/
def State.interruptPorts (s : State) (l : Nat) : Nat :=
  let q := s.ladle l
  if q.bit bitIE && q.ien.getLsbD 31 then s.portsReady l &&& q.ien.toNat % 16 else 0

/-- WAIT: the wait-for-input of R424 and R432; it returns at once with the ports that have an entry, or with a mask of 0, and else
stops issue (R455). An input interrupt that is pending is taken before the WAIT issues (R463), unless a branch is. -/
def execWait (l : LadleIx) (d : DReg) (mask : BitVec 4) (st : State) : Out State :=
  st.guarded (fun st => st.issue l true false false (fun st =>
    let ports := st.interruptPorts l
    if ports ≠ 0 ∧ (st.ladle l).branch = none then st.exception l 5 ports 0
    else
      let (st, runs) := st.atWait l
      if !runs then st
      else
        let ready := st.portsReady l &&& mask.toNat
        if mask = 0 then st.wakes l d 0
        else if ready ≠ 0 then st.wakes l d ready
        else st.modLadle l (fun q => { q.stands st.ctl.crystalCount with run := .waiting, waitOn := some (d, mask) })))

/-- WAIT_WAKE: an entry has come on a port that is waited for (R455). -/
def execWaitWake (l : LadleIx) (st : State) : Out State :=
  st.guarded (fun st =>
    let q := st.ladle l
    match q.waitOn with
    | none => st
    | some (d, mask) =>
      let ready := st.portsReady l &&& mask.toNat
      if q.run = .waiting ∧ ready ≠ 0 then st.wakes l d ready else st)

/-- KICK: restarts the watchdog count (R427). -/
def execKick (l : LadleIx) (st : State) : Out State :=
  st.guarded (fun st => st.issue l true false false (fun st => st.finish l (fun q => { q with kicked := st.ctl.crystalCount })))

/-! ### Exceptions and interrupts (R442, R461, R463) -/

/-- TRAP: cause 6, resuming at the next instruction. -/
def execTrap (l : LadleIx) (imm : BitVec 16) (st : State) : Out State :=
  st.guarded (fun st => st.issue l true false false (fun st =>
    (st.finish l id).exception l 6 (imm.toNat % 256) imm.toNat))

/-- ILLEGAL_INSTRUCTION: an illegal word or a sequence error is a watchdog event (R427, R442, R460). -/
def execIllegalInstruction (l : LadleIx) (st : State) : Out State :=
  st.guarded (fun st => if (st.ladle l).issues then st.watchdogEvent l else st)

/-- A clean boundary: no delay slot, no delay window of an earlier write, and no instruction in progress; a WAIT that waits always
stands at one (R463). -/
def Ladle.clean (q : Ladle) : Bool :=
  q.held.isNone && q.branch.isNone && (q.run == .waiting || (q.run == .running && q.writes.isEmpty))

/-- INPUT_INTERRUPT: cause 5 at a clean boundary while an interrupt is pending (R463). -/
def execInputInterrupt (l : LadleIx) (st : State) : Out State :=
  st.guarded (fun st =>
    let ports := st.interruptPorts l
    if ports ≠ 0 ∧ (st.ladle l).clean then st.exception l 5 ports 0 else st)

end Sys2Proof.Machine
end

