-- ==== Sys2Proof/Machine/Net.lean ====
section
/-! DEFINITION. Commands of the Ethernet ports, the network streams and the host port (chapter 15). -/

namespace Sys2Proof.Machine

/-- A link loss of an Ethernet port: journalled with emergency 0x8100 and counted (R563). -/
def State.ethLoss (s : State) (p link : Nat) : State :=
  if (s.port p).link = 1 then
    (s.modPort p (fun q => { q with link := link, losses := q.losses + 1 })).report
      { severity := 2, subsys := 17, kind := 9, element := p * 2 ^ 56, code := 0x8100 }
  else s.modPort p (fun q => { q with link := link })

/-- MODULE_POLL: a module that is absent, or that does not advertise the configured mode, leaves the link down with link state
2 or 3 (R563). -/
def execModulePoll (p : Fin 2) (m : ModuleState) (temperature power : BitVec 16) (s : State) : Out State :=
  s.guarded (fun s =>
    let s := s.modPort p (fun q => { q with module' := m != .absent, temperature := temperature.toNat, power := power.toNat })
    match m with
    | .good => s.modPort p (fun q => { q with link := if q.link = 2 ∨ q.link = 3 then 0 else q.link })
    | .absent => s.ethLoss p 2
    | .unsupported => s.ethLoss p 3)

/-- ETH_LINK_UP: the link trains in the configured mode; mode 0 keeps the lanes idle (R562). -/
def execEthLinkUp (p : Fin 2) (s : State) : Out State :=
  s.guarded (fun s =>
    if s.portCfg p 1 ≠ 0 ∧ (s.port p).link ≠ 2 ∧ (s.port p).link ≠ 3 then s.modPort p (fun q => { q with link := 1 }) else s)

/-- ETH_LINK_LOSS: journalled with emergency 0x8100 (R563). -/
def execEthLinkLoss (p : Fin 2) (s : State) : Out State :=
  s.guarded (fun s => if (s.port p).link = 1 then s.ethLoss p 0 else s)

/-- ETH_FRAME_RECEIVED: echo and address-resolution requests are answered; every other frame is discarded and counted, as is
every frame before the port entries are applied (R564, R645). The answer stands as one frame of the request's length. -/
def execEthFrameReceived (p : Fin 2) (rx : EthRx) (bytes : Nat) (fcsBad : Bool) (s : State) : Out State :=
  s.guarded (fun s =>
    if fcsBad || !s.portsApplied || rx == .other then
      s.modPort p (fun q => { q with discarded := (q.discarded + 1) % 2 ^ 32 })
    else
      let kind := match rx with | .arp => 1 | .neighbour => 2 | .echo4 => 3 | .echo6 => 4 | .other => 0
      (s.emit (.frame p (leBytes 1 kind ++ leBytes 2 bytes))).modPort p
        (fun q => { q with sent := q.sent + 1, bytes := q.bytes + bytes }))

/-- PAUSE_RECEIVED: a PFC frame stops its priorities where they are honoured, an IEEE 802.3 PAUSE every queue (R580). -/
def execPauseReceived (p : Fin 2) (pfc : Bool) (mask : Byte) (s : State) : Out State :=
  s.guarded (fun s =>
    let hit := if pfc then mask.toNat &&& s.portCfg p 0x0C else if s.portCfg p 0x0D = 1 then 0xFF else 0
    if s.portsApplied && hit != 0 then
      s.modPort p (fun q => { q with
        paused := q.paused ||| hit
        since := if q.paused = 0 then some s.now else q.since })
    else s)

/-- PAUSE_EXPIRY: the queues resume, and the time paused is added up (R580, 0x2D02 + p.05). -/
def execPauseExpiry (p : Fin 2) (mask : Byte) (s : State) : Out State :=
  s.guarded (fun s =>
    s.modPort p (fun q =>
      let left := q.paused &&& (255 - mask.toNat)
      if left = 0 then
        { q with paused := 0, since := none,
                 pausedNs := q.pausedNs + (match q.since with
                   | some t => t96ToNs (s.now - t)
                   | none => 0) }
      else { q with paused := left }))

/-- The address that a stream resolves: its destination's, or the port's gateway where that lies outside the prefix (R567). -/
def State.nextHop (s : State) (t : Nat) : List Byte :=
  let p := s.netCfg t 1
  if s.netCfg t 3 = 4 then
    let dst := s.netCfg t 5 % 2 ^ 32
    let cut (a : Nat) : Nat := a / 2 ^ (32 - s.portCfg p 4)
    beBytes 4 (if cut dst = cut (s.portCfg p 3) then dst else s.portCfg p 5)
  else
    let dst := s.netCfg t 4 % 2 ^ 64 * 2 ^ 64 + s.netCfg t 5 % 2 ^ 64
    let cut (a : Nat) : Nat := a / 2 ^ (128 - s.portCfg p 8)
    beBytes 16 (if cut dst = cut (s.portCfg p 6 * 2 ^ 64 + s.portCfg p 7) then dst else s.portCfg p 9 * 2 ^ 64 + s.portCfg p 0x0A)

/-- ADDRESS_RESOLUTION_RETRY: the request for an unresolved destination, or for the gateway, goes out, again every 1 s (R567). -/
def execAddressResolutionRetry (t : Fin 32) (s : State) : Out State :=
  s.guarded (fun s =>
    let p := s.netCfg t 1
    let due := ((s.nstream t).asked.map (fun a => s.elapsed a 1000000000)).getD true
    if s.portsApplied && (s.port p).link == 1 && (s.netMac t).isNone && due then
      ((s.modNstream t (fun n => { n with asked := some s.now })).emit (.frame p (s.nextHop t))).modPort p
        (fun q => { q with sent := q.sent + 1, bytes := q.bytes + 64 })
    else s)

/-- ADDRESS_RESOLVED: the destination is known and the stream sends (R567). -/
def execAddressResolved (t : Fin 32) (mac : U64) (s : State) : Out State :=
  s.guarded (fun s => s.modNstream t (fun n => { n with mac := some (mac.toNat % 2 ^ 48) }))

/-- STREAM_PACKET_SEND: a record-format stream sends its next record, header included and unchanged, as fragments, or as many of them
as its rate limit lets go now (R570, R581). -/
def execStreamPacketSend (t : Fin 32) (s : State) : Out State :=
  s.guarded (fun s =>
    match (s.nstream t).queue with
    | [] => s
    | (_, b) :: _ =>
      if s.netCfg t 2 = 0 && s.canSend t then s.sendFragments t b (b.length / 64 + 1) (s.nstream t).fragments else s)

/-- Outputs of one VDIF frame (R571). -/
def State.vdifOutputs (s : State) (t w : Nat) : Nat := s.netCfg t 0x10 / (2 * w)

/-- The samples of the records that wait are taken in; gap records only leave their outputs out (R574). -/
def State.vdifTake (s : State) (t : Nat) : State :=
  (s.nstream t).queue.foldl (fun s (_, b) =>
    if field b 0 1 = 0x11 then
      s.modNstream t (fun n => { n with
        samples := n.samples ++ (List.range (field b 48 4)).map (s.vsample b), records := n.records + 1
        lastSeen := some (field b 32 1, s.ddcRate b, slice b 55 1) })
    else s) s |>.modNstream t (fun n => { n with queue := [] })

/-- VDIF_FRAME_SEND: the next frame is formed from the outputs that start at its instant. Outputs not delivered are sent as
code 0 with the invalid bit; frames none of whose outputs was delivered are not sent and counted (R571-R574). -/
def execVdifFrameSend (t : Fin 32) (s : State) : Out State :=
  s.guarded (fun s =>
    if s.netCfg t 2 = 1 && s.canSend t then
      let s := s.vdifTake t
      let n := s.nstream t
      match n.samples, n.lastSeen with
      | (sec, j, _) :: _, some (c, fo, fmt) =>
        let w := if field fmt 0 1 % 2 = 0 then 2 else 4
        let per := max 1 (s.vdifOutputs t w)
        let fv := fo / per
        let fr := j / per
        let mine := n.samples.takeWhile (fun x => x.1 == sec && x.2.1 / per == fr)
        let complete := decide (mine.length < n.samples.length) || (mine.getLast?.map (fun x => x.2.1 == fr * per + per - 1)).getD false
        if !complete then s
        else
          let got (i : Nat) : Option VSample := (mine.find? (fun x => x.2.1 == fr * per + i)).map (fun x => x.2.2)
          let bad := decide (mine.length < per) || mine.any (fun x => x.2.2.bad) || !s.onGrid c
          let body := (List.range per).flatMap (fun i =>
            match (got i).bind VSample.iq with
            | some (a, b) => leBytes w a ++ leBytes w b
            | none => leBytes w (2 ^ (8 * w - 1)) ++ leBytes w (2 ^ (8 * w - 1)))
          let skipped := match n.lastFrame with
            | some (ls, lf) => (sec * fv + fr) - (ls * fv + lf) - 1
            | none => 0
          let lead := if s.netCfg t 0x11 = 1 then leBytes 8 n.vseq else []
          let s := s.sendUdp t (lead ++ s.vdifHeader t sec fr w bad ++ body)
          s.modNstream t (fun n => { n with
            samples := n.samples.drop mine.length
            lastFrame := some (sec, fr)
            vseq := n.vseq + 1
            badFrames := if bad then n.badFrames + 1 else n.badFrames
            unsent := n.unsent + skipped }) |>.netTake t
      | _, _ => s
    else s)

/-- A context packet ahead of a data packet (R578). -/
def State.sendContext (s : State) (t : Nat) (b : List Byte) (changed loss : Bool) : State :=
  let body := s.vitaContext b loss
  let cif := (if changed then 2 ^ 31 else 0) + 2 ^ 29 + 2 ^ 27 + 2 ^ 21 + 2 ^ 19 + 2 ^ 15
  let tail := s.vitaIds t (field b 0 1) ++ s.vitaTime t b ++ beBytes 4 cif ++ body
  (s.sendUdp t (s.vitaHeader t 4 0 (s.nstream t).ccount ((4 + tail.length) / 4) ++ tail)).modNstream t
    (fun n => { n with ccount := n.ccount + 1, contexts := n.contexts + 1, sinceCtx := 0 })

/-- VITA_DATA_PACKET: the next record becomes one signal data packet, preceded by a context packet before the first one,
when pour, type or geometry changes, and after every .15 data packets (R575-R578); behind the context packet the data packet waits
where the rate limit says so (R581). Gap records only set the sample-loss
indicator of the next packet. -/
def execVitaDataPacket (t : Fin 32) (s : State) : Out State :=
  s.guarded (fun s =>
    match (s.nstream t).queue with
    | [] => s
    | (rn, b) :: rest =>
      if s.netCfg t 2 = 2 && s.canSend t then
        let n := s.nstream t
        let typ := field b 0 1
        if typ = 0x01 then s.modNstream t (fun n => { n with queue := rest, gapIn := rn :: n.gapIn.filter (· != rn) })
        else
          let v := VitaRec.of b
          let loss := n.gapIn.contains rn
          let seen := (field b 16 4, typ, v.geom)
          let changed := n.lastSeen != some seen
          let s := if changed || decide (s.netCfg t 0x15 ≤ n.sinceCtx) then
            (s.sendContext t b changed loss).modNstream t (fun n => { n with lastSeen := some seen }) else s
          if !s.spaced t then s
          else
          let data := swapItems v.width (v.data.length + 1) v.data
          let payload := beBytes 4 (field b 16 4) ++ beBytes 4 (field b 36 4) ++ beBytes 8 v.first
            ++ padTo (ceilTo 4 data.length) data
          let trailer := beBytes 4 (0xFF000000 + s.indicators b loss)
          let tail := s.vitaIds t typ ++ s.vitaTime t b ++ payload ++ trailer
          let s := s.sendUdp t (s.vitaHeader t 1 1 n.vcount ((4 + tail.length) / 4) ++ tail)
          s.modNstream t (fun n => { n with
            queue := rest, vcount := n.vcount + 1, sinceCtx := n.sinceCtx + 1, lastSeen := some seen
            gapIn := n.gapIn.filter (· != rn), records := n.records + 1 })
      else s)

/-- A function-level reset or a loss of the host link (R589): runners with a ring or write-back area in host memory stop and
abandon their transfers without status; the translation cache and the page requests are emptied; emergency 0x8100. -/
def State.hostReset (s : State) : State :=
  let ns := (s.dma.runners.filter (fun (_, r) =>
    (r.kind == 2 && isHost r.base) || (r.kind == 1 && r.dest == 1) || r.wbAddr != 0)).map Prod.fst
  let s := ns.foldl (fun s n => (if (s.runner n).xfer.isSome then s.engineTo (s.runner n).engineNow 0 else s).modRunner n (fun r => { r with
    state := .stopped, xfer := none, fwdDone := 0, fwdParked := none })) s
  let touches (x : Xfer) : Bool := isHost x.src || isHost x.dst || x.elements.any (fun p => isHost p.1)
  let clear (r : Runner) : Runner :=
    if (r.xfer.map touches).getD false then { r with xfer := Option.none, state := if r.state = .waitingPage then .active else r.state }
    else r
  let s := { s with dma := { s.dma with
    atc := [], invalidating := [], runners := s.dma.runners.map (fun (q : Nat × Runner) => (q.1, clear q.2)), inFlight := 0 } }
  s.report { severity := 2, subsys := 18, kind := 9, code := 0x8100 }

/-- FUNCTION_LEVEL_RESET (R589). -/
def execFunctionLevelReset (s : State) : Out State :=
  s.guarded (fun s => State.hostReset { s with net := { s.net with flrs := s.net.flrs + 1 } })

/-- HOST_LINK_LOSS: as a function-level reset; the link is down (R589, R637). -/
def execHostLinkLoss (s : State) : Out State :=
  s.guarded (fun s => State.hostReset { s with net := { s.net with
    hostLosses := s.net.hostLosses + 1, hostUp := false, hostLink := 0, flit := false } })

/-- HOST_LINK_UP: the HOST link has trained (R583, 0x2D80.02, .03). -/
def execHostLinkUp (gen log2width : Byte) (flit : Bool) (s : State) : Out State :=
  s.guarded (fun s => { s with net := { s.net with
    hostUp := true, hostLink := (gen.toNat % 16) * 16 + log2width.toNat % 16, flit := flit } })

end Sys2Proof.Machine
end

