-- ==== Sys2Proof/Machine/Periodic.lean ====
section
/-! DEFINITION. PERIODIC_SNAPSHOT_UPDATE: the groups that show a state on a fixed period, each with its sequence counter in sub 1
(R64, R436, R495, R534, R561, R592). -/

namespace Sys2Proof.Machine

/-- Values put in consecutive sub-indices from `sub` on. -/
def State.putFrom (s : State) (index sub : Nat) : List Nat → State
  | [] => s
  | v :: rest => (s.put index sub v).putFrom index (sub + 1) rest

/-- Cluster g's ladles. -/
def clusterLadles (g : Nat) : List Nat := (upTo 16).map (16 * g + ·)

/-- 0x29g8: states and applied pours. -/
def State.updateLadleStatus (s : State) (g : Nat) : State :=
  let s := s.putFrom (0x2908 + 16 * g) 2 ((clusterLadles g).map (fun l => (s.ladle l).run.code))
  s.putFrom (0x2908 + 16 * g) 0x12 ((clusterLadles g).map (fun l => (s.pourOf (ladleBlock l)).toNat))

/-- 0x29gA: watchdog events, entries discarded, publishes dropped. -/
def State.updateLadleCounters (s : State) (g : Nat) : State :=
  let s := s.putFrom (0x290A + 16 * g) 2 ((clusterLadles g).map (fun l => (s.ladle l).events))
  let s := s.putFrom (0x290A + 16 * g) 0x12 ((clusterLadles g).map (fun l => (s.ladle l).discards))
  s.putFrom (0x290A + 16 * g) 0x22 ((clusterLadles g).map (fun l => (s.ladle l).dropped))

/-- The state of an event input: failed once both interpolators have retired (R473, R495). -/
def State.eventState (s : State) (n : Nat) : Nat :=
  let p := s.interp n
  if !(s.evt n).on then 0
  else if 2 ≤ p.retired.length then 4
  else if s.stale n then 3
  else if (if p.active = 0 then p.i0.isSome else p.i1.isSome) then 2
  else 1

/-- 0x2A01 + 16 n. -/
def State.updateEvent (s : State) (n : Nat) : State :=
  let e := s.evt n
  s.putFrom (0x2A01 + 16 * n) 2
    [e.delivered, e.missAll, e.discAll, e.ignored, s.eventState n, (s.interp n).active, e.faults]

/-- 0x2A81. -/
def State.updateGate (s : State) : State :=
  let q := s.tiu
  ((((s.put 0x2A81 2 q.window.toNat).put 0x2A81 3 (if q.gateOpen then 1 else 0)).put 0x2A81 4 q.openT.toNat).put 0x2A81 6
    q.closedT.toNat).put 0x2A81 8 q.ignored

/-- Engines in service. -/
def State.enginesUp (s : State) : Nat := 64 - (s.dma.retired.filter (fun e => e.2)).length

/-- 0x2B08. -/
def State.updateEngine (s : State) : State :=
  let d := s.dma
  let parked := (upTo 64).foldl (fun a e => a + s.parkedOn e) 0
  s.putFrom 0x2B08 2 [d.inFlight, d.peak, d.pageReqs, d.pageFails, d.pageTimeouts, s.enginesUp, parked, d.faultEvents]

/-- Bytes in the data zones of the drives in service that meet `p`. -/
def State.zoneBytes (s : State) (p : Zone → Bool) : Nat :=
  s.inService.foldl (fun a d =>
    let q := s.drive d
    a + (q.dataZones.filter (fun z => p (q.zone z))).length * (q.info.map (fun i => i.zoneCapacity)).getD 0) 0

/-- A bit mask of numbers. -/
def maskOf (l : List Nat) : Nat := l.foldl (fun a d => a ||| 2 ^ d) 0

/-- 0x2C01. -/
def State.updateStore (s : State) : State :=
  let t := s.sto
  s.putFrom 0x2C01 2 [maskOf s.inService, maskOf s.journalDrives, s.zoneBytes (fun _ => true), s.zoneBytes (fun z => z.cond == 0),
    t.lost, t.unavailable, t.recovered, t.retiredZones, t.result]

/-- 0x2C08 + d. -/
def State.updateDrive (s : State) (d : Nat) : State :=
  let q := s.drive d
  s.putFrom (0x2C08 + d) 2 [q.st, q.link, (q.info.map (fun i => i.zoneCapacity)).getD 0, q.used, q.spare, q.media, q.appended,
    q.faults, (q.info.map (fun i => i.activeLimit.toNat)).getD 0]

/-- 0x2C40 + n. -/
def State.updateStream (s : State) (n : Nat) : State :=
  let r := s.rstream n
  let i := 0x2C40 + n
  let last := ((s.newestCommitted n).bind Chunk.lastEnd).getD (0, 0)
  ((s.putFrom i 2 [r.st, r.session, r.next, r.bytes, last.1]).put i 7 (s.oldestTime n).toNat).put i 9 last.2.toNat

/-- 0x2C68 + r. -/
def State.updateReplay (s : State) (r : Nat) : State :=
  let q := s.replay r
  s.putFrom (0x2C68 + r) 2 [q.st, q.delivered, q.notices, q.chunk]

/-- 0x2D02 + p. The codewords that the link's FEC has corrected, and those it could not correct, are the link's own: open values. -/
def State.updatePort (s : State) (p : Nat) : State :=
  let q := s.port p
  let more := match q.since with
    | some t => (unitsToNs (t96Diff s.now t)).toNat
    | none => 0
  let a := s.fresh
  let s := s.drew
  let b := s.fresh
  s.drew.putFrom (0x2D02 + p) 2 [q.link, q.sent, q.bytes, q.pausedNs + more, q.losses, q.discarded, a % 2 ^ 64, b % 2 ^ 32]

/-- The state of a network stream: off while no runner feeds it (R592). -/
def State.netState (s : State) (t : Nat) : Nat :=
  let p := s.netCfg t 1
  if !s.dma.runners.any (fun q => q.2.kind == 1 && (q.2.dest == 2 || q.2.dest == 3) && q.2.handle.toNat == t) then 0
  else if (s.port p).link ≠ 1 then 3
  else if (s.port p).paused.testBit (s.netQueue t) then 4
  else if (s.netMac t).isNone then 2
  else 1

/-- 0x2D30 + t. -/
def State.updateNet (s : State) (t : Nat) : State :=
  let n := s.nstream t
  s.putFrom (0x2D30 + t) 2 [s.netState t, n.packets, n.records, n.badFrames, n.unsent, n.contexts]

/-- 0x2D80. -/
def State.updateHost (s : State) : State :=
  let n := s.net
  s.putFrom 0x2D80 2 [n.hostLink, if n.flit then 1 else 0, n.flrs, n.hostLosses, n.timeouts, n.urca, n.invalidations]

/-- A group's index. -/
def PeriodicGroup.index : PeriodicGroup → Nat
  | .ladleStatus g => 0x2908 + 16 * g
  | .ladleCounters g => 0x290A + 16 * g
  | .event n => 0x2A01 + 16 * n
  | .gate => 0x2A81
  | .engine => 0x2B08
  | .storeStatus => 0x2C01
  | .drive d => 0x2C08 + d
  | .stream n => 0x2C40 + n
  | .replay r => 0x2C68 + r
  | .port p => 0x2D02 + p
  | .netStream t => 0x2D30 + t
  | .hostPort => 0x2D80

/-- A group's contents refreshed. -/
def State.updateGroup (s : State) : PeriodicGroup → State
  | .ladleStatus g => s.updateLadleStatus g
  | .ladleCounters g => s.updateLadleCounters g
  | .event n => s.updateEvent n
  | .gate => s.updateGate
  | .engine => s.updateEngine
  | .storeStatus => s.updateStore
  | .drive d => s.updateDrive d
  | .stream n => s.updateStream n
  | .replay r => s.updateReplay r
  | .port p => s.updatePort p
  | .netStream t => s.updateNet t
  | .hostPort => s.updateHost

/-- PERIODIC_SNAPSHOT_UPDATE: contents and sequence counter in one step (R64). -/
def execPeriodicSnapshotUpdate (group : PeriodicGroup) (s : State) : Out State :=
  s.guarded (fun s => (s.updateGroup group).bump (PeriodicGroup.index group) 1)

end Sys2Proof.Machine
end

