-- ==== Sys2Proof/Machine/Dispatch.lean ====
section
/-! DEFINITION. The meaning of every command: one arm per row of spec/opcode_table.json. -/

namespace Sys2Proof.Machine

/-- The effect of a command on everything but the queue. -/
def exec (i : Instr) (s : State) : Host.Outcome State Fault Refusal :=
  match i with
  | .powerOnReset x0 => Sys2Proof.Machine.execPowerOnReset x0 s
  | .pinReset x0 => Sys2Proof.Machine.execPinReset x0 s
  | .resetRelease => Sys2Proof.Machine.execResetRelease s
  | .crystalStable => Sys2Proof.Machine.execCrystalStable s
  | .firmwareRunning => Sys2Proof.Machine.execFirmwareRunning s
  | .synthInitialLock => Sys2Proof.Machine.execSynthInitialLock s
  | .hbmInitComplete x0 => Sys2Proof.Machine.execHbmInitComplete x0 s
  | .dictionaryReady => Sys2Proof.Machine.execDictionaryReady s
  | .pcieConfigRequest => Sys2Proof.Machine.execPcieConfigRequest s
  | .bootRestart x0 => Sys2Proof.Machine.execBootRestart x0 s
  | .requestInit x0 => Sys2Proof.Machine.execRequestInit x0 s
  | .requestPreop x0 => Sys2Proof.Machine.execRequestPreop x0 s
  | .requestBoot x0 => Sys2Proof.Machine.execRequestBoot x0 s
  | .requestSafeop x0 => Sys2Proof.Machine.execRequestSafeop x0 s
  | .dataPathStart => Sys2Proof.Machine.execDataPathStart s
  | .requestOp x0 => Sys2Proof.Machine.execRequestOp x0 s
  | .blockStateStop x0 => Sys2Proof.Machine.execBlockStateStop x0 s
  | .sm2WatchdogExpiry => Sys2Proof.Machine.execSm2WatchdogExpiry s
  | .rxpdoCycle x0 => Sys2Proof.Machine.execRxpdoCycle x0 s
  | .txpdoCycle => Sys2Proof.Machine.execTxpdoCycle s
  | .dcSync0 x0 => Sys2Proof.Machine.execDcSync0 x0 s
  | .siiRead x0 => Sys2Proof.Machine.execSiiRead x0 s
  | .sdoUpload x0 x1 x2 => Sys2Proof.Machine.execSdoUpload x0 x1 x2 s
  | .sdoDownload x0 x1 x2 x3 => Sys2Proof.Machine.execSdoDownload x0 x1 x2 x3 s
  | .sdoInformation x0 x1 => Sys2Proof.Machine.execSdoInformation x0 x1 s
  | .foeFirmwareDownload x0 => Sys2Proof.Machine.execFoeFirmwareDownload x0 s
  | .registerWrite x0 x1 x2 => Sys2Proof.Machine.execRegisterWrite x0 x1 x2 s
  | .widePartStage x0 x1 x2 x3 x4 => Sys2Proof.Machine.execWidePartStage x0 x1 x2 x3 x4 s
  | .wideLowestWrite x0 x1 x2 x3 => Sys2Proof.Machine.execWideLowestWrite x0 x1 x2 x3 s
  | .snapshotLatchRead x0 x1 x2 => Sys2Proof.Machine.execSnapshotLatchRead x0 x1 x2 s
  | .snapshotPartRead x0 x1 x2 x3 => Sys2Proof.Machine.execSnapshotPartRead x0 x1 x2 x3 s
  | .bar0UnmappedAccess x0 x1 x2 => Sys2Proof.Machine.execBar0UnmappedAccess x0 x1 x2 s
  | .bar0MalformedAccess x0 x1 x2 => Sys2Proof.Machine.execBar0MalformedAccess x0 x1 x2 s
  | .bar0MultislotTlp x0 x1 => Sys2Proof.Machine.execBar0MultislotTlp x0 x1 s
  | .clearAccessErrors x0 => Sys2Proof.Machine.execClearAccessErrors x0 s
  | .mailboxDoorbell => Sys2Proof.Machine.execMailboxDoorbell s
  | .mailboxResponseComplete => Sys2Proof.Machine.execMailboxResponseComplete s
  | .commitExecute x0 => Sys2Proof.Machine.execCommitExecute x0 s
  | .commitToggle x0 x1 => Sys2Proof.Machine.execCommitToggle x0 x1 s
  | .commitValidationEnd => Sys2Proof.Machine.execCommitValidationEnd s
  | .pourBecomesCurrent => Sys2Proof.Machine.execPourBecomesCurrent s
  | .blockPourSwitch x0 x1 x2 => Sys2Proof.Machine.execBlockPourSwitch x0 x1 x2 s
  | .discardPending x0 => Sys2Proof.Machine.execDiscardPending x0 s
  | .pendingQuery x0 x1 => Sys2Proof.Machine.execPendingQuery x0 x1 s
  | .emergencyRead => Sys2Proof.Machine.execEmergencyRead s
  | .emergencyMailboxRead => Sys2Proof.Machine.execEmergencyMailboxRead s
  | .firmwareImageWrite x0 => Sys2Proof.Machine.execFirmwareImageWrite x0 s
  | .firmwareVerifyComplete => Sys2Proof.Machine.execFirmwareVerifyComplete s
  | .jtagBoundaryScan x0 => Sys2Proof.Machine.execJtagBoundaryScan x0 s
  | .refinQualified x0 x1 => Sys2Proof.Machine.execRefinQualified x0 x1 s
  | .refinLoss => Sys2Proof.Machine.execRefinLoss s
  | .returnToRefin x0 => Sys2Proof.Machine.execReturnToRefin x0 s
  | .returnModeWrite x0 x1 => Sys2Proof.Machine.execReturnModeWrite x0 x1 s
  | .synthLossOfLock x0 => Sys2Proof.Machine.execSynthLossOfLock x0 s
  | .referenceEventRestart => Sys2Proof.Machine.execReferenceEventRestart s
  | .trimWrite x0 x1 => Sys2Proof.Machine.execTrimWrite x0 x1 s
  | .retuneStart => Sys2Proof.Machine.execRetuneStart s
  | .retuneAcquired => Sys2Proof.Machine.execRetuneAcquired s
  | .alignRampStep x0 => Sys2Proof.Machine.execAlignRampStep x0 s
  | .clkoutEnable x0 x1 => Sys2Proof.Machine.execClkoutEnable x0 x1 s
  | .clkoutDisable x0 x1 => Sys2Proof.Machine.execClkoutDisable x0 x1 s
  | .ppsinEdge x0 x1 => Sys2Proof.Machine.execPpsinEdge x0 x1 s
  | .ppsinLoss => Sys2Proof.Machine.execPpsinLoss s
  | .timeSourceLoss => Sys2Proof.Machine.execTimeSourceLoss s
  | .holdoverLimitExpiry => Sys2Proof.Machine.execHoldoverLimitExpiry s
  | .ppsSecondWrite x0 x1 => Sys2Proof.Machine.execPpsSecondWrite x0 x1 s
  | .setTimeWrite x0 x1 => Sys2Proof.Machine.execSetTimeWrite x0 x1 s
  | .ptpSyncReceived x0 x1 x2 x3 x4 => Sys2Proof.Machine.execPtpSyncReceived x0 x1 x2 x3 x4 s
  | .ptpAnnounceReceived x0 x1 x2 => Sys2Proof.Machine.execPtpAnnounceReceived x0 x1 x2 s
  | .ptpDelayResponse x0 x1 x2 x3 x4 x5 x6 => Sys2Proof.Machine.execPtpDelayResponse x0 x1 x2 x3 x4 x5 x6 s
  | .syncAlign x0 => Sys2Proof.Machine.execSyncAlign x0 s
  | .syncAlignComplete x0 => Sys2Proof.Machine.execSyncAlignComplete x0 s
  | .syncinEdge x0 => Sys2Proof.Machine.execSyncinEdge x0 s
  | .syncoutPulse x0 => Sys2Proof.Machine.execSyncoutPulse x0 s
  | .overloadExcursion x0 x1 x2 x3 x4 x5 x6 => Sys2Proof.Machine.execOverloadExcursion x0 x1 x2 x3 x4 x5 x6 s
  | .conditionerFrame x0 x1 => Sys2Proof.Machine.execConditionerFrame x0 x1 s
  | .converterRiserWarning x0 => Sys2Proof.Machine.execConverterRiserWarning x0 s
  | .converterRiserOverflow x0 => Sys2Proof.Machine.execConverterRiserOverflow x0 s
  | .converterRiserResume x0 x1 => Sys2Proof.Machine.execConverterRiserResume x0 x1 s
  | .bgCalWindowStart x0 => Sys2Proof.Machine.execBgCalWindowStart x0 s
  | .bgCalWindowEnd x0 x1 x2 => Sys2Proof.Machine.execBgCalWindowEnd x0 x1 x2 s
  | .bgCalEstimateApply x0 => Sys2Proof.Machine.execBgCalEstimateApply x0 s
  | .fgCalStart x0 => Sys2Proof.Machine.execFgCalStart x0 s
  | .fgCalSettled x0 x1 => Sys2Proof.Machine.execFgCalSettled x0 x1 s
  | .fgCalWindowEnd x0 x1 => Sys2Proof.Machine.execFgCalWindowEnd x0 x1 s
  | .fgCalComplete x0 x1 => Sys2Proof.Machine.execFgCalComplete x0 x1 s
  | .fgCalResume x0 => Sys2Proof.Machine.execFgCalResume x0 s
  | .calSetImport x0 x1 x2 => Sys2Proof.Machine.execCalSetImport x0 x1 x2 s
  | .sliceSpareTakeover x0 => Sys2Proof.Machine.execSliceSpareTakeover x0 s
  | .comparatorSpareTakeover x0 => Sys2Proof.Machine.execComparatorSpareTakeover x0 s
  | .ddcOutput x0 x1 => Sys2Proof.Machine.execDdcOutput x0 x1 s
  | .ddcSyncReset x0 x1 => Sys2Proof.Machine.execDdcSyncReset x0 x1 s
  | .ddcFadeStart x0 x1 => Sys2Proof.Machine.execDdcFadeStart x0 x1 s
  | .ddcFadeEnd x0 x1 => Sys2Proof.Machine.execDdcFadeEnd x0 x1 s
  | .ddcBankWrite x0 x1 x2 x3 x4 => Sys2Proof.Machine.execDdcBankWrite x0 x1 x2 x3 x4 s
  | .mainFrame x0 x1 x2 => Sys2Proof.Machine.execMainFrame x0 x1 x2 s
  | .pass2Start x0 x1 => Sys2Proof.Machine.execPass2Start x0 x1 s
  | .twoPassFrameComplete x0 x1 => Sys2Proof.Machine.execTwoPassFrameComplete x0 x1 s
  | .sideFrame x0 x1 x2 => Sys2Proof.Machine.execSideFrame x0 x1 x2 s
  | .laneSpareTakeover x0 => Sys2Proof.Machine.execLaneSpareTakeover x0 s
  | .twoPassStopped x0 => Sys2Proof.Machine.execTwoPassStopped x0 s
  | .twoPassResume x0 => Sys2Proof.Machine.execTwoPassResume x0 s
  | .transformBankWrite x0 x1 x2 => Sys2Proof.Machine.execTransformBankWrite x0 x1 x2 s
  | .triggerEvaluation x0 => Sys2Proof.Machine.execTriggerEvaluation x0 s
  | .triggerQualifierResolved x0 => Sys2Proof.Machine.execTriggerQualifierResolved x0 s
  | .triggerSequenceResolved x0 => Sys2Proof.Machine.execTriggerSequenceResolved x0 s
  | .monPulseStart x0 => Sys2Proof.Machine.execMonPulseStart x0 s
  | .monPulseEnd x0 => Sys2Proof.Machine.execMonPulseEnd x0 s
  | .densityAccumulate x0 => Sys2Proof.Machine.execDensityAccumulate x0 s
  | .densityPeriodBoundary x0 => Sys2Proof.Machine.execDensityPeriodBoundary x0 s
  | .densityDrainComplete x0 => Sys2Proof.Machine.execDensityDrainComplete x0 s
  | .densityClear x0 x1 => Sys2Proof.Machine.execDensityClear x0 x1 s
  | .densityRestart x0 => Sys2Proof.Machine.execDensityRestart x0 s
  | .reductionFrame x0 x1 => Sys2Proof.Machine.execReductionFrame x0 x1 s
  | .captureArm x0 x1 => Sys2Proof.Machine.execCaptureArm x0 x1 s
  | .captureStop x0 x1 => Sys2Proof.Machine.execCaptureStop x0 x1 s
  | .captureAbort x0 x1 => Sys2Proof.Machine.execCaptureAbort x0 x1 s
  | .captureForceTrigger x0 x1 => Sys2Proof.Machine.execCaptureForceTrigger x0 x1 s
  | .captureRelease x0 x1 x2 => Sys2Proof.Machine.execCaptureRelease x0 x1 x2 s
  | .captureDecision x0 => Sys2Proof.Machine.execCaptureDecision x0 s
  | .segmentClose x0 => Sys2Proof.Machine.execSegmentClose x0 s
  | .tableCycleStart => Sys2Proof.Machine.execTableCycleStart s
  | .hbmBurst x0 x1 x2 => Sys2Proof.Machine.execHbmBurst x0 x1 x2 s
  | .hbmWriteRiserOverflow x0 x1 => Sys2Proof.Machine.execHbmWriteRiserOverflow x0 x1 s
  | .refreshDue x0 x1 => Sys2Proof.Machine.execRefreshDue x0 x1 s
  | .refreshReserveSlot => Sys2Proof.Machine.execRefreshReserveSlot s
  | .trainingWindowStart x0 x1 => Sys2Proof.Machine.execTrainingWindowStart x0 x1 s
  | .trainingWindowEnd x0 => Sys2Proof.Machine.execTrainingWindowEnd x0 s
  | .patrolScrubRead x0 x1 => Sys2Proof.Machine.execPatrolScrubRead x0 x1 s
  | .hbmFreqStepRequest x0 => Sys2Proof.Machine.execHbmFreqStepRequest x0 s
  | .hbmFreqSwitch => Sys2Proof.Machine.execHbmFreqSwitch s
  | .hbmFreqStepComplete => Sys2Proof.Machine.execHbmFreqStepComplete s
  | .sramWake x0 => Sys2Proof.Machine.execSramWake x0 s
  | .arbiterGrant x0 x1 x2 x3 => Sys2Proof.Machine.execArbiterGrant x0 x1 x2 x3 s
  | .ladleRequestWithdraw x0 x1 => Sys2Proof.Machine.execLadleRequestWithdraw x0 x1 s
  | .freezeMaskWrite x0 x1 x2 => Sys2Proof.Machine.execFreezeMaskWrite x0 x1 x2 s
  | .lockWatchdogExpiry x0 => Sys2Proof.Machine.execLockWatchdogExpiry x0 s
  | .tapEntryDelivery x0 x1 => Sys2Proof.Machine.execTapEntryDelivery x0 x1 s
  | .ladleImageWrite x0 x1 x2 => Sys2Proof.Machine.execLadleImageWrite x0 x1 x2 s
  | .ladleWatchdogExpiry x0 => Sys2Proof.Machine.execLadleWatchdogExpiry x0 s
  | .ladleRestartComplete x0 => Sys2Proof.Machine.execLadleRestartComplete x0 s
  | .ladlePause x0 => Sys2Proof.Machine.execLadlePause x0 s
  | .nop x0 => Sys2Proof.Machine.execNop x0 s
  | .add x0 x1 x2 x3 => Sys2Proof.Machine.execAdd x0 x1 x2 x3 s
  | .sub x0 x1 x2 x3 => Sys2Proof.Machine.execSub x0 x1 x2 x3 s
  | .and x0 x1 x2 x3 => Sys2Proof.Machine.execAnd x0 x1 x2 x3 s
  | .or x0 x1 x2 x3 => Sys2Proof.Machine.execOr x0 x1 x2 x3 s
  | .xor x0 x1 x2 x3 => Sys2Proof.Machine.execXor x0 x1 x2 x3 s
  | .shl x0 x1 x2 x3 => Sys2Proof.Machine.execShl x0 x1 x2 x3 s
  | .shr x0 x1 x2 x3 => Sys2Proof.Machine.execShr x0 x1 x2 x3 s
  | .sra x0 x1 x2 x3 => Sys2Proof.Machine.execSra x0 x1 x2 x3 s
  | .adds x0 x1 x2 x3 => Sys2Proof.Machine.execAdds x0 x1 x2 x3 s
  | .subs x0 x1 x2 x3 => Sys2Proof.Machine.execSubs x0 x1 x2 x3 s
  | .cmp x0 x1 x2 => Sys2Proof.Machine.execCmp x0 x1 x2 s
  | .mul x0 x1 x2 x3 x4 x5 x6 => Sys2Proof.Machine.execMul x0 x1 x2 x3 x4 x5 x6 s
  | .addi x0 x1 x2 x3 => Sys2Proof.Machine.execAddi x0 x1 x2 x3 s
  | .andi x0 x1 x2 x3 => Sys2Proof.Machine.execAndi x0 x1 x2 x3 s
  | .ori x0 x1 x2 x3 => Sys2Proof.Machine.execOri x0 x1 x2 x3 s
  | .xori x0 x1 x2 x3 => Sys2Proof.Machine.execXori x0 x1 x2 x3 s
  | .shli x0 x1 x2 x3 => Sys2Proof.Machine.execShli x0 x1 x2 x3 s
  | .shri x0 x1 x2 x3 => Sys2Proof.Machine.execShri x0 x1 x2 x3 s
  | .srai x0 x1 x2 x3 => Sys2Proof.Machine.execSrai x0 x1 x2 x3 s
  | .cmpi x0 x1 x2 => Sys2Proof.Machine.execCmpi x0 x1 x2 s
  | .movi x0 x1 x2 => Sys2Proof.Machine.execMovi x0 x1 x2 s
  | .lih x0 x1 x2 => Sys2Proof.Machine.execLih x0 x1 x2 s
  | .mova x0 x1 x2 => Sys2Proof.Machine.execMova x0 x1 x2 s
  | .adda x0 x1 x2 => Sys2Proof.Machine.execAdda x0 x1 x2 s
  | .movd x0 x1 x2 => Sys2Proof.Machine.execMovd x0 x1 x2 s
  | .mfs x0 x1 x2 => Sys2Proof.Machine.execMfs x0 x1 x2 s
  | .mts x0 x1 x2 => Sys2Proof.Machine.execMts x0 x1 x2 s
  | .mac x0 x1 x2 x3 x4 x5 x6 x7 => Sys2Proof.Machine.execMac x0 x1 x2 x3 x4 x5 x6 x7 s
  | .msu x0 x1 x2 x3 x4 x5 x6 x7 => Sys2Proof.Machine.execMsu x0 x1 x2 x3 x4 x5 x6 x7 s
  | .mpa x0 x1 x2 x3 x4 x5 x6 x7 => Sys2Proof.Machine.execMpa x0 x1 x2 x3 x4 x5 x6 x7 s
  | .clra x0 x1 => Sys2Proof.Machine.execClra x0 x1 s
  | .ext x0 x1 x2 x3 x4 => Sys2Proof.Machine.execExt x0 x1 x2 x3 x4 s
  | .ld x0 x1 x2 => Sys2Proof.Machine.execLd x0 x1 x2 s
  | .sd x0 x1 => Sys2Proof.Machine.execSd x0 x1 s
  | .xf x0 x1 x2 x3 x4 x5 x6 => Sys2Proof.Machine.execXf x0 x1 x2 x3 x4 x5 x6 s
  | .max x0 x1 x2 x3 x4 => Sys2Proof.Machine.execMax x0 x1 x2 x3 x4 s
  | .min x0 x1 x2 x3 x4 => Sys2Proof.Machine.execMin x0 x1 x2 x3 x4 s
  | .b x0 x1 x2 => Sys2Proof.Machine.execB x0 x1 x2 s
  | .call x0 x1 => Sys2Proof.Machine.execCall x0 x1 s
  | .jr x0 x1 => Sys2Proof.Machine.execJr x0 x1 s
  | .reti x0 => Sys2Proof.Machine.execReti x0 s
  | .loop x0 x1 x2 => Sys2Proof.Machine.execLoop x0 x1 x2 s
  | .loopr x0 x1 x2 => Sys2Proof.Machine.execLoopr x0 x1 x2 s
  | .endl x0 => Sys2Proof.Machine.execEndl x0 s
  | .wait x0 x1 x2 => Sys2Proof.Machine.execWait x0 x1 x2 s
  | .waitWake x0 => Sys2Proof.Machine.execWaitWake x0 s
  | .kick x0 => Sys2Proof.Machine.execKick x0 s
  | .lock x0 x1 => Sys2Proof.Machine.execLock x0 x1 s
  | .unlk x0 => Sys2Proof.Machine.execUnlk x0 s
  | .pub x0 x1 x2 x3 x4 => Sys2Proof.Machine.execPub x0 x1 x2 x3 x4 s
  | .mvh x0 x1 x2 x3 x4 => Sys2Proof.Machine.execMvh x0 x1 x2 x3 x4 s
  | .mvwait x0 => Sys2Proof.Machine.execMvwait x0 s
  | .trap x0 x1 => Sys2Proof.Machine.execTrap x0 x1 s
  | .illegalInstruction x0 => Sys2Proof.Machine.execIllegalInstruction x0 s
  | .inputInterrupt x0 => Sys2Proof.Machine.execInputInterrupt x0 s
  | .moverTransferComplete x0 x1 => Sys2Proof.Machine.execMoverTransferComplete x0 x1 s
  | .eventEdge x0 x1 x2 x3 => Sys2Proof.Machine.execEventEdge x0 x1 x2 x3 s
  | .gateEdge x0 x1 x2 => Sys2Proof.Machine.execGateEdge x0 x1 x2 s
  | .gateWindowTimer x0 => Sys2Proof.Machine.execGateWindowTimer x0 s
  | .eventRiserOverflow x0 => Sys2Proof.Machine.execEventRiserOverflow x0 s
  | .stampRecordFlush x0 => Sys2Proof.Machine.execStampRecordFlush x0 s
  | .muEventDecide x0 => Sys2Proof.Machine.execMuEventDecide x0 s
  | .interpCalStart x0 => Sys2Proof.Machine.execInterpCalStart x0 s
  | .interpCalComplete x0 x1 => Sys2Proof.Machine.execInterpCalComplete x0 x1 s
  | .calibrateNow x0 x1 => Sys2Proof.Machine.execCalibrateNow x0 x1 s
  | .runnerCreateRecord x0 x1 => Sys2Proof.Machine.execRunnerCreateRecord x0 x1 s
  | .runnerCreateDescriptor x0 x1 => Sys2Proof.Machine.execRunnerCreateDescriptor x0 x1 s
  | .runnerDestroy x0 x1 => Sys2Proof.Machine.execRunnerDestroy x0 x1 s
  | .runnerEnable x0 x1 => Sys2Proof.Machine.execRunnerEnable x0 x1 s
  | .runnerStop x0 x1 => Sys2Proof.Machine.execRunnerStop x0 x1 s
  | .runnerAbort x0 x1 => Sys2Proof.Machine.execRunnerAbort x0 x1 s
  | .recordWrite x0 x1 x2 => Sys2Proof.Machine.execRecordWrite x0 x1 x2 s
  | .recordForwarded x0 x1 => Sys2Proof.Machine.execRecordForwarded x0 x1 s
  | .hostRingRelease x0 x1 => Sys2Proof.Machine.execHostRingRelease x0 x1 s
  | .descriptorDoorbell x0 x1 => Sys2Proof.Machine.execDescriptorDoorbell x0 x1 s
  | .descriptorFetch x0 x1 => Sys2Proof.Machine.execDescriptorFetch x0 x1 s
  | .dmaBurst x0 x1 x2 => Sys2Proof.Machine.execDmaBurst x0 x1 x2 s
  | .dmaReadCompletion x0 x1 x2 x3 => Sys2Proof.Machine.execDmaReadCompletion x0 x1 x2 x3 s
  | .descriptorComplete x0 => Sys2Proof.Machine.execDescriptorComplete x0 s
  | .atsTranslationCompletion x0 x1 x2 => Sys2Proof.Machine.execAtsTranslationCompletion x0 x1 x2 s
  | .atsInvalidation x0 => Sys2Proof.Machine.execAtsInvalidation x0 s
  | .priPageResponse x0 x1 => Sys2Proof.Machine.execPriPageResponse x0 x1 s
  | .pageRequestTimeout x0 => Sys2Proof.Machine.execPageRequestTimeout x0 s
  | .msixModerationTimer x0 => Sys2Proof.Machine.execMsixModerationTimer x0 s
  | .msixUnmask x0 => Sys2Proof.Machine.execMsixUnmask x0 s
  | .storeFormat x0 x1 => Sys2Proof.Machine.execStoreFormat x0 x1 s
  | .storLinkUp x0 x1 x2 => Sys2Proof.Machine.execStorLinkUp x0 x1 x2 s
  | .driveEnumerated x0 x1 => Sys2Proof.Machine.execDriveEnumerated x0 x1 s
  | .driveReadyTimeout x0 => Sys2Proof.Machine.execDriveReadyTimeout x0 s
  | .storeRecoveryComplete x0 x1 => Sys2Proof.Machine.execStoreRecoveryComplete x0 x1 s
  | .chunkFlushTimer x0 => Sys2Proof.Machine.execChunkFlushTimer x0 s
  | .chunkAppend x0 => Sys2Proof.Machine.execChunkAppend x0 s
  | .appendComplete x0 x1 x2 => Sys2Proof.Machine.execAppendComplete x0 x1 x2 s
  | .appendTimeout x0 => Sys2Proof.Machine.execAppendTimeout x0 s
  | .journalBlockAppend => Sys2Proof.Machine.execJournalBlockAppend s
  | .journalBlockDurable => Sys2Proof.Machine.execJournalBlockDurable s
  | .catalogueWrite => Sys2Proof.Machine.execCatalogueWrite s
  | .zoneStateReport x0 x1 x2 => Sys2Proof.Machine.execZoneStateReport x0 x1 x2 s
  | .storLinkLoss x0 => Sys2Proof.Machine.execStorLinkLoss x0 s
  | .wearPoll x0 x1 x2 x3 x4 => Sys2Proof.Machine.execWearPoll x0 x1 x2 x3 x4 s
  | .scrubChunkRead x0 x1 x2 => Sys2Proof.Machine.execScrubChunkRead x0 x1 x2 s
  | .replayStart x0 x1 => Sys2Proof.Machine.execReplayStart x0 x1 s
  | .replayStop x0 x1 => Sys2Proof.Machine.execReplayStop x0 x1 s
  | .replayRecordDeliver x0 x1 => Sys2Proof.Machine.execReplayRecordDeliver x0 x1 s
  | .modulePoll x0 x1 x2 x3 => Sys2Proof.Machine.execModulePoll x0 x1 x2 x3 s
  | .ethLinkUp x0 => Sys2Proof.Machine.execEthLinkUp x0 s
  | .ethLinkLoss x0 => Sys2Proof.Machine.execEthLinkLoss x0 s
  | .ethFrameReceived x0 x1 x2 x3 => Sys2Proof.Machine.execEthFrameReceived x0 x1 x2 x3 s
  | .pauseReceived x0 x1 x2 => Sys2Proof.Machine.execPauseReceived x0 x1 x2 s
  | .pauseExpiry x0 x1 => Sys2Proof.Machine.execPauseExpiry x0 x1 s
  | .addressResolutionRetry x0 => Sys2Proof.Machine.execAddressResolutionRetry x0 s
  | .addressResolved x0 x1 => Sys2Proof.Machine.execAddressResolved x0 x1 s
  | .streamPacketSend x0 => Sys2Proof.Machine.execStreamPacketSend x0 s
  | .vdifFrameSend x0 => Sys2Proof.Machine.execVdifFrameSend x0 s
  | .vitaDataPacket x0 => Sys2Proof.Machine.execVitaDataPacket x0 s
  | .functionLevelReset => Sys2Proof.Machine.execFunctionLevelReset s
  | .hostLinkLoss => Sys2Proof.Machine.execHostLinkLoss s
  | .monitorStateChange x0 x1 => Sys2Proof.Machine.execMonitorStateChange x0 x1 s
  | .monitorLatchClear x0 x1 => Sys2Proof.Machine.execMonitorLatchClear x0 x1 s
  | .alertAcknowledge x0 => Sys2Proof.Machine.execAlertAcknowledge x0 s
  | .hkGroupStart x0 x1 => Sys2Proof.Machine.execHkGroupStart x0 x1 s
  | .hkReferenceSettled => Sys2Proof.Machine.execHkReferenceSettled s
  | .hkLowpowerWake x0 => Sys2Proof.Machine.execHkLowpowerWake x0 s
  | .hkResult x0 x1 => Sys2Proof.Machine.execHkResult x0 x1 s
  | .sentinelWindowEnd x0 => Sys2Proof.Machine.execSentinelWindowEnd x0 s
  | .supplyComparatorCrossing x0 x1 => Sys2Proof.Machine.execSupplyComparatorCrossing x0 x1 s
  | .quenchSettleExpiry => Sys2Proof.Machine.execQuenchSettleExpiry s
  | .quenchStepInterval => Sys2Proof.Machine.execQuenchStepInterval s
  | .controlledResetCondition x0 => Sys2Proof.Machine.execControlledResetCondition x0 s
  | .controlledResetAssert x0 => Sys2Proof.Machine.execControlledResetAssert x0 s
  | .faultEvent x0 x1 => Sys2Proof.Machine.execFaultEvent x0 x1 s
  | .trimSlewStep x0 => Sys2Proof.Machine.execTrimSlewStep x0 s
  | .interpolatorSwitchover x0 => Sys2Proof.Machine.execInterpolatorSwitchover x0 s
  | .lockfPwmPeriod => Sys2Proof.Machine.execLockfPwmPeriod s
  | .hostLinkUp x0 x1 x2 => Sys2Proof.Machine.execHostLinkUp x0 x1 x2 s
  | .completionTimeout x0 => Sys2Proof.Machine.execCompletionTimeout x0 s
  | .absentEntryRead x0 x1 => Sys2Proof.Machine.execAbsentEntryRead x0 x1 s
  | .bar2InvalidAccess x0 x1 x2 x3 => Sys2Proof.Machine.execBar2InvalidAccess x0 x1 x2 x3 s
  | .periodicSnapshotUpdate x0 => Sys2Proof.Machine.execPeriodicSnapshotUpdate x0 s

end Sys2Proof.Machine
end

