-- ==== Sys2Proof/Safety.lean ====
section
/-! DEFINITION. What counts as a sound state, and the terms in which statements about the machine are made. -/

namespace Sys2Proof.Machine

/-- The canonical form of HBM. -/
abbrev Memory.wf (s : State) : Prop := Tab.wf memDefault s.mem = true

/-- A command is carried out: it answers a next state, of which P holds. -/
def Answers (c : Instr) (s : State) (P : State → Prop) : Prop := ∃ t, exec c s = .next t ∧ P t

/-- The device is not held in reset (R636). -/
def Live (s : State) : Prop := s.ctl.held = false

/-- Every entry of the dictionary's store but those listed reads as before. -/
def KeepsBut (keys : List Nat) (s t : State) : Prop := ∀ k, k ∉ keys → Tab.get dictDefault t.od k = Tab.get dictDefault s.od k

/-- The same outside the snapshot groups listed, which an update may show as they stand (R64). -/
def KeepsGroups (keys groups : List Nat) (s t : State) : Prop :=
  ∀ k, k ∉ keys → k / 256 ∉ groups → Tab.get dictDefault t.od k = Tab.get dictDefault s.od k

/-- Every entry that a group stands at, but those listed, is as before (R64). -/
def LiveBut (keys : List Nat) (s t : State) : Prop := ∀ k, k ∉ keys → Tab.get dictDefault t.live k = Tab.get dictDefault s.live k

/-- The entries that a report writes: the error register and the counts of emergency messages lost (R87-R90). -/
def reportKeys : List Nat := [0x100100, 0x208303, 0x208304]

/-- A requester that may write entries in the present device state (R41, R425). -/
def MayWrite (s : State) (r : Requester) : Prop := s.writeBar r = none

/-- No channel delivers and the data path does not run: a clock event then meets no producer. -/
def Quiet (s : State) : Prop := s.ctl.running = false ∧ ∀ c, c < 4 → (s.chan c).on = false

/-- Nothing changes but what a report writes: the journal, the error register, the emergency queues and their vector (R87-R90,
R624). -/
structure OnlyReports (s t : State) : Prop where
  parts   : t = { s with od := t.od, ctl := t.ctl, flt := t.flt, dma := t.dma, out := t.out }
  entries : KeepsBut reportKeys s t
  queues  : t.ctl = { s.ctl with ecatEmg := t.ctl.ecatEmg, hostEmg := t.ctl.hostEmg }
  journal : t.flt = { s.flt with written := t.flt.written, events := t.flt.events, journal := t.flt.journal, nv := t.flt.nv }
  vectors : t.dma = { s.dma with msixPending := t.dma.msixPending }

/-- The newest journal entry is one of this severity, subsystem and kind (R623). -/
def Journalled (t : State) (severity subsys kind : Nat) : Prop :=
  ∃ e, t.flt.journal.head? = some e ∧ e.severity = severity ∧ e.subsys = subsys ∧ e.kind = kind

/-- No channel but c changes. -/
def OneChan (c : Nat) (s t : State) : Prop := ∀ d, d ≠ c → t.chan d = s.chan d

/-- A ladle that executes one instruction after the other: it runs and is not held, no branch is pending, no lock timeout waits,
and its present instruction ends no active loop level, nor one that a write on its way makes active (R441, R450, R454). -/
structure PlainLadle (q : Ladle) : Prop where
  run    : q.run = .running
  free   : q.held = none
  slot   : q.branch = none
  lost   : q.lockLost = none
  here   : q.endsAt q.pc = false
  landed : q.land.endsAt q.pc = false

/-- Ladle l has completed an instruction: its registers are those of `q`, the next instruction follows, and nothing else in the
device has changed. -/
def Retired (s t : State) (l : Nat) (q : Ladle) : Prop :=
  t.ladle l = { q with pc := (s.ladle l).pc + 1 } ∧ (∀ m, m ≠ l → t.ladle m = s.ladle m) ∧ t = { s with ladles := t.ladles }

/-- ST after an instruction that sets N and Z of a result, C and V: every other bit is that of before (R439, R441). -/
def SetsFlags (old new v : U32) (c o : Bool) : Prop :=
  new.getLsbD 3 = v.msb ∧ new.getLsbD 2 = (v == 0) ∧ new.getLsbD 1 = c ∧ new.getLsbD 0 = o
    ∧ ∀ j, 4 ≤ j → new.getLsbD j = old.getLsbD j

/-- An exception of ladle l would reach its handler: none runs, and IEN.31 is set (R461). -/
def HasHandler (q : Ladle) : Prop := q.settle.bit bitEX = false ∧ q.settle.ien.getLsbD 31 = true

/-- Ladle l has entered its handler at VEC with a cause, a detail and an address; pc is what EPC holds; nothing else in the device
has changed (R461). -/
structure TakesException (s t : State) (l cause detail ea : Nat) (pc : BitVec 13) : Prop where
  target : (t.ladle l).pc = (s.ladle l).settle.vec
  epc    : (t.ladle l).epc = pc
  code   : (t.ladle l).ec.toNat % 2 ^ 16 = cause % 2 ^ 8 + 2 ^ 8 * (detail % 2 ^ 8)
  ea     : (t.ladle l).ea = BitVec.ofNat 32 ea
  est    : (t.ladle l).est = (s.ladle l).settle.st
  status : (t.ladle l).bit bitEX = true ∧ (t.ladle l).bit bitIE = false ∧ (t.ladle l).depth = 0
  slot   : (t.ladle l).branch = none
  regs   : (t.ladle l).d = (s.ladle l).settle.d ∧ (t.ladle l).dm = (s.ladle l).dm
  others : ∀ m, m ≠ l → t.ladle m = s.ladle m
  parts  : t = { s with ladles := t.ladles }

/-- An instruction with legal operand values and no result of its execution among them: one that a word stands for (R440-R442). -/
def Spelled : Instr → Prop
  | .ld _ m ecc => m.legal = true ∧ ecc = .clean
  | .sd _ m => m.legal = true
  | .xf _ _ _ _ _ _ ecc => ecc = []
  | .ext _ _ _ sh _ => sh.toNat ≤ 39
  | .mfs _ _ code => specialCode code = true
  | .mts _ code _ => specialCode code = true
  | .lock _ r => r.toNat ≤ 17
  | _ => True

/-- The queues of emergency messages and the journal, in the part and in its non-volatile area, within their depths (R87, R90,
R624). -/
structure WithinDepths (s : State) : Prop where
  ecat    : s.ctl.ecatEmg.length ≤ 16
  host    : s.ctl.hostEmg.length ≤ 64
  journal : s.flt.journal.length ≤ 65536
  nv      : s.flt.nv.length ≤ 15360

/-- What every reset clears and keeps (R639). -/
structure ClearedByReset (s t : State) : Prop where
  entries : t.od = [] ∧ t.live = []
  hbm     : t.mem = []
  sram    : t.ladles = [] ∧ t.clusters = []
  pending : t.ctl.pendingSet = [] ∧ t.ctl.pours = [] ∧ t.ctl.latches = [] ∧ t.ctl.hostEmg = [] ∧ t.ctl.ecatEmg = []
  pours   : t.ctl.currentPour = 0 ∧ t.ctl.highestPour = 0
  runners : t.dma.runners = []
  calSets : t.chans = []
  time    : t.num 0x2120 2 = 0 ∧ t.ctl.dev = .init ∧ t.ctl.owner = none
  fuses   : t.flt.rollback = s.flt.rollback
  rows    : t.flt.rows = s.flt.rows ∧ t.flt.bootCount = s.flt.bootCount
  slots   : s.ctl.image = none → t.flt.slotA = s.flt.slotA ∧ t.flt.slotB = s.flt.slotB
  drives  : ∀ d, (t.drive d).zones = (s.drive d).zones ∧ (t.drive d).log = (s.drive d).log

end Sys2Proof.Machine
end

