-- ==== Sys2Proof/Certificates/Slice0/Obligations.lean ====
section
/-! DEFINITION. The statements for the provers: what a step is, what each command does and what it leaves alone. -/

open Sys2Proof Sys2Proof.Machine

/-! ### The step -/

/-- The command at the front of the queue is taken, with the queue's rest (R35: requests are served in order of arrival). Every
command completes in every state: it answers a next state where it brings as many samples, pairs, elements, hits or rates as the
rule of its row names; only one that does not is a fault. Model readings and choices: log entry 1. -/
def Obligations.StepTakesTheFrontCommand : Prop :=
  (∀ (c : Instr) (rest : List Instr) (s : State), s.pending = c :: rest → step s = exec c { s with pending := rest })
  ∧ ∀ (c : Instr) (s : State), (c.wellFormed = true → ∃ t, exec c s = .next t)
      ∧ (c.wellFormed = false → exec c s = .fault .malformedOperands)

/-- The model's choice (log entry 2): on an empty queue one tick of the timebase passes. T96 counts up by one tick of 320 MHz as
the frequency reference corrects it and by the part of a slew that the limit 0x2121.06 allows, its sequence 0x2120.01 by one; the
correction of the crystal goes on; once a second a good REFIN measures the crystal's offset and ageing. No other entry and no
other part of the state changes; in reset nothing does (R131, R136, R141, R142). -/
def Obligations.EmptyQueueTicksTheTimebase : Prop :=
  ∀ s : State, s.pending = [] →
    ∃ t, step s = .next t ∧
      (s.ctl.held = true → t = s) ∧
      (s.ctl.held = false →
        t = { s with od := t.od, ctl := t.ctl, clk := t.clk }
        ∧ t.ctl = { s.ctl with time := t.ctl.time, ticks := s.ctl.ticks + 1, crystalCount := s.ctl.crystalCount + 5 }
        ∧ t.clk = { s.clk with slew := t.clk.slew, correction := t.crystalCorrection, offsets := t.clk.offsets }
        ∧ KeepsBut [0x212001, 0x210205, 0x212504] s t
        ∧ (s.num 0x2102 3 ≠ 2 → KeepsBut [0x212001] s t ∧ t.clk.offsets = s.clk.offsets)
        ∧ t.num 0x2120 1 = (s.num 0x2120 1 + 1) % 2 ^ 32
        ∧ t.ctl.time = s.ctl.time + BitVec.ofInt 128 (correctedUnits s.clk.correction + (s.clk.slew - t.clk.slew))
        ∧ (s.clk.slew - t.clk.slew).natAbs ≤ tickUnits * s.num 0x2121 6 / 10 ^ 12
        ∧ (t.clk.slew).natAbs ≤ (s.clk.slew).natAbs)

/-! ### Reset and start-up (chapter 17) -/

/-- Every kind of reset clears and keeps the same, and leaves its cause (R636, R638, R639). Model readings and choices: log
entries 3 and 5 and 47. -/
def Obligations.EveryResetClearsTheSame : Prop :=
  ∀ (s : State) (w : Nat), 10000 ≤ w →
    Answers (.powerOnReset w) s (fun t => ClearedByReset s t ∧ t.flt.cause = 0x01 ∧ t.flt.nv = s.flt.nv ∧ t.ctl.held = true
        ∧ t.ctl.oscillates = false)
    ∧ Answers (.pinReset w) s (fun t => ClearedByReset s t ∧ t.flt.nv = s.flt.nv ∧ t.ctl.held = true
        ∧ t.flt.cause = (if s.ctl.held then min s.flt.cause 0x02 else 0x02)
        ∧ (s.ctl.held = false → t.ctl.oscillates = s.ctl.oscillates))
    ∧ (∀ m, Live s → s.ctl.dev = .boot → s.ctl.owner = some m →
        Answers (.bootRestart m) s (fun t => ClearedByReset s t ∧ t.flt.cause = 0x03 ∧ t.flt.nv = s.flt.nv ∧ t.ctl.held = false
          ∧ t.ctl.oscillates = true))
    ∧ (∀ c, Live s → s.flt.resetCond = some c →
        Answers (.controlledResetAssert true) s (fun t => ClearedByReset s t ∧ t.flt.cause = ResetCondition.cause c
          ∧ ∃ e, t.flt.nv = (e :: s.flt.nv).take 15360 ∧ e.severity = 4 ∧ e.kind = 8 ∧ e.detail = ResetCondition.cause c)
        ∧ Answers (.controlledResetAssert false) s (fun t => ClearedByReset s t ∧ t.flt.cause = 0x1F ∧ t.flt.nv = s.flt.nv))

/-- The steps of the start-up timeline, each under the conditions that it needs (R641, R95, R388, R643). Model readings and
choices: log entries 3 and 47. -/
def Obligations.StartUpTimeline : Prop :=
  (∀ s : State, s.ctl.held = true →
    Answers .resetRelease s (fun t => t.ctl.held = false ∧ t.ctl.oscillates = true ∧ t = { s with ctl := t.ctl }))
  ∧ ∀ s : State, Live s →
    (s.ctl.crystal = true ∨ s.ctl.oscillates = false → Answers .crystalStable s (fun t => t = s))
    ∧ (s.ctl.crystal = false → s.ctl.oscillates = true → Answers .crystalStable s (fun t =>
      t.ctl.crystal = true ∧ t.flt.bootCount = (s.flt.bootCount + 1) % 2 ^ 32 ∧ t.clk.lockf = 1
        ∧ t.num 0x2001 7 = s.flt.cause % 256
        ∧ t.num 0x2001 5 = (if s.flt.slotA = none ∧ s.flt.slotB = none then 0x0014 else 0x8001)
        ∧ t = { s with od := t.od, ctl := t.ctl, clk := t.clk, flt := t.flt } ∧ KeepsBut [0x200105, 0x200107] s t))
    ∧ (s.ctl.crystal = true → s.flt.bootSlot ≠ none →
        Answers .firmwareRunning s (fun t => t.ctl.firmware = true ∧ t = { s with ctl := t.ctl }))
    ∧ (s.ctl.firmware = true → s.num 0x2100 4 = 1 → Answers .synthInitialLock s (fun t =>
        t.num 0x2100 4 = 2 ∧ t.num 0x2101 1 = 2 ∧ t.clk.lockf = 3 ∧ (∀ i, i < 9 → (t.interp i).calibrating = some 0)
          ∧ t = { s with od := t.od, clk := t.clk, tiu := t.tiu } ∧ KeepsBut [0x210004, 0x210101] s t))
    ∧ (∀ rows, s.ctl.firmware = true → Answers (.hbmInitComplete rows) s (fun t =>
        t.ctl = { s.ctl with hbmReady := true, drawn := s.ctl.drawn + 128 }
          ∧ (∀ a, a ∈ t.flt.rows ↔ a ∈ s.flt.rows ∧ a ∉ rows)
          ∧ t.flt = { s.flt with rows := t.flt.rows } ∧ t.hbm = { s.hbm with params := t.hbm.params }
          ∧ t = { s with ctl := t.ctl, flt := t.flt, hbm := t.hbm, live := t.live }))
    ∧ (s.ctl.firmware = true → s.ctl.hbmReady = true → s.num 0x2001 6 = 0 → Answers .dictionaryReady s (fun t =>
        t.num 0x2001 6 = 1 ∧ t.num 0x2001 5 = 0 ∧ t.out.head? = some (.alStatus 1 0)
          ∧ (∃ e, t.flt.journal.head? = some e ∧ e.subsys = 20 ∧ e.detail = s.flt.cause
              ∧ e.severity = (if 0x10 ≤ s.flt.cause then 4 else 0))
          ∧ t = { s with od := t.od, ctl := t.ctl, flt := t.flt, dma := t.dma, out := t.out }
          ∧ KeepsBut ([0x200105, 0x200106] ++ reportKeys) s t))
    ∧ Answers .pcieConfigRequest s (fun t => t = s.emit (.configAnswer (!(s.ctl.firmware && s.net.hostUp))))

/-! ### Device states (R36-R48) -/

/-- A state request from a master that is not the state owner is refused: AL status 0x8002 to EtherCAT, 0x0800_0021 in 0x2002
for the host; the device state stays. In INIT, where nobody owns the state yet, the master that the ownership mode shuts out is
refused so (R37, R38). Model readings and choices: log entry 13. -/
def Obligations.OnlyTheOwnerChangesTheState : Prop :=
  ∀ (s : State) (m : Master) (c : Instr), Live s → (s.ctl.dev ≠ .init ∨ s.mayClaim m = false) → s.ctl.owner ≠ some m →
    c ∈ [Instr.requestInit m, .requestPreop m, .requestBoot m, .requestSafeop m, .requestOp m] →
    Answers c s (fun t =>
      (m = .ecat → t.out.head? = some (.alStatus s.ctl.dev.code 0x8002) ∧ t.num 0x2001 5 = 0x8002
        ∧ t = { s with od := t.od, out := t.out } ∧ KeepsBut [0x200105] s t)
      ∧ (m = .host → t.num 0x2002 2 = 0x08000021 ∧ t.num 0x2002 1 = (s.num 0x2002 1 + 1) % 2 ^ 32 ∧ t.num 0x2002 4 = 1
        ∧ t = { s with od := t.od } ∧ KeepsBut [0x200201, 0x200202, 0x200203, 0x200204] s t))

/-- What the state requests of the owner do, in each state that R41 lists (R37, R41-R44, R46, R47, R638). PREOP→SAFEOP commits
implicitly, with a new pour number, or is refused with AL status 0x8003 and code 6; and the data path starts once the
calibrations and clock events of the transition are over (R43, R83, R188). Model readings and choices: log entries 13 and 14. -/
def Obligations.StateRequestsAndImplicitCommit : Prop :=
  (∀ (s : State) (m : Master), Live s →
    (s.ctl.dev = .init → s.mayClaim m = true → s.num 0x2001 6 ≠ 0 →
      Answers (.requestPreop m) s (fun t => t.ctl.dev = .preop ∧ t.ctl.owner = some m ∧ t.num 0x2001 2 = 2 ∧ t.num 0x2001 5 = 0
        ∧ t = { s with od := t.od, ctl := t.ctl, flt := t.flt, dma := t.dma, out := t.out } ∧ KeepsBut [0x200102, 0x200105] s t)
      ∧ Answers (.requestBoot m) s (fun t => t.ctl.dev = .boot ∧ t.ctl.owner = some m ∧ t.num 0x2001 2 = 3
        ∧ t = { s with od := t.od, ctl := t.ctl, dma := t.dma, out := t.out } ∧ KeepsBut [0x200102, 0x200105] s t))
    ∧ (s.ctl.dev = .init → s.num 0x2001 6 = 0 → s.mayClaim m = true → Answers (.requestPreop m) s (fun t => t.ctl.dev = .init
        ∧ (m = .host → t.num 0x2002 2 = 0x08000022) ∧ (m = .ecat → t.num 0x2001 5 = s.bootStatus)))
    ∧ (s.ctl.dev = .init → s.mayClaim m = true → Answers (.requestInit m) s (fun t => t.num 0x2001 2 = 1
        ∧ t = { s with od := t.od } ∧ KeepsBut [0x200102] s t))
    ∧ (s.ctl.owner = some m →
      (∀ c d, (c, d) ∈ [(Instr.requestInit m, DevState.init), (.requestPreop m, .preop), (.requestBoot m, .boot),
          (.requestSafeop m, .safeop), (.requestOp m, .op)] → s.ctl.dev = d →
          Answers c s (fun t => t.num 0x2001 2 = d.code ∧ t = { s with od := t.od } ∧ KeepsBut [0x200102] s t))
      ∧ (s.ctl.dev = .safeop → Answers (.requestOp m) s (fun t => t.ctl.dev = .op ∧ t.num 0x2001 2 = 8
        ∧ t = { s with od := t.od, ctl := t.ctl, dma := t.dma, out := t.out } ∧ KeepsBut [0x200102, 0x200105] s t))
      ∧ (s.ctl.dev = .op → Answers (.requestSafeop m) s (fun t => t.ctl.dev = .safeop ∧ t.ctl.running = s.ctl.running
        ∧ t = { s with od := t.od, ctl := t.ctl, dma := t.dma, out := t.out } ∧ KeepsBut [0x200102, 0x200105] s t))
      ∧ (s.ctl.dev = .safeop ∨ s.ctl.dev = .op → Answers (.requestPreop m) s (fun t => t.ctl.dev = .preop
        ∧ t.ctl.running = false ∧ t.ctl.pendingSet = s.ctl.pendingSet ∧ t.ctl.highestPour = s.ctl.highestPour))
      ∧ (s.ctl.dev = .boot → Answers (.requestInit m) s (fun t => ClearedByReset s t ∧ t.flt.cause = 0x03 ∧ t.flt.nv = s.flt.nv
          ∧ t.ctl.dev = .init))
      ∧ (s.ctl.dev = .safeop ∨ s.ctl.dev = .op ∨ s.ctl.dev = .preop → Answers (.requestInit m) s (fun t =>
        ∃ u : State, u.ctl.dev = .init ∧ u.ctl.owner = none ∧ u.ctl.pours = [] ∧ u.ctl.pendingSet = [] ∧ u.ctl.currentPour = 0
          ∧ u.ctl.running = false ∧ u.num 0x2001 2 = 1 ∧ u.num 0x2001 5 = 0
          ∧ (∀ k, defaultsAtInit k = true → k ≠ 0x200102 → Tab.get dictDefault u.od k = dictDefault k)
          ∧ t = (if u.num 0x2102 3 = 2 ∧ u.clk.refin = false then u.switchReference true else u))))
    ∧ (s.ctl.dev = .op → Answers .sm2WatchdogExpiry s (fun t => t.ctl.dev = .safeop ∧ t.ctl.running = s.ctl.running
        ∧ t.num 0x2001 5 = 0x001B ∧ t = { s with od := t.od, ctl := t.ctl, dma := t.dma, out := t.out }
        ∧ KeepsBut [0x200105] s t)))
  ∧ (∀ (s : State) (m : Master), Live s →
    (s.ctl.dev = .preop → s.ctl.owner = some m → s.ctl.starting = false →
      let v := (s.asked .safeop).stopAll
      let w := { v with ctl := { v.ctl with applied := v.writtenRwp } }
      (w.validate v.ctl.pendingSet = none → Answers (.requestSafeop m) s (fun t =>
        ∃ u : State, t = u.prepareRun ∧ u.ctl.starting = true ∧ u.ctl.pendingSet = []
          ∧ u.ctl.highestPour = pourAfter v.ctl.highestPour ∧ u.ctl.applied = v.writtenRwp
          ∧ (∃ p, u.ctl.pours = p :: v.ctl.pours ∧ p.delta = v.ctl.pendingSet ∧ p.number = u.ctl.highestPour ∧ p.tc = v.now)
          ∧ (u.ctl.highestPour ≠ v.ctl.currentPour → u.ctl.currentPour = u.ctl.highestPour)
          ∧ u.num 0x2012 2 = 0 ∧ u.num 0x2012 3 = u.ctl.highestPour.toNat))
      ∧ (∀ entry reason, w.validate v.ctl.pendingSet = some (entry, reason) → Answers (.requestSafeop m) s (fun t =>
        t.out.head? = some (.alStatus 2 0x8003) ∧ t.num 0x2001 5 = 0x8003 ∧ t.num 0x2012 2 = 6
          ∧ t.num 0x2012 0x0A = m.requester.code ∧ t.ctl.pendingSet = v.ctl.pendingSet ∧ t.ctl.pours = v.ctl.pours)))
    ∧ (s.ctl.starting = true → (∀ c, c < 4 → (s.chan c).fg = none) → s.clk.event = none → s.clk.retune = none →
        Answers .dataPathStart s (fun t => t.ctl.dev = .safeop ∧ t.num 0x2001 5 = 0 ∧ t.out.head? = some (.alStatus 4 0)))
    ∧ (s.ctl.starting = false ∨ (∃ c, c < 4 ∧ (s.chan c).fg ≠ none) ∨ s.clk.event ≠ none ∨ s.clk.retune ≠ none →
        Answers .dataPathStart s (fun t => t = s)))

/-- A block stops at its natural boundary after the data path was left; the blocks that always run are not stopped (R44). A
block takes the newest configuration whose instant lies at or before its boundary, once its input carries it (R24, R25, R84).
Model readings and choices: log entries 17 and 18. -/
def Obligations.BlocksStopAndSwitchAtTheirBoundary : Prop :=
  (∀ (s : State) (b : BlockId), Live s → s.ctl.dev ∈ [DevState.init, .preop, .boot] → s.ctl.starting = false →
    Answers (.blockStateStop b) s (fun t => t = s.stopBlock b
      ∧ (∀ u, b = .trig u → t.trig u = Trig.idle ∧ t.mem = s.mem ∧ t.chans = s.chans)
      ∧ (∀ c, b = .side c .density → (t.xf c).densPours = [] ∧ t = { s with xfs := t.xfs })
      ∧ (∀ c, b = .side c .trigger → (t.xf c).trigPours = [] ∧ t = { s with xfs := t.xfs })
      ∧ (∀ c, b = .main c → (t.xf c).cfgs = [] ∧ (t.xf c).pass2 = none ∧ t.liveNum (0x2403 + 16 * c) 7 = 0
          ∧ t.hbm = { s.hbm with queue := t.hbm.queue }
          ∧ t = { s with od := t.od, live := t.live, xfs := t.xfs, hbm := t.hbm })
      ∧ (b ∈ [BlockId.cross, .runners, .store, .slotTable, .clocks, .health] → t = s)))
  ∧ (∀ (s : State) (b : BlockId) (boundary : T96) (input : U32), Live s →
    (s.ctl.running = true ∨ b ∈ standingBlocks) → ∀ p, s.pourFor b boundary input = some p →
    Answers (.blockPourSwitch b boundary input) s (fun t => t = s.switchBlock b boundary p
      ∧ (∃ q ∈ s.ctl.pours, q.number = p ∧ q.tc.toNat ≤ boundary.toNat)
      ∧ (b ∈ [BlockId.cross, .runners] → t.pourOf b = p ∧ t = { s with ctl := t.ctl, dma := t.dma, xfs := t.xfs }
          ∧ t.ctl = { s.ctl with blockPour := t.ctl.blockPour } ∧ (b = .runners → t.dma = s.dma ∧ t.xfs = s.xfs))))

/-! ### Commits and pours (R73-R86, R671) -/

/-- Submission: refused with code 9 outside SAFEOP and OP, with code 1 while a commit waits, with code 2 where nothing is
pending; else the pending set is frozen into the commit (R74, R76, R82, R83). Validation ends with one result: accepted under
the next pour number, or refused with the frozen set back in the pending set; the commit that waits is validated next (R75-R77,
R83). Model readings and choices: log entries 14 and 15. -/
def Obligations.CommitSubmissionAndValidation : Prop :=
  (∀ (s : State) (r : Requester) (v : Byte), Live s → MayWrite s r →
    ∀ c u, (c = Instr.commitExecute r ∧ u = s) ∨ (c = Instr.commitToggle r v ∧ s.num 0x2011 5 ≠ v.toNat ∧ u = s.put 0x2011 5 v.toNat) →
      Answers c s (fun t =>
        (s.ctl.dev = .preop → t.num 0x2012 2 = 9 ∧ t.ctl.pendingSet = s.ctl.pendingSet ∧ t.ctl.validating = s.ctl.validating)
        ∧ (s.ctl.dev.runs = true →
          (s.ctl.validating.isSome = true → s.ctl.waiting.isSome = true →
            t.num 0x2012 2 = 1 ∧ t.ctl.pendingSet = s.ctl.pendingSet ∧ t.ctl.waiting = s.ctl.waiting)
          ∧ (s.ctl.validating.isNone = true ∨ s.ctl.waiting.isNone = true →
            (s.ctl.pendingSet = [] → t.num 0x2012 2 = 2 ∧ t.ctl.validating = s.ctl.validating)
            ∧ (s.ctl.pendingSet ≠ [] → t.ctl.pendingSet = [] ∧ t.od = u.od ∧ t.out = s.out
                ∧ ∃ q : Commit, q.delta = s.ctl.pendingSet ∧ q.requester = r.code ∧ q.mode = s.num 0x2011 3
                  ∧ q.instant = BitVec.ofNat 96 (s.num 0x2011 1)
                  ∧ (s.ctl.validating.isNone = true → t.ctl.validating = some q ∧ t.ctl.waiting = s.ctl.waiting)
                  ∧ (s.ctl.validating.isSome = true → t.ctl.waiting = some q ∧ t.ctl.validating = s.ctl.validating))))
        ∧ t = { s with od := t.od, ctl := t.ctl, dma := t.dma, out := t.out }))
  ∧ (∀ (s : State) (q : Commit), Live s → s.ctl.validating = some q →
    Answers .commitValidationEnd s (fun t =>
      t.ctl.validating = s.ctl.waiting ∧ t.ctl.waiting = none
      ∧ t.num 0x2012 1 = (s.num 0x2012 1 + 1) % 2 ^ 32 ∧ t.num 0x2012 0x0A = q.requester % 256
      ∧ t = { s with od := t.od, ctl := t.ctl, dma := t.dma, out := t.out }
      ∧ ((t.num 0x2012 2 = 0 ∧ t.ctl.highestPour = pourAfter s.ctl.highestPour
            ∧ t.num 0x2012 3 = (pourAfter s.ctl.highestPour).toNat ∧ t.ctl.pendingSet = s.ctl.pendingSet
            ∧ ∃ p, t.ctl.pours = p :: s.ctl.pours ∧ p.delta = q.delta ∧ p.number = t.ctl.highestPour)
          ∨ (t.num 0x2012 2 ∈ [3, 4, 5, 6, 7, 8, 9] ∧ t.ctl.highestPour = s.ctl.highestPour ∧ t.ctl.pours = s.ctl.pours
            ∧ ∀ kv ∈ q.delta, (lookup t.ctl.pendingSet kv.1).isSome = true))))

/-- A pour becomes current when its instant has been reached (R81, R85), and a discard empties the pending set and nothing else
(R86). The pending-set query reports the newest value not yet in effect, and where it stands (R671). Model readings and choices:
log entries 14 and 17. -/
def Obligations.PoursAndThePendingSet : Prop :=
  (∀ (s : State) (r : Requester), Live s →
    (∀ p, s.outstanding.find? (fun q => decide (q.tc.toNat ≤ s.now.toNat)) = some p → Answers .pourBecomesCurrent s (fun t =>
      t.ctl.currentPour = p.number ∧ t.num 0x2013 2 = p.number.toNat ∧ t.ctl.pours = s.ctl.pours
        ∧ t = { s with od := t.od, ctl := t.ctl } ∧ KeepsBut [0x201301, 0x201302, 0x201303, 0x201304] s t))
    ∧ (MayWrite s r → Answers (.discardPending r) s (fun t =>
        t.ctl.pendingSet = [] ∧ t.ctl.pours = s.ctl.pours ∧ t.ctl.validating = s.ctl.validating ∧ t.ctl.waiting = s.ctl.waiting
          ∧ t = { s with ctl := t.ctl })))
  ∧ (∀ (s : State) (r : Requester) (v : U32), Live s → MayWrite s r → Answers (.pendingQuery r v) s (fun t =>
    t.num 0x2010 4 = v.toNat
    ∧ (∀ w, lookup s.ctl.pendingSet v.toNat = some w → t.view 0x2010 5 = Val.ofNat 1
        ∧ t.view 0x2010 6 = Val.ofNat (slotImage (v.toNat / 256) (v.toNat % 256) w))
    ∧ (lookup s.ctl.pendingSet v.toNat = none → ∀ q w, s.ctl.waiting = some q → lookup q.delta v.toNat = some w →
        t.view 0x2010 5 = Val.ofNat 2)
    ∧ (lookup s.ctl.pendingSet v.toNat = none → s.ctl.waiting = none → s.ctl.validating = none →
        (∀ p ∈ s.outstanding, lookup p.delta v.toNat = none) →
        t.view 0x2010 5 = Val.ofNat 0 ∧ t.view 0x2010 6 = Val.ofNat 0)
    ∧ t = { s with od := t.od } ∧ KeepsBut [0x201004] s t))

/-! ### The object dictionary and its accesses (chapter 2) -/

/-- The first refusal that applies: absence, access code, device state, range (R51-R53). Model readings and choices: log entries
9 and 10. -/
def Obligations.WriteRefusalsInOrder : Prop :=
  ∀ (s : State) (r : Requester) (i b : Nat) (v : Val), (∀ g, r ≠ .cluster g) →
    (Dict.row i b = none → Dict.indexExists i = false → s.writeCode r i b v = some 0x06020000)
    ∧ (Dict.row i b = none → Dict.indexExists i = true → s.writeCode r i b v = some 0x06090011)
    ∧ ∀ row, Dict.row i b = some row →
      (row.acc = .const ∨ row.acc = .ro → s.writeCode r i b v = some 0x06010002)
      ∧ (row.acc = .rw ∨ row.acc = .rwp ∨ row.acc = .rwc ∨ row.acc = .wo →
        (s.ctl.dev = .init → ¬ (i = 0x2001 ∧ (b = 2 ∨ b = 3)) → s.writeCode r i b v = some 0x08000022)
        ∧ (s.ctl.dev.runs = true → row.acc = .rwp → s.writeCode r i b v = some 0x08000022)
        ∧ (s.ctl.dev = .preop → i ≠ 0x2020 → row.admits (ownBits row v) = false → s.writeCode r i b v = some 0x06090030)
        ∧ (s.ctl.dev = .preop → i ≠ 0x2020 → row.admits (ownBits row v) = true → imageOk i b v = true → row.acc ≠ .rwc →
            s.writeCode r i b v = none))

/-- A write of an entry: a refused one changes nothing but the access-error entries; an accepted one stores the value of an RW
or RWP entry, and enters that of an RWC entry in the pending set, where reads do not see it (R34, R51, R52, R73). Model readings
and choices: log entry 10. -/
def Obligations.EntryWrites : Prop :=
  ∀ (s : State) (r : Requester) (key : Key) (v : Val), Live s → s.early r key.index.toNat = false →
    (∀ code, s.writeCode r key.index.toNat key.sub.toNat v = some code →
      Answers (.registerWrite r key v) s (fun t => t.num 0x2002 2 = code % 2 ^ 32
        ∧ t.num 0x2002 1 = (s.num 0x2002 1 + 1) % 2 ^ 32 ∧ t.num 0x2002 3 = keyOf key.index.toNat key.sub.toNat
        ∧ t.num 0x2002 4 = r.code ∧ (r = .ecat → t.out.head? = some (.abort 2 code))
        ∧ t = { s with od := t.od, out := t.out } ∧ KeepsBut [0x200201, 0x200202, 0x200203, 0x200204] s t))
    ∧ ∀ row, Dict.row key.index.toNat key.sub.toNat = some row → s.writeCode r key.index.toNat key.sub.toNat v = none →
      (∀ u : State, u.ownEffect r key.index.toNat key.sub.toNat (ownBits row v) = none) →
      (row.acc ≠ .rwc → Answers (.registerWrite r key v) s (fun t =>
        t.val key.index.toNat key.sub.toNat = ownBits row v ∧ t.ctl.pendingSet = s.ctl.pendingSet
        ∧ t = { s with od := t.od, ctl := t.ctl } ∧ KeepsBut [keyOf key.index.toNat key.sub.toNat] s t))
      ∧ (row.acc = .rwc → Answers (.registerWrite r key v) s (fun t =>
        lookup t.ctl.pendingSet (keyOf key.index.toNat key.sub.toNat) = some (ownBits row v) ∧ t.num 0x2010 8 = r.code
        ∧ t.ctl.pours = s.ctl.pours ∧ t.ctl.currentPour = s.ctl.currentPour
        ∧ t = { s with od := t.od, ctl := t.ctl } ∧ KeepsBut [0x201008] s t))

/-- SDO services: an upload of an entry that is no part of a snapshot group answers its value and changes nothing else; a
refused SDO answers its abort code; a download has the effect of a write; complete access reads an index in one moment and
writes all of it or, where one entry may not be written, none; SDO information and SII answer what the part holds (R40, R49, R51,
R53, R66). Model readings and choices: log entries 9 and 11. -/
def Obligations.SdoServices : Prop :=
  ∀ (s : State) (m : Master) (key : Key) (v : Val), Live s →
    (∀ row, Dict.row key.index.toNat key.sub.toNat = some row → row.acc ≠ .wo → isGroup key.index.toNat = false →
      key.index ≠ 0x2083 → Answers (.sdoUpload m key false) s (fun t =>
        t = s.emit (.answer m.requester.code (s.view key.index.toNat key.sub.toNat))))
    ∧ (∀ row, Dict.row key.index.toNat key.sub.toNat = some row → row.acc = .wo → Answers (.sdoUpload m key false) s (fun t =>
        t.out.head? = some (.abort m.requester.code 0x06010001) ∧ t.num 0x2002 2 = 0x06010001
        ∧ t = { s with od := t.od, out := t.out } ∧ KeepsBut [0x200201, 0x200202, 0x200203, 0x200204] s t))
    ∧ (Dict.row key.index.toNat key.sub.toNat = none → Answers (.sdoUpload m key false) s (fun t =>
        t.out.head? = some (.abort m.requester.code (absentCode key.index.toNat))))
    ∧ (subsFrom key.index.toNat key.sub.toNat ≠ [] → key.index ≠ 0x2083 →
        (∀ b row, b ∈ subsFrom key.index.toNat key.sub.toNat → Dict.row key.index.toNat b = some row → row.acc ≠ .wo) →
        Answers (.sdoUpload m key true) s (fun t => t = s.emit (.answer m.requester.code (.bytes
          ((subsFrom key.index.toNat key.sub.toNat).flatMap (fun b => sdoBytes key.index.toNat b (s.view key.index.toNat b)))))))
    ∧ (∀ vs b w code, sdoValues key.index.toNat (subsFrom key.index.toNat key.sub.toNat) v.data = some vs → (b, w) ∈ vs →
        s.writeCode m.requester key.index.toNat b w = some code → Answers (.sdoDownload m key v true) s (fun t =>
          (∃ other, t.out.head? = some (.abort m.requester.code other))
          ∧ t = { s with od := t.od, out := t.out } ∧ KeepsBut [0x200201, 0x200202, 0x200203, 0x200204] s t))
    ∧ (∀ code, s.writeCode m.requester key.index.toNat key.sub.toNat v = some code → Answers (.sdoDownload m key v false) s (fun t =>
        t.out.head? = some (.abort m.requester.code code) ∧ t.num 0x2002 2 = code % 2 ^ 32
        ∧ t = { s with od := t.od, out := t.out } ∧ KeepsBut [0x200201, 0x200202, 0x200203, 0x200204] s t))
    ∧ (∀ row, Dict.row key.index.toNat key.sub.toNat = some row →
        s.writeCode m.requester key.index.toNat key.sub.toNat v = none → (row.acc = .rw ∨ row.acc = .rwp) →
        (∀ u : State, u.ownEffect m.requester key.index.toNat key.sub.toNat (ownBits row v) = none) →
        Answers (.sdoDownload m key v false) s (fun t => t.val key.index.toNat key.sub.toNat = ownBits row v
          ∧ t = { s with od := t.od, ctl := t.ctl } ∧ KeepsBut [keyOf key.index.toNat key.sub.toNat] s t))
    ∧ (∀ q : InfoQuery, (∀ data, sdoInfo q = .ok data → Answers (.sdoInformation m q) s (fun t =>
          t = s.emit (.answer m.requester.code (.bytes data))))
        ∧ (∀ code, sdoInfo q = .error code → Answers (.sdoInformation m q) s (fun t =>
          t.out.head? = some (.abort m.requester.code code) ∧ t.num 0x2002 2 = code % 2 ^ 32
          ∧ t = { s with od := t.od, out := t.out } ∧ KeepsBut [0x200201, 0x200202, 0x200203, 0x200204] s t)))
    ∧ Answers (.siiRead key.index) s (fun t =>
        t = s.emit (.sii (if s.ctl.firmware then some (Config.siiWord key.index) else none)))

/-- The commit instant written in two slots: the upper one is staged, and the lowest one applies both at once (R59, R65). A read
of the lowest part latches a group for its requester, which holds 16 latches at most; a read of another part returns the latched
value, or the live one with a miss counted (R61-R63). Model readings and choices: log entries 10 and 12. -/
def Obligations.WideEntriesAndSnapshots : Prop :=
  (∀ (s : State) (r : Requester) (hi lo : U64), Live s → MayWrite s r → s.num 0x2001 6 = 1 →
    Answers (.widePartStage r ⟨0x2011, 1⟩ true .full hi) s (fun t =>
      t.num 0x2011 1 = s.num 0x2011 1 ∧ t = { s with ctl := t.ctl }
      ∧ Answers (.wideLowestWrite r ⟨0x2011, 1⟩ .full lo) t (fun u =>
        u.num 0x2011 1 = hi.toNat % 2 ^ 32 * 2 ^ 64 + lo.toNat ∧ u.parts r 0x201101 = []
        ∧ u = { s with od := u.od, ctl := u.ctl } ∧ KeepsBut [0x201101] s u)))
  ∧ (∀ (s : State) (r : Requester) (index : U16) (sub : Byte) (row : EntryRow), Live s → s.early r index.toNat = false →
    isGroup index.toNat = true → Dict.row index.toNat sub.toNat = some row → sub ≠ 1 → sub ≠ 0 → row.acc ≠ .wo →
    Answers (.snapshotLatchRead r ⟨index, 1⟩ .full) s (fun t =>
      (∃ l, t.latchOf r (keyOf index.toNat 1) = some l ∧ l.value sub.toNat = some (s.view index.toNat sub.toNat))
      ∧ (t.ctl.latches.filter (fun l => l.requester == r.code)).length ≤ 16
      ∧ t = { s with ctl := t.ctl, out := t.out }
      ∧ t.out = .answer r.code (Val.ofNat (slotWord index.toNat 1 false (s.view index.toNat 1) % 2 ^ 64)) :: s.out)
    ∧ (∀ l w, s.latchOf r (keyOf index.toNat 1) = some l → l.value sub.toNat = some w →
      Answers (.snapshotPartRead r ⟨index, sub⟩ false .full) s (fun t =>
        t = s.emit (.answer r.code (Val.ofNat (slotWord index.toNat sub.toNat false w % 2 ^ 64)))))
    ∧ (s.latchOf r (keyOf index.toNat 1) = none → row.ty ≠ .t96 →
      Answers (.snapshotPartRead r ⟨index, sub⟩ false .full) s (fun t =>
        t.num 0x2002 5 = (s.num 0x2002 5 + 1) % 2 ^ 32
        ∧ t.out = .answer r.code (Val.ofNat (slotWord index.toNat sub.toNat false (s.view index.toNat sub.toNat) % 2 ^ 64)) :: s.out
        ∧ t = { s with od := t.od, out := t.out } ∧ KeepsBut [0x200205] s t)))

/-- Accesses that BAR0 does not serve, and the slots of absent entries (R53, R55-R57). Model readings and choices: log entries 9
and 10. -/
def Obligations.Bar0Forms : Prop :=
  ∀ (s : State) (offset size : Nat) (write : Bool), Live s →
    (0x08000000 ≤ offset →
      Answers (.bar0UnmappedAccess write offset size) s (fun t =>
        t = (if write then s else s.emit (.answer 1 (.bytes (List.replicate size 0)))))
      ∧ Answers (.bar0MultislotTlp offset (.read size)) s (fun t => t = s.emit (.answer 1 (.bytes (List.replicate size 0)))))
    ∧ (offset < 0x08000000 → formOk offset size = false →
      Answers (.bar0MalformedAccess write offset size) s (fun t =>
        t.num 0x2002 2 = 0x06010000 ∧ t.num 0x2002 1 = (s.num 0x2002 1 + 1) % 2 ^ 32 ∧ t.num 0x2002 4 = 1
        ∧ t.out = (if write then s.out else .answer 1 (.bytes (List.replicate size 0xFF)) :: s.out)
        ∧ t = { s with od := t.od, out := t.out } ∧ KeepsBut [0x200201, 0x200202, 0x200203, 0x200204] s t))
    ∧ (∀ key : Key, Dict.row key.index.toNat key.sub.toNat = none → entryWidth key.index.toNat (key.sub.toNat - 1) ≠ 96 →
      s.num 0x2001 6 = 1 → Answers (.absentEntryRead .host key) s (fun t =>
        t.out = .answer 1 (Val.ofNat 0) :: s.out ∧ t.num 0x2002 2 = absentCode key.index.toNat
        ∧ t.num 0x2002 3 = keyOf key.index.toNat key.sub.toNat
        ∧ t = { s with od := t.od, out := t.out } ∧ KeepsBut [0x200201, 0x200202, 0x200203, 0x200204] s t))
    ∧ (∀ v : U64, s.ctl.dev = .preop → s.num 0x2001 6 = 1 →
      Answers (.bar0MultislotTlp (8 * 0x201101) (.write [v, 0x6A5F])) s (fun t =>
        t.num 0x2011 1 = 0x6A5F * 2 ^ 64 + v.toNat ∧ t = { s with od := t.od, ctl := t.ctl } ∧ KeepsBut [0x201101] s t))
    ∧ (∀ r, MayWrite s r → Answers (.clearAccessErrors r) s (fun t =>
        (∀ b, 1 ≤ b → b ≤ 5 → t.num 0x2002 b = 0) ∧ t = { s with od := t.od, ctl := t.ctl }
        ∧ KeepsBut [0x200201, 0x200202, 0x200203, 0x200204, 0x200205] s t))

/-- RxPDOs are applied in OP only; a TxPDO shows the state of one moment (R40, R41, R66). Model readings and choices: log entry
11. -/
def Obligations.ProcessData : Prop :=
  ∀ (s : State) (data : List Byte), Live s →
    (s.ctl.dev ≠ .op → Answers (.rxpdoCycle data) s (fun t => t = s))
    ∧ (s.ctl.dev = .op → s.mapped 0x1C12 0x1600 4 = [(0x2011, 3, 8)] → data.length ≤ 256 → ofLeBytes data % 256 ≤ 1 →
      Answers (.rxpdoCycle data) s (fun t => t.num 0x2011 3 = ofLeBytes data % 256 ∧ t.ctl.rxpdo = data
        ∧ t = { s with od := t.od, ctl := t.ctl } ∧ KeepsBut [0x201103] s t))
    ∧ (s.ctl.dev.runs = true → Answers .txpdoCycle s (fun t => t = s.emit (.txpdo s.txData) ∧ s.txData.length ≤ 1024))

/-- The host mailbox: the doorbell submits the frame that stands in 0x2080, its response stands in 0x2081 and is signalled by vector
0, and a doorbell while busy is discarded and recorded (R68-R72). The emergency queues are first in, first out (R90). Firmware downloads are taken in BOOT only, go to the slot that is not running, and end with the status of R98; JTAG offers
boundary scan and IDCODE (R91-R94, R96). Model readings and choices: log entries 10 and 48. -/
def Obligations.MailboxFirmwareAndDebug : Prop :=
  (∀ s : State, Live s →
    (s.ctl.dev ≠ .init → s.num 0x2082 2 ≠ 1 → Answers .mailboxDoorbell s (fun t =>
      t.num 0x2082 2 = 1 ∧ t.ctl = { s.ctl with mbxRequest := some s.mailboxFrame }
      ∧ t = { s with od := t.od, ctl := t.ctl } ∧ KeepsBut [0x208202] s t))
    ∧ (s.ctl.dev ≠ .init → s.num 0x2082 2 = 1 → Answers .mailboxDoorbell s (fun t => t.num 0x2002 2 = 0x08000020
      ∧ t = { s with od := t.od } ∧ KeepsBut [0x200201, 0x200202, 0x200203, 0x200204] s t))
    ∧ (∀ u frames, s.num 0x2082 2 = 1 → (s.ctl.mbxRequest = none ∧ u = s ∧ frames = s.ctl.mbxAnswers)
        ∨ (∃ f, s.ctl.mbxRequest = some f ∧ s.serveCoe f = (u, frames)) → Answers .mailboxResponseComplete s (fun t =>
          t.num 0x2082 2 = (if frames.tail = [] then 0 else 1) ∧ t.num 0x2082 3 = (u.num 0x2082 3 + 1) % 2 ^ 32
          ∧ t.num 0x2081 1 = min 1016 (frames.headD []).length
          ∧ (∀ i, i < 127 → 8 * i < (frames.headD []).length → t.num 0x2081 (2 + i) = field ((frames.headD []).take 1016) (8 * i) 8)
          ∧ (Tab.get (fun _ => false) u.dma.unmasked 0 = true → t.out = .msix 0 :: u.out)
          ∧ t.ctl = { u.ctl with mbxRequest := none, mbxAnswers := frames.tail }
          ∧ t = { u with od := t.od, ctl := t.ctl, dma := t.dma, out := t.out }))
    ∧ (s.num 0x2082 2 ≠ 1 → Answers .mailboxResponseComplete s (fun t => t = s))
    ∧ (∀ m rest, s.ctl.hostEmg = m :: rest → Answers .emergencyRead s (fun t => t.ctl.hostEmg = rest
      ∧ t.out = .answer 1 (Val.ofNat m.toNat) :: s.out ∧ t = { s with ctl := t.ctl, out := t.out }))
    ∧ (s.ctl.hostEmg = [] → Answers .emergencyRead s (fun t => t = s.emit (.answer 1 (Val.ofNat 0))))
    ∧ (∀ m rest, s.ctl.ecatEmg = m :: rest → Answers .emergencyMailboxRead s (fun t => t.ctl.ecatEmg = rest
      ∧ t.out = .ecatEmergency m :: s.out ∧ t = { s with ctl := t.ctl, out := t.out })))
  ∧ (∀ (s : State) (img : FwImage) (ir : JtagInstr), Live s →
    (∀ c ∈ [Instr.foeFirmwareDownload img, .firmwareImageWrite img],
      (s.ctl.dev = .boot → Answers c s (fun t => t.ctl.image = some img ∧ t.num 0x2020 2 = 2
        ∧ (s.flt.runningB = true → t.flt.slotB = s.flt.slotB ∧ t.flt.slotA = none)
        ∧ (s.flt.runningB = false → t.flt.slotA = s.flt.slotA ∧ t.flt.slotB = none)
        ∧ t = { s with od := t.od, ctl := t.ctl, flt := t.flt } ∧ KeepsBut [0x202002] s t))
      ∧ (s.ctl.dev ≠ .boot → Answers c s (fun t => t.ctl.image = s.ctl.image ∧ t.flt = s.flt)))
    ∧ (s.ctl.image = some img → Answers .firmwareVerifyComplete s (fun t => t.ctl.image = none
        ∧ t.num 0x2020 2 ∈ [3, 4, 5, 6, 7]
        ∧ (64 < img.security → t.num 0x2020 2 = 7)
        ∧ (t.num 0x2020 2 = 3 → Config.signatureValid img = true ∧ s.flt.rollback ≤ img.security
            ∧ (if s.flt.runningB then t.flt.slotA else t.flt.slotB) = some { version := img.version, security := img.security })
        ∧ (t.num 0x2020 2 ≠ 3 → (if s.flt.runningB then t.flt.slotA else t.flt.slotB) = none)
        ∧ (if s.flt.runningB then t.flt.slotB = s.flt.slotB else t.flt.slotA = s.flt.slotA)
        ∧ t = { s with od := t.od, ctl := t.ctl, flt := t.flt } ∧ KeepsBut [0x202002] s t))
    ∧ Answers (.jtagBoundaryScan ir) s (fun t =>
        (ir = .idcode → t = s.emit (.jtag Config.idcode.toNat)) ∧ (ir = .other → t = s)
        ∧ (ir = .boundaryScan → ∃ bits, t = s.drew.emit (.jtag bits))))

/-! ### Clocks, synthesis and the timebase (chapter 3) -/

/-- REFIN qualifies, is lost, and becomes the reference again automatically, on a command or on a change of the return mode
(R99-R103). A change of reference and a loss of lock start the clock event sequence, in which both synthesisers acquire; its end
leaves them locked and the channels free to run (R103, R114-R120). Model readings and choices: log entries 19 and 20. -/
def Obligations.ReferencesAndClockEvents : Prop :=
  (∀ (s : State) (r : Requester) (f : Fin 3) (off : Int) (v : Byte), Live s →
    (s.synthsStarted = true → refinAccepts (s.app 0x2102 1) (f.val + 1) = true → s.app 0x2102 1 ≠ 4 → Answers (.refinQualified f off) s (fun t =>
      ∃ u : State, u.num 0x2102 2 = f.val + 1 ∧ u.num 0x2102 3 = 2 ∧ u.num 0x2102 5 = bitsOf 32 off
        ∧ u.clk.offsets.head? = some (s.ctl.crystalCount, off) ∧ u.clk = { s.clk with offsets := u.clk.offsets }
        ∧ u = { s with od := u.od, clk := u.clk } ∧ KeepsBut [0x210202, 0x210203, 0x210205, 0x212504] s u
        ∧ t = (if s.num 0x2102 6 = 0 ∧ s.clk.refin = false then u.switchReference true else u)))
    ∧ (s.synthsStarted = true → refinAccepts (s.app 0x2102 1) (f.val + 1) = false → s.app 0x2102 1 ≠ 4 → Answers (.refinQualified f off) s (fun t =>
        t.num 0x2102 2 = 0 ∧ t.num 0x2102 3 = 0 ∧ t = { s with od := t.od } ∧ KeepsBut [0x210202, 0x210203] s t))
    ∧ (s.num 0x2102 3 = 2 → Answers .refinLoss s (fun t =>
        ∃ u : State, u.num 0x2102 2 = 0 ∧ u.num 0x2102 3 = 3 ∧ u = { s with od := u.od } ∧ KeepsBut [0x210202, 0x210203] s u
          ∧ t = (if s.clk.refin then u.switchReference false else u)))
    ∧ (MayWrite s r → Answers (.returnToRefin r) s (fun t =>
        t = (if s.num 0x2102 3 = 2 ∧ s.clk.refin = false then s.switchReference true else s)))
    ∧ (MayWrite s r → v.toNat ≤ 1 → Answers (.returnModeWrite r v) s (fun t =>
        ∃ u : State, u.num 0x2102 6 = v.toNat ∧ u = { s with od := u.od } ∧ KeepsBut [0x210206] s u
          ∧ t = (if s.num 0x2102 6 = 1 ∧ v = 0 ∧ s.num 0x2102 3 = 2 ∧ s.clk.refin = false then u.switchReference true else u))))
  ∧ (∀ (s : State) (refin : Bool), Live s → Quiet s →
    (s.clk.event = none →
      (s.switchReference refin).clk.refin = refin ∧ (s.switchReference refin).num 0x2100 4 = 1
      ∧ (s.switchReference refin).num 0x2101 1 = 1 ∧ (s.switchReference refin).num 0x2122 5 = 0
      ∧ (s.switchReference refin).clk.event = some { cause := if refin then 3 else 2, start := s.now }
      ∧ (∀ c, c < 4 → ((s.switchReference refin).chan c).gated = true) ∧ (s.switchReference refin).mem = s.mem)
    ∧ (s.synthsStarted = true → Answers (.synthLossOfLock .syna) s (fun t => t.num 0x2100 4 = 1 ∧ t.num 0x2100 6 = (s.num 0x2100 6 + 1) % 2 ^ 32
        ∧ t.num 0x3014 3 = (s.num 0x3014 3 + 1) % 2 ^ 32 ∧ t.clk.event.isSome = true ∧ t.mem = s.mem))
    ∧ (s.synthsStarted = true → Answers (.synthLossOfLock .synb) s (fun t => t.num 0x2101 1 = 1 ∧ t.num 0x2101 3 = (s.num 0x2101 3 + 1) % 2 ^ 32
        ∧ t.num 0x3014 3 = (s.num 0x3014 3 + 1) % 2 ^ 32 ∧ t.clk.event.isSome = true ∧ t.mem = s.mem))
    ∧ (∀ e, s.clk.event = some e → Answers .referenceEventRestart s (fun t => t.clk.event = none ∧ t.num 0x2101 1 = 2
        ∧ (s.clk.retune = none → t.num 0x2100 4 = (if s.num 0x2100 2 = s.num 0x2100 3 then 2 else 3)
            ∧ ∀ c, c < 4 → (t.chan c).gated = false)
        ∧ t.tiu.gated = false ∧ t.mem = s.mem)))

/-- Trim: a target in range is taken at once, a target out of range refused; the present trim moves toward it at no more than 1
ppm/ms (R107, R108, R146). A retune waits for gathering windows, then SYNA acquires, and the new nominal rate is in force when
it has (R109-R112). Model readings and choices: log entries 16 and 19. -/
def Obligations.TrimAndRetune : Prop :=
  (∀ (s : State) (r : Requester) (v : U32) (dt : T96), Live s →
    (MayWrite s r → -200000000 ≤ v.toInt → v.toInt ≤ 200000000 → s.trimFits v.toInt = true → Answers (.trimWrite r v) s (fun t =>
      t.num 0x2100 2 = v.toNat ∧ (v ≠ 0 → ∀ c, c < 4 → t.onGrid c = false)
      ∧ t = { s with od := t.od, live := t.live } ∧ (v = 0 → t.live = s.live ∧ KeepsBut [0x210002, 0x210004] s t)
      ∧ KeepsGroups [0x210002, 0x210004] [0x2180, 0x2190, 0x21A0, 0x21B0] s t ∧ LiveBut [0x218005, 0x219005, 0x21A005, 0x21B005] s t))
    ∧ (MayWrite s r → v.toInt < -200000000 ∨ 200000000 < v.toInt ∨ s.trimFits v.toInt = false → Answers (.trimWrite r v) s (fun t =>
        t.num 0x2002 2 = 0x06090030 ∧ t.num 0x2100 2 = s.num 0x2100 2 ∧ t = { s with od := t.od, out := t.out }))
    ∧ (s.num 0x2100 4 = 3 → Answers (.trimSlewStep dt) s (fun t =>
        (t.int 0x2100 3 - s.int 0x2100 3).natAbs ≤ dt.toNat * 1000000000 / 2 ^ 48
        ∧ (t.int 0x2100 3 - s.int 0x2100 2).natAbs ≤ (s.int 0x2100 3 - s.int 0x2100 2).natAbs
        ∧ ((s.int 0x2100 3 - s.int 0x2100 2).natAbs ≤ dt.toNat * 1000000000 / 2 ^ 48 → t.int 0x2100 3 = s.int 0x2100 2)
        ∧ t = { s with od := t.od } ∧ KeepsBut [0x210003, 0x210004] s t)))
  ∧ (∀ s : State, Live s →
    (s.ctl.running = true → s.clk.retune = none → s.cfg s.synaPour 0x2100 1 ≠ s.clk.rate →
      (s.gathers = true → Answers .retuneStart s (fun t => t.num 0x2100 7 = 1 ∧ t = { s with od := t.od }
        ∧ KeepsBut [0x210007] s t))
      ∧ (s.gathers = false → Answers .retuneStart s (fun t => t.num 0x2100 4 = 1
        ∧ t.clk.retune = some (s.now, s.cfg s.synaPour 0x2100 1) ∧ ∀ c, c < 4 → (t.chan c).gated = true)))
    ∧ (s.cfg s.synaPour 0x2100 1 = s.clk.rate → s.ctl.running = true → s.clk.retune = none →
        Answers .retuneStart s (fun t => t.num 0x2100 7 = 0 ∧ t = { s with od := t.od } ∧ KeepsBut [0x210007] s t))
    ∧ (∀ t0 rate, s.clk.retune = some (t0, rate) → Answers .retuneAcquired s (fun t =>
        ∃ u : State, t = u.afterRetune ∧ u.clk.rate = rate ∧ u.clk.retune = none
          ∧ u.num 0x2100 3 = s.num 0x2100 2 % 2 ^ 32 ∧ u.num 0x2100 4 = (if s.clk.event.isSome then 1 else 2)
          ∧ u = { s with od := u.od, clk := u.clk } ∧ KeepsBut [0x210003, 0x210004] s u)))

/-- An align loop moves by one step toward its target; CLKOUT outputs start, wait for a clock event, and stop; LOCKF shows the
highest row of its table that applies (R122-R129). Model readings and choices: log entry 20. -/
def Obligations.LoopsAndClockOutputs : Prop :=
  ∀ (s : State) (r : Requester) (k : Fin 9) (n : Fin 4), Live s →
    Answers (.alignRampStep k) s (fun t =>
      (s.loopPhase k < s.loopTarget k → t.loopPhase k = s.loopPhase k + 1)
      ∧ (s.loopTarget k < s.loopPhase k → t.loopPhase k + 1 = s.loopPhase k)
      ∧ (s.loopPhase k = s.loopTarget k → t.loopPhase k = s.loopPhase k)
      ∧ (k.val < 4 → t.view (0x2181 + 16 * k.val) 3 = Val.ofNat (t.loopPhase k))
      ∧ (∀ j, j ≠ k.val → t.loopPhase j = s.loopPhase j)
      ∧ t = { s with clk := { s.clk with phase := t.clk.phase } })
    ∧ (MayWrite s r → Answers (.clkoutEnable r n) s (fun t => t.num (0x2110 + n.val) 1 = 1
        ∧ (s.num (0x2110 + n.val) 6 ≠ 0 → t.num (0x2110 + n.val) 6 = s.num (0x2110 + n.val) 6)
        ∧ (s.num (0x2110 + n.val) 6 = 0 → s.clk.event.isSome = true → t.num (0x2110 + n.val) 6 = 2)
        ∧ (s.num (0x2110 + n.val) 6 = 0 → s.clk.event = none → s.clk.retune = none → t.num (0x2110 + n.val) 6 = 1
            ∧ (s.bcfg .clocks (0x2110 + n.val) 5 = 1 → s.bcfg .clocks (0x2110 + n.val) 2 = 0 →
                s.bcfg .clocks (0x2110 + n.val) 3 ≠ 0 → ∃ m, Tab.get (fun _ => 0) t.clk.clkoutFirst n.val
                    = s.bcfg .clocks (0x2110 + n.val) 3 * m + 1
                  ∧ s.now.toNat * s.clk.rate ≤ s.bcfg .clocks (0x2110 + n.val) 3 * m * 2 ^ 48))
        ∧ t = { s with od := t.od, clk := t.clk } ∧ KeepsBut [keyOf (0x2110 + n.val) 1, keyOf (0x2110 + n.val) 6] s t))
    ∧ (MayWrite s r → Answers (.clkoutDisable r n) s (fun t => t.num (0x2110 + n.val) 1 = 0 ∧ t.num (0x2110 + n.val) 6 = 0
        ∧ n.val ∉ t.clk.clkoutHeld
        ∧ t = { s with od := t.od, clk := t.clk } ∧ KeepsBut [keyOf (0x2110 + n.val) 1, keyOf (0x2110 + n.val) 6] s t))
    ∧ Answers .lockfPwmPeriod s (fun t => t = { s with clk := { s.clk with lockf := t.clk.lockf } }
        ∧ (s.ctl.crystal = false → t.clk.lockf = 0)
        ∧ (s.ctl.crystal = true → s.num 0x2101 1 = 1 → t.clk.lockf = 1)
        ∧ (s.ctl.crystal = true → s.num 0x2100 4 = 2 → s.num 0x2101 1 = 2 → s.clk.refin = false → t.clk.lockf = 3)
        ∧ (s.ctl.crystal = true → s.num 0x2100 4 = 2 → s.num 0x2101 1 = 2 → s.clk.refin = true →
            t.clk.lockf = (if s.num 0x2120 2 = 2 then 7 else 5)))

/-- PPSIN: an edge within 100 ns of its prediction is used, another one is rejected and counted, and the third in a row
disqualifies the input; the edge that 0x2122.01 does not select is not stamped; the third edge in a row at its prediction qualifies an input whose second is known; a loss disqualifies it
at once; a second written labels the next edge (R104, R134, R135). Model readings and
choices: log entry 19. -/
def Obligations.PpsinEdges : Prop :=
  ∀ (s : State) (r : Requester) (e : T96) (v : U64) (falling : Bool), Live s →
    (falling ≠ (s.app 0x2122 1 == 1) → Answers (.ppsinEdge e falling) s (fun t => t = s))
    ∧ (∀ pred, falling = (s.app 0x2122 1 == 1) → s.clk.ppsQual = true → s.clk.ppsPred = some pred → s.int 0x2122 2 = 0 →
      (near100ns e pred = true → Answers (.ppsinEdge e falling) s (fun t => t.clk.ppsQual = true ∧ t.clk.ppsBad = 0
        ∧ t.num 0x2122 4 = 1 ∧ t.num 0x2122 6 = s.num 0x2122 6 ∧ t.mem = s.mem))
      ∧ (near100ns e pred = false → s.clk.ppsBad < 2 → Answers (.ppsinEdge e falling) s (fun t => t.clk.ppsQual = true
        ∧ t.clk.ppsBad = s.clk.ppsBad + 1 ∧ t.num 0x2122 6 = (s.num 0x2122 6 + 1) % 2 ^ 32
        ∧ t = { s with od := t.od, clk := t.clk } ∧ KeepsBut [0x212206] s t))
      ∧ (near100ns e pred = false → s.clk.ppsBad = 2 → Answers (.ppsinEdge e falling) s (fun t => t.clk.ppsQual = false
        ∧ t.num 0x2122 6 = (s.num 0x2122 6 + 1) % 2 ^ 32 ∧ t.num 0x2122 4 = 2 ∧ t.mem = s.mem)))
    ∧ (∀ l n, falling = (s.app 0x2122 1 == 1) → s.clk.ppsQual = false → s.synthsStarted = true → s.num 0x2001 6 = 1 → s.int 0x2122 2 = 0 → s.clk.ppsLast = some l →
        near100ns e (nextSecond l) = true → s.clk.ppsGood = 2 → s.clk.ppsLabel = some n → Answers (.ppsinEdge e falling) s (fun t =>
          t.clk.ppsQual = true ∧ t.num 0x2122 4 = 1 ∧ t.clk.ppsLabel = some (n + 1) ∧ t.mem = s.mem))
    ∧ (s.num 0x2122 4 ≠ 0 → Answers .ppsinLoss s (fun t => t.clk.ppsQual = false ∧ t.num 0x2122 4 = 2 ∧ t.mem = s.mem))
    ∧ (MayWrite s r → v.toNat < 2 ^ 48 → Answers (.ppsSecondWrite r v) s (fun t => t.clk.ppsLabel = some v.toNat
        ∧ t = { s with clk := t.clk }))

/-- The active source lost is qualified no more; a holdover past its limit ends in INVALID; a time written is followed where
free run is the first qualified source (R132-R134, R136, R143). PTP and distributed clocks as time sources (R134, R139, R140).
Model readings and choices: log entry 19. -/
def Obligations.TimeSources : Prop :=
  (∀ (s : State) (r : Requester) (v : T96), Live s →
    (∀ c, 1 ≤ c → c ≤ 5 → s.num 0x2120 3 = c → Answers .timeSourceLoss s (fun t => t.qualified c = false ∧ t.mem = s.mem
      ∧ (s.clk.freeRun = none → t.ctl.time = s.ctl.time)))
    ∧ (s.num 0x2120 2 = 3 → Answers .holdoverLimitExpiry s (fun t => t.num 0x2120 2 = 0 ∧ t.num 0x2120 3 = 0
        ∧ t.clk.holdover = none ∧ t.ctl.time = s.ctl.time ∧ t.mem = s.mem))
    ∧ (MayWrite s r → Answers (.setTimeWrite r v) s (fun t => t.clk.freeRun.isSome = true ∧ t.mem = s.mem
        ∧ (s.clk.everValid = false → s.sources.find? (fun c => c == 5 || s.qualified c) = some 5 →
            t.now = v ∧ t.num 0x2120 2 = 2 ∧ t.num 0x2120 3 = 5))))
  ∧ (∀ (s : State) (p : Fin 2) (hdr : PtpHeader) (peer : Bool) (t1 t2 t3 t4 : T96) (corr : Int) (ann : Announce) (dc : U64), Live s →
    (s.ptpTakes p hdr = false → ∀ c ∈ [Instr.ptpSyncReceived p hdr t1 t2 corr, .ptpAnnounceReceived p hdr ann,
      .ptpDelayResponse p hdr peer t1 t2 t3 t4], Answers c s (fun t => t = s))
    ∧ (s.fromMaster p hdr = false → Answers (.ptpSyncReceived p hdr t1 t2 corr) s (fun t => t = s)
        ∧ Answers (.ptpDelayResponse p hdr false t1 t2 t3 t4) s (fun t => t = s))
    ∧ (peer ≠ (s.app 0x2123 3 == 1) → Answers (.ptpDelayResponse p hdr peer t1 t2 t3 t4) s (fun t => t = s))
    ∧ (s.ptpTakes p hdr = true →
      (peer = (s.app 0x2123 3 == 1) → peer = true ∨ s.fromMaster p hdr = true → Answers (.ptpDelayResponse p hdr peer t1 t2 t3 t4) s
        (fun t => (t.ptpPort p).delay = (t96Diff t2 t1 + t96Diff t4 t3).fdiv 2 ∧ t = { s with clk := t.clk }))
      ∧ (s.int 0x2123 5 = 0 → s.fromMaster p hdr = true → Answers (.ptpSyncReceived p hdr t1 t2 corr) s (fun t =>
          t.num 0x2123 6 = bitsOf 64 (unitsToPs (t96Diff t2 t1 - corr - (s.ptpPort p).delay))
          ∧ ((t96Diff t2 t1 - corr - (s.ptpPort p).delay).natAbs * 1000000 < 2 ^ 48 → (t.ptpPort p).good = (s.ptpPort p).good + 1)
          ∧ (2 ^ 48 ≤ (t96Diff t2 t1 - corr - (s.ptpPort p).delay).natAbs * 1000000 → (t.ptpPort p).good = 0
              ∧ (t.ptpPort p).qualified = false)
          ∧ t.mem = s.mem))
      ∧ ((s.ptpPort p).master = none ∨ (∃ m, (s.ptpPort p).master = some m ∧ announceRank ann < announceRank m) →
          Answers (.ptpAnnounceReceived p hdr ann) s (fun t => (t.ptpPort p).master = some ann
            ∧ t.num 0x2123 7 = ann.identity.toNat ∧ t.mem = s.mem))
      ∧ (∀ m, (s.ptpPort p).master = some m → announceRank m ≤ announceRank ann → ann.identity ≠ m.identity →
          Answers (.ptpAnnounceReceived p hdr ann) s (fun t => t = s)))
    ∧ Answers (.dcSync0 dc) s (fun t => t.num 0x2124 2 = (if s.clk.dcWritten then 2 else 1) ∧ t.clk.dcQual = s.clk.dcWritten
        ∧ t.mem = s.mem))

/-- Several devices: a follower aligns in PREOP to 256 regular edges, counts an edge beyond 10 ps, and reports a slip at the
sixteenth in a row; a leader drives SYNCOUT at the grid indices that are multiples of 2^K (R148-R152). Model readings and choices: log entries 8 and 19. -/
def Obligations.SyncAlignment : Prop :=
  ∀ (s : State) (r : Requester) (e : T96) (stamps : List T96) (index : U64), Live s →
    (MayWrite s r → s.ctl.dev = .preop → s.follows = true → Answers (.syncAlign r) s (fun t => t.clk.aligning = true
      ∧ t = { s with clk := t.clk }))
    ∧ (MayWrite s r → s.ctl.dev ≠ .preop → Answers (.syncAlign r) s (fun t => t.num 0x2002 2 = 0x08000022 ∧ t.clk = s.clk))
    ∧ (s.clk.aligning = true → Answers (.syncAlignComplete stamps) s (fun t => t.clk.aligning = false ∧ t.mem = s.mem
        ∧ (stamps.length < 256 → t.num 0x2130 5 = 2 ∧ t.clk.aligned = s.clk.aligned)
        ∧ (256 ≤ stamps.length → s.syncRegular stamps = false → t.num 0x2130 5 = 3 ∧ t.clk.aligned = s.clk.aligned)
        ∧ (256 ≤ stamps.length → s.syncRegular stamps = true →
            ((∃ e ∈ stamps, 2 ^ (s.syncEntry 2 - 2) * 2 ^ 48 < (s.syncResidual e).natAbs) → t.num 0x2130 5 = 5
              ∧ t.clk.aligned = s.clk.aligned)
            ∧ ((∀ e ∈ stamps, (s.syncResidual e).natAbs ≤ 2 ^ (s.syncEntry 2 - 2) * 2 ^ 48) → t.num 0x2130 5 = 1
              ∧ t.clk.aligned = true))))
    ∧ (s.ctl.dev.runs = true → s.follows = true → Answers (.syncinEdge e) s (fun t =>
        ((s.residualFs (s.syncResidual e)).natAbs ≤ 10000 → t.clk.slipRun = 0 ∧ t.num 0x2130 7 = s.num 0x2130 7)
        ∧ (10000 < (s.residualFs (s.syncResidual e)).natAbs → s.clk.slipRun ≠ 15 → t.clk.slipRun = s.clk.slipRun + 1
            ∧ t.num 0x2130 7 = s.num 0x2130 7)
        ∧ (10000 < (s.residualFs (s.syncResidual e)).natAbs → s.clk.slipRun = 15 → t.clk.slipRun = 0
            ∧ t.num 0x2130 7 = (s.num 0x2130 7 + 1) % 2 ^ 32 ∧ t.num 0x2130 5 = 4)
        ∧ t.mem = s.mem ∧ t.chans = s.chans))
    ∧ (s.app 0x2130 1 = 1 ∨ (s.app 0x2130 1 = 3 ∧ s.clk.aligned = true) → index.toNat % 2 ^ s.app 0x2130 2 = 0 →
        Answers (.syncoutPulse index) s (fun t => t = s.emit (.syncPulse index.toNat (s.loopPhase 8))))
    ∧ (s.app 0x2130 1 = 0 ∨ s.app 0x2130 1 = 2 ∨ (s.app 0x2130 1 = 3 ∧ s.clk.aligned = false) ∨ index.toNat % 2 ^ s.app 0x2130 2 ≠ 0 →
        Answers (.syncoutPulse index) s (fun t => t = s))

/-! ### RF sampling, conditioner and calibration (chapters 1 and 4) -/

/-- A channel that delivers takes overload excursions of 100 ps or more beyond its threshold and frames of 4,096 samples, or the
fewer that a stop leaves; one whose converter runs while it delivers nothing passes the boundary; a riser overflow stops it and a
resume lets it deliver again and counts the rate fault; one that does not deliver takes none of them (R12-R15, R147, R161-R163, R168,
R172, R175). Model readings and choices: log entry 21. -/
def Obligations.FramesAndTheRiser : Prop :=
  ∀ (s : State) (c : Ch) (negative : Bool) (peak : Int) (a b : U64) (full : Option U64) (d : Nat) (slow : Option (Fin 17))
    (samples : List RawSample), Live s → lookAhead < samples.length → samples.length ≤ frameSamples →
    ((s.chan c).delivers = false →
      (∀ i ∈ [Instr.overloadExcursion c negative peak a b full d, .converterRiserWarning c, .converterRiserOverflow c],
        Answers i s (fun t => t = s))
      ∧ ((s.chan c).on = false ∨ (s.chan c).gated = true ∨ (s.chan c).shed = true →
          Answers (.conditionerFrame c samples) s (fun t => t = s))
      ∧ ((s.chan c).on = true → (s.chan c).gated = false → (s.chan c).shed = false → Answers (.conditionerFrame c samples) s (fun t =>
          (t.chan c).counter = ceilTo 4096 (s.chan c).counter + 4096 ∧ (t.chan c).frames = (s.chan c).frames ∧ OneChan c s t
          ∧ t.liveNum (0x2180 + 16 * c.val) 2 = ceilTo 4096 (s.chan c).counter % 2 ^ 64
          ∧ t = { s with od := t.od, live := t.live, chans := t.chans })))
    ∧ ((s.chan c).discard = false → Answers (.converterRiserResume c slow) s (fun t => t = s))
    ∧ ((s.chan c).delivers = true →
      (d < 100 ∨ peak ≤ 100 * s.bcfgInt (.conditioner c) (0x2200 + 16 * c.val) 7 →
        Answers (.overloadExcursion c negative peak a b full d) s (fun t => t = s))
      ∧ (100 ≤ d → 100 * s.bcfgInt (.conditioner c) (0x2200 + 16 * c.val) 7 < peak →
        Answers (.overloadExcursion c negative peak a b full d) s (fun t =>
          (∃ e : Excursion, (t.chan c).overSpans = (s.chan c).overSpans ++ [e] ∧ e.negative = negative
            ∧ e.first = unwrap64 (s.chan c).counter a ∧ e.last = unwrap64 (s.chan c).counter b ∧ e.last ≤ e.clear
            ∧ (full = none → e.clear = e.last)
            ∧ (∀ n, full = some n → unwrap64 (s.chan c).counter n + s.recoverySamples c ≤ e.clear))
          ∧ t.chan c = { s.chan c with overSpans := (t.chan c).overSpans } ∧ OneChan c s t ∧ t = { s with chans := t.chans }))
      ∧ ((s.chan c).counter % 4096 = 0 → Answers (.conditionerFrame c samples) s (fun t =>
          (t.chan c).counter = (s.chan c).counter + (samples.length - 17)
          ∧ (∃ f, (t.chan c).frames.head? = some f ∧ f.s0 = (s.chan c).counter ∧ f.len = samples.length - 17
              ∧ f.q = (s.condition c (samples.length - 17) samples).q
              ∧ f.raw = (s.condition c (samples.length - 17) samples).raw ∧ f.mark.pour = some (s.pourOf (condBlock c)))
          ∧ (t.chan c).elements = (s.chan c).elements ∧ OneChan c s t))
      ∧ ((s.chan c).counter % 4096 ≠ 0 → Answers (.conditionerFrame c samples) s (fun t => t = s))
      ∧ Answers (.converterRiserWarning c) s (fun t => OnlyReports s t ∧ Journalled t 2 1 7)
      ∧ Answers (.converterRiserOverflow c) s (fun t => (t.chan c).discard = true ∧ (t.chan c).delivers = false
          ∧ (t.chan c).counter = (s.chan c).counter ∧ OneChan c s t))
    ∧ ((s.chan c).discard = true → Answers (.converterRiserResume c slow) s (fun t => (t.chan c).discard = false
        ∧ (s.chan c).counter ≤ (t.chan c).counter ∧ OneChan c s t
        ∧ (slow = none → ∃ e, t.flt.journal.head? = some e ∧ e.subsys = 7 ∧ e.cls = 3 ∧ e.element = rateElement c
            ∧ (e.kind = 1 ∨ e.kind = 3))))

/-- Background calibration: a window shadows the next slot where nothing forbids it; its estimate waits 100 µs and is taken if
it lies in range and the spare serves no slot (R178-R182, R195). A spare slice or comparator pair takes over where a takeover is due,
and only there (R194, R197). Model readings and choices: log entry 22. -/
def Obligations.BackgroundCalibrationAndSpares : Prop :=
  (∀ (s : State) (c : Ch) (pairs : List GatherPair) (level : Int), Live s → pairs ≠ [] →
    ((s.chan c).delivers = true ∧ (s.chan c).shadow = none ∧ s.num 0x2F80 3 = 1 ∧ s.hea.level = 0 ∧ s.num (0x2203 + 16 * c.val) 1 = 0
        ∧ s.retuneDue = false ∧ (s.chan c).takeover = none →
      Answers (.bgCalWindowStart c) s (fun t =>
        t.chan c = { s.chan c with shadow := some (s.chan c).nextSlot } ∧ OneChan c s t
        ∧ t.num (0x2203 + 16 * c.val) 3 = (s.chan c).nextSlot % 256 ∧ t.num (0x2203 + 16 * c.val) 1 = 1
        ∧ t = { s with od := t.od, chans := t.chans }
        ∧ KeepsBut [keyOf (0x2203 + 16 * c.val) 1, keyOf (0x2203 + 16 * c.val) 3] s t))
    ∧ ((s.chan c).delivers = false ∨ (s.chan c).shadow ≠ none ∨ s.num 0x2F80 3 ≠ 1 ∨ s.hea.level ≠ 0
        ∨ s.num (0x2203 + 16 * c.val) 1 ≠ 0 ∨ s.retuneDue = true ∨ (s.chan c).takeover ≠ none →
      Answers (.bgCalWindowStart c) s (fun t => t = s))
    ∧ ((s.chan c).shadow = none → Answers (.bgCalWindowEnd c pairs level) s (fun t => t = s))
    ∧ (∀ k, (s.chan c).shadow = some k → Answers (.bgCalWindowEnd c pairs level) s (fun t =>
        (∃ x, (t.chan c).est = some { slot := k, at' := s.now, est := x } ∧ (x.loud = true ↔ -5120 ≤ level)
            ∧ ∃ free, x = estimateOf (s.chanRate c) pairs x.loud free)
        ∧ t.chan c = { s.chan c with shadow := none, nextSlot := (k + 1) % 64, est := (t.chan c).est }
        ∧ OneChan c s t ∧ t.num (0x2203 + 16 * c.val) 3 = 255 ∧ t.num (0x2203 + 16 * c.val) 1 = 0
        ∧ t.num (0x2203 + 16 * c.val) 6 = (s.num (0x2203 + 16 * c.val) 6 + (if -5120 ≤ level then 0 else 1)) % 2 ^ 32
        ∧ (k = 63 → t.num 0x2F80 8 = (s.num 0x2F80 8 + 1) % 2 ^ 32) ∧ (k ≠ 63 → t.num 0x2F80 8 = s.num 0x2F80 8)
        ∧ t = { s with od := t.od, ctl := { s.ctl with drawn := s.ctl.drawn + 1 }, chans := t.chans }))
    ∧ ((s.chan c).est = none → Answers (.bgCalEstimateApply c) s (fun t => t = s))
    ∧ (∀ x, (s.chan c).est = some x →
      (s.now.toNat < (t96Add x.at' (nsToT96 100000)).toNat → Answers (.bgCalEstimateApply c) s (fun t => t = s))
      ∧ ((t96Add x.at' (nsToT96 100000)).toNat ≤ s.now.toNat →
        (s.num (0x2203 + 16 * c.val) 2 < 64 → Answers (.bgCalEstimateApply c) s (fun t =>
          t.chan c = { s.chan c with est := none } ∧ OneChan c s t ∧ t = { s with chans := t.chans }))
        ∧ (64 ≤ s.num (0x2203 + 16 * c.val) 2 →
          (∀ e, updateElement ((s.elementsOf c).getD x.slot default) x.est = some e → Answers (.bgCalEstimateApply c) s (fun t =>
            t.chan c = { s.chan c with est := none, elements := (s.elementsOf c).set x.slot e } ∧ OneChan c s t
            ∧ e.offset = x.est.offset ∧ elementInRange e.offset e.gain e.skew = true
            ∧ (x.est.loud = true → e.gain = x.est.gain ∧ e.skew = x.est.skew)
            ∧ (x.est.loud = false → e.gain = ((s.elementsOf c).getD x.slot default).gain
                ∧ e.skew = ((s.elementsOf c).getD x.slot default).skew)
            ∧ t = { s with chans := t.chans }))
          ∧ (updateElement ((s.elementsOf c).getD x.slot default) x.est = none → Answers (.bgCalEstimateApply c) s (fun t =>
            (t.chan c).est = none ∧ (t.chan c).elements = (s.chan c).elements ∧ OneChan c s t
            ∧ t.num (0x2203 + 16 * c.val) 4 = (s.num (0x2203 + 16 * c.val) 4 + 1) % 2 ^ 32 ∧ t.mem = s.mem))))))
  ∧ (∀ (s : State) (c : Ch), Live s →
    ((s.chan c).takeover = none → Answers (.sliceSpareTakeover c) s (fun t => t = s))
    ∧ (∀ k, (s.chan c).takeover = some k → k < 64 → (s.elementsOf c).length = 65 → Answers (.sliceSpareTakeover c) s (fun t =>
        (t.chan c).takeover = none ∧ (t.chan c).est = none
        ∧ (t.chan c).elements.getD k default = { (s.elementsOf c).getD 64 default with spare := true }
        ∧ (t.chan c).elements.getD 64 default = { (s.elementsOf c).getD k default with retired := true }
        ∧ (∀ j, j ≠ k → j ≠ 64 → (t.chan c).elements.getD j default = (s.elementsOf c).getD j default)
        ∧ t.num (0x2203 + 16 * c.val) 1 = 2 ∧ t.num (0x2203 + 16 * c.val) 2 = k
        ∧ t.liveNum (0x2201 + 16 * c.val) 7 = (if (s.chan c).degraded = [] then 2 else 3)
        ∧ Journalled t 3 2 2 ∧ OneChan c s t
        ∧ t = { s with od := t.od, live := t.live, chans := t.chans, ctl := t.ctl, flt := t.flt, dma := t.dma, out := t.out }
        ∧ KeepsGroups ([keyOf (0x2203 + 16 * c.val) 1, keyOf (0x2203 + 16 * c.val) 2] ++ reportKeys) [0x2201 + 16 * c.val] s t))
    ∧ ((s.chan c).cmpTakeover = false → Answers (.comparatorSpareTakeover c) s (fun t => t = s))
    ∧ ((s.chan c).cmpTakeover = true → Answers (.comparatorSpareTakeover c) s (fun t =>
        t.chan c = { s.chan c with cmpTakeover := false } ∧ t.num (0x2203 + 16 * c.val) 7 = 1 ∧ OneChan c s t
        ∧ t = { s with od := t.od, chans := t.chans } ∧ KeepsBut [keyOf (0x2203 + 16 * c.val) 7] s t)))

/-- Foreground calibration: the request of a pour stops the channel and opens the isolation switch; the residual input, forty
windows with their tones and the set that was computed decide its result, and a known result ends it and closes the switch; a set
that was made is stored then, becomes active when the channel is resumed, and the channel delivers again (R184-R188). Model readings
and choices: log entry 22. -/
def Obligations.ForegroundCalibration : Prop :=
  ∀ (s : State) (c : Ch), Live s →
    (s.fgRequest c = none → Answers (.fgCalStart c) s (fun t => t = s))
    ∧ (∀ p, s.fgRequest c = some p →
      ((s.chan c).fgPour = p → Answers (.fgCalStart c) s (fun t => t = s))
      ∧ ((s.chan c).fgPour ≠ p → (s.chan c).delivers = true → s.retuneDue = false → Answers (.fgCalStart c) s (fun t =>
          (∃ f, (t.chan c).fg = some f ∧ f.start = s.now ∧ f.settled = false ∧ f.windows = 0 ∧ f.result = 0 ∧ f.auto = false)
          ∧ (t.chan c).isolated = true ∧ (t.chan c).tone = some 0
          ∧ (t.chan c).fgPour = p ∧ (t.chan c).delivers = false ∧ t.liveNum (0x2201 + 16 * c.val) 6 = 2 ∧ OneChan c s t)))
    ∧ ((s.chan c).fg = none → ∀ level, ∀ i ∈ [Instr.fgCalSettled c level, .fgCalWindowEnd c level, .fgCalResume c],
        Answers i s (fun t => t = s))
    ∧ ∀ f, (s.chan c).fg = some f →
      (f.settled = false → f.result = 0 → ∀ level,
        (level < -5120 → s.retuneDue = false → Answers (.fgCalSettled c level) s (fun t =>
          (t.chan c).fg = some { f with settled := true } ∧ OneChan c s t ∧ t = { s with chans := t.chans }))
        ∧ (-5120 ≤ level ∨ s.retuneDue = true → Answers (.fgCalSettled c level) s (fun t =>
          (t.chan c).fg = some { f with result := if -5120 ≤ level then 3 else 2 } ∧ (t.chan c).isolated = false
          ∧ (t.chan c).tone = none ∧ t.num (0x2F00 + 16 * c.val) 0x0B = (if -5120 ≤ level then 3 else 2)
          ∧ t.num (0x2F00 + 16 * c.val) 0x0C = s.now.toNat
          ∧ OneChan c s t ∧ t = { s with od := t.od, chans := t.chans }
          ∧ KeepsBut [keyOf (0x2F00 + 16 * c.val) 0x0B, keyOf (0x2F00 + 16 * c.val) 0x0C, 0x2F8006] s t)))
      ∧ (f.settled = true → f.result = 0 → f.windows < 40 → ∀ level,
        (toneOff c f.windows level = false → s.isLasting .tone (elementOf c 0) = false → s.retuneDue = false →
          Answers (.fgCalWindowEnd c level) s (fun t => (t.chan c).fg = some { f with windows := f.windows + 1 }
            ∧ (t.chan c).tone = some (if f.windows < 39 then f.windows + 1 else 0)
            ∧ OneChan c s t ∧ t = { s with chans := t.chans }))
        ∧ (toneOff c f.windows level = true → Answers (.fgCalWindowEnd c level) s (fun t =>
            (t.chan c).fg = some { f with windows := f.windows + 1, result := 5 } ∧ (t.chan c).isolated = false
            ∧ OneChan c s t ∧ t.mem = s.mem)))
      ∧ (f.windows = 40 → f.result = 0 → ∀ cal : CalData, cal.elements.length = 65 → cal.taps.length = 33 →
        (∀ e ∈ (s.chan c).sets, e.1 < 8) →
        ((∀ k, k < 64 → elementInRange (cal.elements.getD k default).offset (cal.elements.getD k default).gain
            (cal.elements.getD k default).skew = true) → Answers (.fgCalComplete c cal) s (fun t =>
          (∃ k : CalSet, (t.chan c).fg = some { f with result := 1, made := some k } ∧ k.key = s.chanRate c ∧ k.taps = cal.taps
              ∧ ∃ i, Tab.get (fun _ => CalSet.empty) (t.chan c).sets i = k)
          ∧ (t.chan c).stored = (s.chan c).stored + 1 ∧ t.num 0x2F80 7 = (s.num 0x2F80 7 + 1) % 2 ^ 32
          ∧ t.num (0x2F00 + 16 * c.val) 0x0B = 1
          ∧ (t.chan c).elements = (s.chan c).elements ∧ OneChan c s t ∧ t = { s with od := t.od, chans := t.chans }))
        ∧ ((∃ k, k < 64 ∧ elementInRange (cal.elements.getD k default).offset (cal.elements.getD k default).gain
            (cal.elements.getD k default).skew = false) → Answers (.fgCalComplete c cal) s (fun t =>
          (t.chan c).fg = some { f with result := 6 } ∧ t.num (0x2F00 + 16 * c.val) 0x0B = 6
          ∧ (t.chan c).elements = (s.chan c).elements ∧ (t.chan c).sets = (s.chan c).sets ∧ OneChan c s t)))
      ∧ (f.result ≠ 0 → Answers (.fgCalResume c) s (fun t => ∃ u : State,
          t = (if f.auto then u else u.restartChannel c) ∧ (u.chan c).fg = none ∧ (u.chan c).sets = (s.chan c).sets
          ∧ (f.made = none → u.chan c = { s.chan c with fg := none } ∧ u = { s with chans := u.chans })
          ∧ (f.made.isSome = true → ∀ i k, (s.chan c).setOf (s.chanRate c) = some (i, k) → (u.chan c).active = some i
              ∧ (u.chan c).elements = fitElements k.elements (s.served c) ∧ (u.chan c).taps = k.taps
              ∧ (u.chan c).factory = false)
          ∧ OneChan c s u))

/-- A calibration set written in PREOP is stored under its key, and is not active by that; a wrong length, version or CRC is
refused, and so is any set outside PREOP (R51, R191). The user banks of DDCs and windows: an image that is not in order and a
bank in use are refused, and the rest stored (R226, R227, R245, R247). Model readings and choices: log entry 22. -/
def Obligations.BanksAndCalibrationSets : Prop :=
  (∀ (s : State) (r : Requester) (c : Ch) (image : List Byte), Live s → MayWrite s r →
    (s.ctl.dev ≠ .preop → Answers (.calSetImport r c image) s (fun t => t.num 0x2002 2 = 0x08000022 ∧ t.chans = s.chans))
    ∧ (s.ctl.dev = .preop →
      (image.length ≠ 668 ∨ field image 8 4 ≠ 1 ∨ field image 12 4 ≠ (crc32c (image.drop 16)).toNat →
        Answers (.calSetImport r c image) s (fun t => t.num 0x2002 2 = 0x06090030 ∧ t.chans = s.chans))
      ∧ (image.length = 668 → field image 8 4 = 1 → field image 12 4 = (crc32c (image.drop 16)).toNat →
        (∀ e ∈ (s.chan c).sets, e.1 < 8) → Answers (.calSetImport r c image) s (fun t =>
          (t.chan c).stored = (s.chan c).stored + 1 ∧ (t.chan c).elements = (s.chan c).elements
          ∧ (t.chan c).active = (s.chan c).active
          ∧ (∃ i k, Tab.get (fun _ => CalSet.empty) (t.chan c).sets i = k ∧ k.key = field image 0 8 ∧ k.elements.length = 65
              ∧ k.taps.length = 33 ∧ t.num (0x2F00 + 16 * c.val) (2 + i) = field image 0 8
              ∧ ∀ j, j ≠ i → Tab.get (fun _ => CalSet.empty) (t.chan c).sets j = Tab.get (fun _ => CalSet.empty) (s.chan c).sets j)
          ∧ OneChan c s t ∧ t = { s with od := t.od, chans := t.chans }))))
  ∧ (∀ (s : State) (r : Requester) (c : Ch) (k : DdcIx) (bank : Bool) (image : List Byte), Live s → MayWrite s r →
    (bankImageOk image = false → Answers (.ddcBankWrite r c k bank image) s (fun t => t.num 0x2002 2 = 0x06090030
      ∧ t = { s with od := t.od, out := t.out } ∧ KeepsBut [0x200201, 0x200202, 0x200203, 0x200204] s t))
    ∧ (bankImageOk image = true → s.bankUsed c k (if bank then 3 else 2) = true → Answers (.ddcBankWrite r c k bank image) s (fun t =>
      t.num 0x2002 2 = 0x08000020 ∧ t = { s with od := t.od, out := t.out }
      ∧ KeepsBut [0x200201, 0x200202, 0x200203, 0x200204] s t))
    ∧ (bankImageOk image = true → s.bankUsed c k (if bank then 3 else 2) = false → Answers (.ddcBankWrite r c k bank image) s (fun t =>
      t.bankImage c k (if bank then 3 else 2) = image ∧ t = { s with od := t.od }
      ∧ KeepsBut [keyOf ((if bank then 0x230A else 0x2309) + 16 * c.val) (k.val + 1)] s t))
    ∧ (windowImageOk image = false → Answers (.transformBankWrite r bank image) s (fun t => t.num 0x2002 2 = 0x06090030
      ∧ t = { s with od := t.od, out := t.out } ∧ KeepsBut [0x200201, 0x200202, 0x200203, 0x200204] s t))
    ∧ (windowImageOk image = true → s.windowUsed (if bank then 6 else 5) = true → Answers (.transformBankWrite r bank image) s (fun t =>
      t.num 0x2002 2 = 0x08000020 ∧ t = { s with od := t.od, out := t.out }
      ∧ KeepsBut [0x200201, 0x200202, 0x200203, 0x200204] s t))
    ∧ (windowImageOk image = true → s.windowUsed (if bank then 6 else 5) = false → Answers (.transformBankWrite r bank image) s (fun t =>
      (t.val 0x2481 (if bank then 2 else 1)).data = image ∧ t = { s with od := t.od }
      ∧ KeepsBut [keyOf 0x2481 (if bank then 2 else 1)] s t)))

/-! ### DDCs (chapter 5) -/

/-- A DDC's outputs and resets: an output comes once its latest input is there and no reset and no resumption comes first, labels
advance by D, and an output whose history reaches before the reset is invalid and zero (R202, R215, R218-R220). A fade starts with
the first output at or after the boundary of a change of response, or the change waits in the slot while another one runs; it ends
after its F outputs, and the change in the slot starts its own (R223-R225). Model readings and choices: log entries 23 and 24. -/
def Obligations.DdcOutputsResetsAndFades : Prop :=
  (∀ (s : State) (c : Ch) (k : DdcIx), Live s →
    let d := s.ddc c k
    let q := s.ddcBase c k
    let ne := d.nextEnd q
    (d.on = true → (∀ nr, d.resetDue = some nr → ne < nr) → (∀ nr, d.resumeIx = some nr → ne < nr) →
        (s.chan c).covers ne (ne + 1) = true →
      Answers (.ddcOutput c k) s (fun t =>
        (t.ddc c k).nextLabel = d.nextLabel + q.dec ∧ (t.ddc c k).resetIx = d.resetIx ∧ (t.ddc c k).resetDue = d.resetDue
        ∧ (∃ o, (t.ddc c k).outs.head? = some o ∧ o.label = d.nextLabel
            ∧ (o.valid = true ↔ ((d.resetIx + q.invalid * q.dec : Nat) : Int) ≤ d.nextLabel)
            ∧ (o.valid = false → o.i = 0 ∧ o.q = 0 ∧ o.mark = Mark.empty))
        ∧ (∀ (c' : Ch) (k' : DdcIx), c' ≠ c ∨ k' ≠ k → t.ddc c' k' = s.ddc c' k') ∧ t.chans = s.chans ∧ t.ctl = s.ctl))
    ∧ (d.on = false ∨ (∃ nr, d.resetDue = some nr ∧ nr ≤ ne) ∨ (∃ nr, d.resumeIx = some nr ∧ nr ≤ ne)
        ∨ (s.chan c).covers ne (ne + 1) = false →
      Answers (.ddcOutput c k) s (fun t => t = s))
    ∧ (d.resetDue = none → Answers (.ddcSyncReset c k) s (fun t => t = s))
    ∧ ∀ nr, d.resetDue = some nr →
      (s.ddcReady c k = true → Answers (.ddcSyncReset c k) s (fun t => t = s))
      ∧ (d.on = false ∨ nr ≤ ne ∨ (∃ m, d.resumeIx = some m ∧ m ≤ ne) ∨ (s.chan c).covers ne (ne + 1) = false →
        let p := s.ddcPour c k nr
        let r := s.ddcShape p c k
        Answers (.ddcSyncReset c k) s (fun t =>
          (t.ddc c k).on = s.cfgOn p (0x2300 + 16 * c.val + k.val) 1 ∧ (t.ddc c k).resetIx = nr
          ∧ (t.ddc c k).nextLabel = r.firstLabel nr ∧ (t.ddc c k).resetDue = d.resetLater.head? ∧ (t.ddc c k).fade = none
          ∧ (t.ddc c k).slot = none ∧ (t.ddc c k).recOuts = [] ∧ (t.ddc c k).resp = r.resp ∧ (t.ddc c k).resumeIx = none
          ∧ (∀ (c' : Ch) (k' : DdcIx), c' ≠ c ∨ k' ≠ k → t.ddc c' k' = s.ddc c' k') ∧ t.chans = s.chans ∧ t.ctl = s.ctl)))
  ∧ (∀ (s : State) (c : Ch) (k : DdcIx), Live s →
    let d := s.ddc c k
    let ne := d.nextEnd (s.ddcBase c k)
    let p := s.ddcPour c k ne
    let q := s.ddcShape p c k
    (d.on = false ∨ (∃ nr, d.resetDue = some nr ∧ nr ≤ ne) → Answers (.ddcFadeStart c k) s (fun t => t = s))
    ∧ (d.on = true → (∀ nr, d.resetDue = some nr → ne < nr) →
      (q.preset = 4 ∨ q.resp = d.asked → Answers (.ddcFadeStart c k) s (fun t =>
          t.ddc c k = { d with before := p } ∧ t = { s with ddcs := t.ddcs }))
      ∧ (q.preset ≠ 4 → q.resp ≠ d.asked → d.fade = none → Answers (.ddcFadeStart c k) s (fun t =>
          t.ddc c k = { d with before := p, fade := some (
            { old := d.resp, new := q.resp, done := 0, len := s.cfg p (0x2300 + 16 * c.val + k.val) 9, oldPour := d.before,
              newPour := p } : Fade) }
          ∧ t = { s with live := t.live, ddcs := t.ddcs } ∧ LiveBut [keyOf (0x2308 + 16 * c.val) (2 + k.val)] s t))
      ∧ (∀ f, q.preset ≠ 4 → q.resp ≠ d.asked → d.fade = some f → Answers (.ddcFadeStart c k) s (fun t =>
          t.ddc c k = { d with before := p, slot := some (q.resp, p) }
          ∧ t = { s with live := t.live, ddcs := t.ddcs } ∧ LiveBut [keyOf (0x2308 + 16 * c.val) (2 + k.val)] s t)))
    ∧ (d.fade = none → Answers (.ddcFadeEnd c k) s (fun t => t = s))
    ∧ ∀ f, d.fade = some f →
      (f.done < f.len → Answers (.ddcFadeEnd c k) s (fun t => t = s))
      ∧ (f.len ≤ f.done → Answers (.ddcFadeEnd c k) s (fun t =>
          (t.ddc c k).resp = f.new ∧ (t.ddc c k).slot = none
          ∧ (d.slot = none → (t.ddc c k).fade = none)
          ∧ (∀ p', d.slot = some (f.new, p') → (t.ddc c k).fade = none)
          ∧ (∀ r p', d.slot = some (r, p') → r ≠ f.new → ∃ g, (t.ddc c k).fade = some g ∧ g.old = f.new ∧ g.new = r ∧ g.done = 0
              ∧ g.oldPour = f.newPour ∧ g.newPour = p')
          ∧ (t.ddc c k).nextLabel = d.nextLabel
          ∧ t = { s with live := t.live, ddcs := t.ddcs } ∧ LiveBut [keyOf (0x2308 + 16 * c.val) (2 + k.val)] s t)))

/-! ### Transforms (chapter 6) -/

/-- Direct, filterbank and fallback frames, and side frames: each is produced once its span was delivered, and the next one
starts a hop later; a frame with a flagged token or an uncorrectable SRAM word is lost (R237, R262, R266, R275, R393). Two-pass
frames, whose intermediate stands in HBM between the passes, lane spares, and the return from the fallback of Q4 (R257, R258,
R261-R264, R276, R382). Model readings and choices: log entry 25. -/
def Obligations.TransformAndTwoPassFrames : Prop :=
  (∀ (s : State) (c : Ch) (e : Option LaneError) (ecc : Ecc), Live s →
    let j := 0x2403 + 16 * c.val
    (∀ q p, s.frameShape c (s.xf c).nextMain = (q, p) →
      let s0 := (s.xf c).nextMain
      let goes := s.mainOn c ((s.xf c).cfgAt (s0 + q.step)).pour
      (s.mainOn c p = false ∨ q.twoPass = true ∨ (s.chan c).covers s0 (s0 + q.span) = false →
        Answers (.mainFrame c e ecc) s (fun t => t = s))
      ∧ (s.mainOn c p = true → q.twoPass = false → (s.chan c).covers s0 (s0 + q.span) = true →
        (e = none → hasFlag (s.xf c).flagged s0 (s0 + q.span) = false → ecc ≠ .uncorrectable →
          Answers (.mainFrame c e ecc) s (fun t => t.liveNum j 2 = (s.liveNum j 2 + 1) % 2 ^ 64
            ∧ t.liveNum j 3 = s.liveNum j 3 ∧ t.liveNum j 8 = s0 % 2 ^ 64
            ∧ (goes = true → (t.xf c).nextMain = s0 + q.step ∧ t.liveNum j 4 = q.n % 256
                ∧ t.liveNum j 7 = (if q.fallback then 3 else 1))
            ∧ (∀ c' : Ch, c' ≠ c → t.xf c' = { s.xf c' with recent := (t.xf c').recent }) ∧ t.chans = s.chans))
        ∧ (hasFlag (s.xf c).flagged s0 (s0 + q.span) = true ∨ ecc = .uncorrectable
            ∨ (∃ x, e = some x ∧ (s.xf c).logical x.lane.val = some (x.index % 16) ∧ s0 ≤ x.index ∧ x.index < s0 + q.span) →
          Answers (.mainFrame c e ecc) s (fun t => t.liveNum j 3 = (s.liveNum j 3 + 1) % 2 ^ 32
            ∧ t.liveNum j 2 = s.liveNum j 2 ∧ t.liveNum j 8 = s.liveNum j 8 ∧ (goes = true → (t.xf c).nextMain = s0 + q.step)
            ∧ (∀ c' : Ch, c' ≠ c → t.xf c' = s.xf c') ∧ t.chans = s.chans))))
    ∧ ∀ side on n hop w, let s0 := if side = .density then (s.xf c).nextDens else (s.xf c).nextTrig
      let p := pourAt (if side = .density then (s.xf c).densPours else (s.xf c).trigPours) s0
      s.sideShape p c side = (on, n, hop, w) →
      (on = false ∨ (s.chan c).covers s0 (s0 + n) = false → Answers (.sideFrame c side e) s (fun t => t = s))
      ∧ (on = true → (s.chan c).covers s0 (s0 + n) = true →
        (e = none → hasFlag (s.xf c).sideFlagged s0 (s0 + n) = false → Answers (.sideFrame c side e) s (fun t =>
          (if side = .density then t.xf c = { s.xf c with nextDens := s0 + hop, sideFlagged := (t.xf c).sideFlagged }
            else t.xf c = { s.xf c with nextTrig := s0 + hop, sideFlagged := (t.xf c).sideFlagged })
          ∧ (∀ c' : Ch, c' ≠ c → t.xf c' = s.xf c')
          ∧ t = { s with xfs := t.xfs, trigs := t.trigs, dens := t.dens }))
        ∧ (e = none → hasFlag (s.xf c).sideFlagged s0 (s0 + n) = true → Answers (.sideFrame c side e) s (fun t =>
          (if side = .density then (t.xf c).nextDens = s0 + hop else (t.xf c).nextTrig = s0 + hop)
          ∧ t.liveNum j 0x0A = (s.liveNum j 0x0A + 1) % 2 ^ 32
          ∧ (∀ c' : Ch, c' ≠ c → t.xf c' = s.xf c')
          ∧ t = { s with live := t.live, xfs := t.xfs, trigs := t.trigs, dens := t.dens }))))
  ∧ (∀ (s : State) (c : Ch) (e : Option LaneError), Live s →
    let j := 0x2403 + 16 * c.val
    (∀ q p, s.frameShape c (s.xf c).nextMain = (q, p) →
      let s0 := (s.xf c).nextMain
      let a := cornerTurnAddr c (s.xf c).buffer
      (s.mainOn c p = false ∨ q.twoPass = false ∨ (s.xf c).pass2 ≠ none ∨ (s.xf c).bx ≠ none
          ∨ (s.chan c).covers s0 (s0 + q.len) = false → Answers (.pass2Start c e) s (fun t => t = s))
      ∧ (s.mainOn c p = true → q.twoPass = true → (s.xf c).pass2 = none → (s.xf c).bx = none →
          (s.chan c).covers s0 (s0 + q.len) = true → s.mainOn c ((s.xf c).cfgAt (s0 + q.len)).pour = true →
        (e = none → (s.xf c).pass1Lost = false → hasFlag (s.xf c).flagged s0 (s0 + q.len) = false →
          Answers (.pass2Start c e) s (fun t =>
            (t.xf c).nextMain = s0 + q.len
            ∧ (t.xf c).pass2 = some { s0 := s0, n := q.n, lost := false, pour := p, buffer := (s.xf c).buffer, held := false }
            ∧ (t.xf c).pass1Lost = false ∧ (t.xf c).buffer = !(s.xf c).buffer
            ∧ t.mem = storeBytes s.mem a (s.intermediate c s0 q)
            ∧ (∀ x, x < a ∨ a + (s.intermediate c s0 q).length ≤ x → t.byteAt x = s.byteAt x)
            ∧ (∀ c' : Ch, c' ≠ c → t.xf c' = s.xf c') ∧ t.hbm = { s.hbm with queue := t.hbm.queue }
            ∧ t = { s with xfs := t.xfs, hbm := t.hbm, mem := t.mem }))
        ∧ ((s.xf c).pass1Lost = true ∨ hasFlag (s.xf c).flagged s0 (s0 + q.len) = true →
          Answers (.pass2Start c e) s (fun t => (t.xf c).nextMain = s0 + q.len ∧ t.mem = s.mem
            ∧ (∃ f, (t.xf c).pass2 = some f ∧ f.s0 = s0 ∧ f.lost = true) ∧ (t.xf c).pass1Lost = false
            ∧ (∀ c' : Ch, c' ≠ c → t.xf c' = s.xf c')))))
    ∧ ((s.xf c).pass2 = none → Answers (.twoPassFrameComplete c e) s (fun t => t = s))
    ∧ (∀ f, (s.xf c).pass2 = some f → e = none → f.held = true → Answers (.twoPassFrameComplete c e) s (fun t => t = s))
    ∧ (∀ f, (s.xf c).pass2 = some f → e = none → f.held = false → Answers (.twoPassFrameComplete c e) s (fun t =>
        (t.xf c).pass2 = none ∧ (t.xf c).nextMain = (s.xf c).nextMain
        ∧ (f.lost = true → t.liveNum j 3 = (s.liveNum j 3 + 1) % 2 ^ 32 ∧ t.liveNum j 2 = s.liveNum j 2)
        ∧ (f.lost = false → t.liveNum j 2 = (s.liveNum j 2 + 1) % 2 ^ 64 ∧ t.liveNum j 3 = s.liveNum j 3
            ∧ t.liveNum j 8 = f.s0 % 2 ^ 64)
        ∧ (∀ c' : Ch, c' ≠ c → t.xf c' = { s.xf c' with recent := (t.xf c').recent }) ∧ t.chans = s.chans))
    ∧ ((s.xf c).laneTakeover = none → Answers (.laneSpareTakeover c) s (fun t => t = s))
    ∧ (∀ l, (s.xf c).laneTakeover = some l → l < 256 → Answers (.laneSpareTakeover c) s (fun t =>
        t.xf c = { s.xf c with
          laneTakeover := none, spareLane := some l, laneHit := [], pass2 := (s.xf c).pass2.map (fun f => { f with held := false }) }
        ∧ t.liveNum j 5 = l ∧ (∀ n ∈ (s.xf c).laneHit, s.isRecordRunner n = true → (t.runner n).resumed = true)
        ∧ (∀ c' : Ch, c' ≠ c → t.xf c' = s.xf c')
        ∧ t = { s with od := t.od, live := t.live, xfs := t.xfs, dma := t.dma } ∧ KeepsGroups [] [j] s t))
    ∧ (((s.xf c).cfgAt (s.xf c).nextMain).fb ≠ none → (s.xf c).pass2 = none → Answers (.twoPassStopped c) s (fun t =>
        t.xf c = { s.xf c with stoppedReport := true } ∧ (∀ c' : Ch, c' ≠ c → t.xf c' = s.xf c') ∧ t = { s with xfs := t.xfs }))
    ∧ (((s.xf c).cfgAt (s.xf c).nextMain).fb = none ∨ (s.xf c).pass2 ≠ none → Answers (.twoPassStopped c) s (fun t => t = s))
    ∧ ((s.xf c).bx = none ∨ (∃ b, (s.xf c).bx = some b ∧ (s.xf c).nextMain < b) ∨ s.hbm.step ≠ none ∨ s.hbm.slow = true →
        Answers (.twoPassResume c) s (fun t => t = s))
    ∧ (∀ b, (s.xf c).bx = some b → b ≤ (s.xf c).nextMain → s.hbm.step = none → s.hbm.slow = false →
        Answers (.twoPassResume c) s (fun t =>
          t.xf c = { s.xf c with bx := none, stoppedReport := false, pass1Lost := false }
          ∧ t.liveNum j 7 = (s.frameShape c b).1.state ∧ (∀ c' : Ch, c' ≠ c → t.xf c' = s.xf c')
          ∧ t = { s with od := t.od, live := t.live, xfs := t.xfs, dma := t.dma } ∧ KeepsGroups [] [j] s t)))

/-! ### Triggers (chapter 7) -/

/-- A unit evaluates its oldest input, and no other one: an invalid frame ends the run, a mask condition holds where at least M
columns violate it, and a raw comparison follows threshold and hysteresis (R286, R288, R292, R296). Qualifiers, sequences and
MON pins: a candidate waits until its qualifier, or the first stage, is known; then it is delivered or held off, and both are
counted (R298, R299, R301, R302, R310, R312). Model readings and choices: log entry 26. -/
def Obligations.TriggerEvaluationsAndDecisions : Prop :=
  (∀ (s : State) (u : UnitIx), Live s →
    let j := 0x2508 + 16 * (u.val / 4)
    ((s.trig u).queue = [] → Answers (.triggerEvaluation u) s (fun t => t = s))
    ∧ ∀ i rest, (s.trig u).queue = i :: rest → Answers (.triggerEvaluation u) s (fun t =>
      (t.trig u).queue = rest ∧ (∀ v : UnitIx, v ≠ u → t.trig v = s.trig v) ∧ t.chans = s.chans ∧ t.ctl = s.ctl
      ∧ ((s.trig u).next = [] →
        (∀ f, i = .frame f → f.valid = false → s.tcfg u 1 = 1 ∨ s.tcfg u 1 = 2 →
          (t.trig u).run = none ∧ (t.trig u).cond = false
          ∧ t.liveNum j (0x0A + u.val % 4) = (s.liveNum j (0x0A + u.val % 4) + 1) % 2 ^ 32)
        ∧ (∀ f, i = .frame f → f.valid = true → s.tcfg u 1 = 1 →
          ((t.trig u).cond = true ↔ s.tcfg u 4 ≤ (violations (s.tcfg u 3) (s.cfgData (s.trig u).pour (trigIndex u) 0x1C)
            (s.tcfg u 5) (s.tcfg u 6) f.levels).length))
        ∧ (∀ s0 t0 x m, i = .samples s0 t0 [x] m → s.tcfg u 1 = 3 →
          (t.trig u).cond = valueCond (s.tcfg u 0x0D) (s.trig u).cond x (s.tcfgInt u 0x0B) (s.tcfg u 0x0C)))))
  ∧ (∀ (s : State) (u : UnitIx) (c : Cand), Live s →
    let j := 0x2508 + 16 * (u.val / 4)
    let cc := s.ccfg u c
    let shown := [keyOf j (6 + u.val % 4), keyOf j (0x0E + u.val % 4)]
    ((s.trig u).cands = [] → Answers (.triggerQualifierResolved u) s (fun t => t = s)
      ∧ Answers (.triggerSequenceResolved u) s (fun t => t = s))
    ∧ ((s.trig u).cands = [c] →
      (cc 0x13 = 0 ∨ c.qualified = true → Answers (.triggerQualifierResolved u) s (fun t => t = s))
      ∧ (cc 0x13 ≠ 0 → c.qualified = false →
        (s.qualifierAt (u.val / 4) ((cc 0x13 - 1) % 8) c.nT = none → Answers (.triggerQualifierResolved u) s (fun t => t = s))
        ∧ (s.qualifierAt (u.val / 4) ((cc 0x13 - 1) % 8) c.nT = some (!decide (cc 0x13 ≤ 8)) →
          Answers (.triggerQualifierResolved u) s (fun t => (t.trig u).cands = [] ∧ (t.trig u).made = (s.trig u).made
            ∧ t.liveNum j (6 + u.val % 4) = (s.liveNum j (6 + u.val % 4) + 1) % 2 ^ 32
            ∧ t = { s with live := t.live, trigs := t.trigs } ∧ LiveBut shown s t))
        ∧ (s.qualifierAt (u.val / 4) ((cc 0x13 - 1) % 8) c.nT = some (decide (cc 0x13 ≤ 8)) →
          (cc 0x14 ≠ 0 → Answers (.triggerQualifierResolved u) s (fun t =>
            t.trig u = { s.trig u with cands := [{ c with qualified := true }] }
            ∧ t = { s with live := t.live, trigs := t.trigs } ∧ LiveBut [keyOf j (0x0E + u.val % 4)] s t))
          ∧ (cc 0x14 = 0 → (s.trig u).last = none → Answers (.triggerQualifierResolved u) s (fun t =>
            (t.trig u).cands = [] ∧ (t.trig u).last = some c.nT
            ∧ (∃ q, (t.trig u).made = (c.t, c.nT, s.liveNum j (2 + u.val % 4), q) :: (s.trig u).made) ∧ t.chans = s.chans))))
      ∧ (cc 0x14 = 0 ∨ (cc 0x13 ≠ 0 ∧ c.qualified = false) → Answers (.triggerSequenceResolved u) s (fun t => t = s))
      ∧ (s.evaluatedTo (cc 0x15) c.t (cc 0x16) = false → Answers (.triggerSequenceResolved u) s (fun t => t = s))
      ∧ (cc 0x14 ≠ 0 → cc 0x13 = 0 ∨ c.qualified = true → s.evaluatedTo (cc 0x15) c.t (cc 0x16) = true →
        (s.governing u (cc 0x15) c = none →
          Answers (.triggerSequenceResolved u) s (fun t => (t.trig u).cands = [] ∧ (t.trig u).made = (s.trig u).made
            ∧ t.liveNum j (6 + u.val % 4) = (s.liveNum j (6 + u.val % 4) + 1) % 2 ^ 32
            ∧ t = { s with live := t.live, trigs := t.trigs } ∧ LiveBut shown s t))
        ∧ (∀ tA nA n seq, s.governing u (cc 0x15) c = some (tA, nA, n, seq) → cc 0x17 ≠ 0xFFFFFFFFFFFFFFFF →
          reachesPs c.t tA (cc 0x17) = true →
          Answers (.triggerSequenceResolved u) s (fun t => (t.trig u).cands = [] ∧ (t.trig u).made = (s.trig u).made
            ∧ t.liveNum j (6 + u.val % 4) = (s.liveNum j (6 + u.val % 4) + 1) % 2 ^ 32))
        ∧ (∀ tA nA n seq, s.governing u (cc 0x15) c = some (tA, nA, n, seq) →
          cc 0x17 = 0xFFFFFFFFFFFFFFFF ∨ reachesPs c.t tA (cc 0x17) = false → cc 0x18 = 1 → (s.trig u).last = none →
          Answers (.triggerSequenceResolved u) s (fun t => (t.trig u).cands = [] ∧ (t.trig u).last = some c.nT
            ∧ (∃ q, (t.trig u).made = (c.t, c.nT, s.liveNum j (2 + u.val % 4), q) :: (s.trig u).made) ∧ t.chans = s.chans))))
    ∧ ∀ n : Fin 4, let m := Tab.get (fun _ => Mon.rest) s.mons n.val
      Answers (.monPulseStart n) s (fun t =>
        Tab.get (fun _ => Mon.rest) t.mons n.val = (if m.waiting = 0 then m else { waiting := m.waiting - 1, pulse := true })
        ∧ (∀ k, k ≠ n.val → Tab.get (fun _ => Mon.rest) t.mons k = Tab.get (fun _ => Mon.rest) s.mons k)
        ∧ t = { s with mons := t.mons })
      ∧ Answers (.monPulseEnd n) s (fun t => Tab.get (fun _ => Mon.rest) t.mons n.val = { m with pulse := false }
        ∧ (∀ k, k ≠ n.val → Tab.get (fun _ => Mon.rest) t.mons k = Tab.get (fun _ => Mon.rest) s.mons k)
        ∧ t = { s with mons := t.mons }))

/-! ### Density histograms and reductions (chapter 8) -/

/-- A frame enters the present period once; at the period's end the arrays swap, unless the pass still runs; the pass ends with
its readout array clear (R319-R324, R328, R331). A reduction slot folds its oldest frame into its interval, and delivers the
interval after its last frame (R333, R336, R337). Model readings and choices: log entries 27 and 28. -/
def Obligations.DensityPeriodsAndReductionIntervals : Prop :=
  (∀ (s : State) (c : Ch), Live s →
    let d := s.density c
    (d.queue = [] ∨ d.on = false → Answers (.densityAccumulate c) s (fun t => t = s))
    ∧ (∀ f rest, d.queue = f :: rest → d.on = true → d.stopped f.t0 = true → Answers (.densityAccumulate c) s (fun t =>
        t.density c = { d with queue := if d.asleep f.t0 then rest else d.queue }
        ∧ (∀ c' : Ch, c' ≠ c → t.density c' = s.density c') ∧ t = { s with dens := t.dens }))
    ∧ (∀ f rest, d.queue = f :: rest → d.on = true → d.stopped f.t0 = false → d.started = false →
      Answers (.densityAccumulate c) s (fun t => (t.density c).queue = rest ∧ (t.density c).started = true
        ∧ (t.density c).k = periodOf (s.cfg (s.pourOf (densBlock c)) (0x2600 + 16 * c.val) 2) f.t0
        ∧ t.liveNum (0x2601 + 16 * c.val) 3 = 1
        ∧ (∀ c' : Ch, c' ≠ c → t.density c' = s.density c') ∧ t = { s with od := t.od, live := t.live, dens := t.dens }))
    ∧ (∀ f rest, d.queue = f :: rest → d.on = true → d.started = true → d.stopped f.t0 = false →
      (d.k < periodOf d.ta f.t0 → d.late = false → Answers (.densityAccumulate c) s (fun t => t = s))
      ∧ (periodOf d.ta f.t0 ≤ d.k → f.s0 / f.hop % 2 ^ s.cfg d.pour (0x2600 + 16 * c.val) 8 = 0 →
        (f.valid = false → Answers (.densityAccumulate c) s (fun t =>
          t.density c = { d with queue := rest, skipped := d.skipped + 1 }
          ∧ (∀ c' : Ch, c' ≠ c → t.density c' = s.density c') ∧ t = { s with dens := t.dens }))
        ∧ (f.valid = true → f.levels.length = d.cols → Answers (.densityAccumulate c) s (fun t =>
          (t.density c).queue = rest ∧ (t.density c).frames = d.frames + 1 ∧ (t.density c).skipped = d.skipped
          ∧ (t.density c).readout = d.readout ∧ (t.density c).k = d.k
          ∧ (∀ k, counterAt d.active k ≤ 65535 → counterAt d.active k ≤ counterAt (t.density c).active k)
          ∧ (∀ c' : Ch, c' ≠ c → t.density c' = s.density c') ∧ t = { s with dens := t.dens }))))
    ∧ (d.on = false ∨ d.started = false ∨ d.late = true ∨ s.periodDue c = false →
      Answers (.densityPeriodBoundary c) s (fun t => t = s))
    ∧ (d.on = true → d.started = true → d.late = false → s.periodDue c = true →
      (d.drain ≠ none → Answers (.densityPeriodBoundary c) s (fun t => (t.density c).late = true ∧ (t.density c).active = d.active
        ∧ (t.density c).k = d.k ∧ t.liveNum (0x2601 + 16 * c.val) 8 = (s.liveNum (0x2601 + 16 * c.val) 8 + 1) % 2 ^ 32
        ∧ Journalled t 2 9 7 ∧ t.mem = s.mem))
      ∧ (d.drain = none → s.cfgOn (s.pourOf (densBlock c)) (0x2600 + 16 * c.val) 1 = true →
          s.cfg (s.pourOf (densBlock c)) (0x2600 + 16 * c.val) 2 = d.ta → 0 < d.ta →
          Answers (.densityPeriodBoundary c) s (fun t => (t.density c).k = d.k + 1 ∧ (t.density c).active = []
            ∧ (t.density c).readout = d.active ∧ (t.density c).frames = 0 ∧ (t.density c).clear = false
            ∧ (∃ r, (t.density c).drain = some r ∧ r.k = d.k ∧ r.frames = d.frames ∧ r.skipped = d.skipped)
            ∧ t.liveNum (0x2601 + 16 * c.val) 4 = d.frames % 2 ^ 32 ∧ t.liveNum (0x2601 + 16 * c.val) 5 = d.skipped % 2 ^ 32
            ∧ t = { s with od := t.od, live := t.live, dens := t.dens } ∧ KeepsGroups [] [0x2601 + 16 * c.val] s t)))
    ∧ (d.retained = true → Answers (.densityDrainComplete c) s (fun t => t = s))
    ∧ (d.retained = false → d.late = false → d.drain = none → Answers (.densityDrainComplete c) s (fun t => t = s))
    ∧ (∀ r, d.retained = false → d.late = false → d.drain = some r → Answers (.densityDrainComplete c) s (fun t =>
        (t.density c).drain = none ∧ (t.density c).readout = [] ∧ (t.density c).frames = d.frames
        ∧ (r.seed = none → (t.density c).active = d.active) ∧ t.chans = s.chans))
    ∧ (∀ r, MayWrite s r → Answers (.densityClear r c) s (fun t => t.density c = { d with clear := true }
        ∧ (∀ c' : Ch, c' ≠ c → t.density c' = s.density c') ∧ t = { s with dens := t.dens }))
    ∧ (d.stop = none ∨ d.queue = [] → Answers (.densityRestart c) s (fun t => t = s))
    ∧ (∀ ts f rest, d.stop = some ts → d.queue = f :: rest →
        (f.t0.toNat < ts.toNat ∨ d.asleep f.t0 = true ∨ (s.chan c).delivers = false → Answers (.densityRestart c) s (fun t => t = s))
        ∧ (ts.toNat ≤ f.t0.toNat → d.asleep f.t0 = false → (s.chan c).delivers = true → Answers (.densityRestart c) s (fun t =>
          (t.density c).stop = none ∧ (t.density c).retained = false ∧ t.chans = s.chans
          ∧ (d.retained = false → d.started = true → periodOf d.ta f.t0 ≤ d.k →
              t.density c = { d with stop := none, wakeAt := none, flags := d.flags ||| 1 }
              ∧ t.liveNum (0x2601 + 16 * c.val) 3 = 1
              ∧ t = { s with od := t.od, live := t.live, dens := t.dens, dma := t.dma })))))
  ∧ (∀ (s : State) (c : Ch) (r : Fin 6), Live s →
    let q := s.red c r
    (q.queue = [] → Answers (.reductionFrame c r) s (fun t => t = s))
    ∧ (∀ x rest, q.queue = x :: rest → Answers (.reductionFrame c r) s (fun t => (t.red c r).queue = rest ∧ t.chans = s.chans))
    ∧ (∀ z g rest, q.queue = .frame z :: rest → q.like = some g → sameGeometry g z = true → z.s0 < q.stop →
      (z.s0 + z.hop < q.stop → Answers (.reductionFrame c r) s (fun t =>
        (t.red c r).queue = rest ∧ (t.red c r).m = q.m + 1 ∧ (t.red c r).start = q.start ∧ (t.red c r).stop = q.stop
        ∧ (t.red c r).mark = q.mark.join z.recMark ∧ t = { s with reds := t.reds }))
      ∧ (q.stop ≤ z.s0 + z.hop → Answers (.reductionFrame c r) s (fun t =>
        (t.red c r).queue = rest ∧ (t.red c r).like = none ∧ (t.red c r).m = 0 ∧ (t.red c r).stop = q.stop ∧ t.chans = s.chans)))
    ∧ (∀ z cause g rest, q.queue = .lost z cause :: rest → q.like = some g → sameGeometry g z = true → z.s0 + z.hop < q.stop →
      Answers (.reductionFrame c r) s (fun t =>
        t.red c r = { q with queue := rest, lossCause := cause } ∧ t = { s with reds := t.reds })))

/-! ### Segmented capture (chapter 9) -/

/-- Arm, Stop, Abort, Force trigger and Release (R353-R357, R363). A decision is ignored while the channel stops or inside the
re-arm gap, and opens the next segment otherwise; the header of a segment that closed is written in its place (R352, R359-R362,
R368). Model readings and choices: log entry 29. -/
def Obligations.CaptureControlsAndSegments : Prop :=
  (∀ (s : State) (r : Requester) (c : Ch) (seg : U32), Live s → MayWrite s r →
    let q := s.cap c
    let j := 0x2701 + 16 * c.val
    ((s.chan c).on = false → Answers (.captureArm r c) s (fun t => t = s))
    ∧ ((s.chan c).on = true → s.cur (0x2700 + 16 * c.val) 1 = 0 → Answers (.captureArm r c) s (fun t =>
        (t.cap c).armed = false ∧ t.liveNum j 2 = 0 ∧ (∀ d : Ch, d ≠ c → t.cap d = s.cap d)
        ∧ t = { s with od := t.od, live := t.live, caps := t.caps } ∧ KeepsGroups [] [j] s t ∧ LiveBut [keyOf j 2, keyOf j 8] s t))
    ∧ ((s.chan c).on = true → s.cur (0x2700 + 16 * c.val) 1 ≠ 0 → q.queue = [] → Answers (.captureArm r c) s (fun t =>
        (t.cap c).armed = true ∧ (t.cap c).mode = s.cur (0x2700 + 16 * c.val) 1 ∧ (t.cap c).len = s.cur (0x2700 + 16 * c.val) 2
        ∧ (t.cap c).count = s.cur (0x2700 + 16 * c.val) 4 ∧ (t.cap c).base = s.cur (0x2700 + 16 * c.val) 5
        ∧ (t.cap c).next = 0 ∧ (t.cap c).queue = [] ∧ (t.cap c).decisions = [] ∧ (t.cap c).filled = [] ∧ (t.cap c).released = 0
        ∧ (t.cap c).stopping = false ∧ (t.cap c).losses = q.losses ∧ (t.cap c).headed = 0 ∧ (t.cap c).w = q.w ∧ (t.cap c).armIx = ceilTo 128 q.w ∧ (t.cap c).m = ceilTo 128 q.w
        ∧ t.pourOf (.capture c) = s.ctl.currentPour ∧ t.liveNum j 3 = (s.liveNum j 3 + 1) % 2 ^ 32
        ∧ t.liveNum j 2 = (if q.shed then 4 else 1)
        ∧ (∀ d : Ch, d ≠ c → t.cap d = s.cap d) ∧ t = { s with od := t.od, live := t.live, ctl := t.ctl, caps := t.caps }
        ∧ KeepsGroups [] [j] s t ∧ LiveBut [keyOf j 2, keyOf j 3, keyOf j 8] s t))
    ∧ (q.armed = false → Answers (.captureStop r c) s (fun t => t = s) ∧ Answers (.captureAbort r c) s (fun t => t = s)
        ∧ Answers (.captureForceTrigger r c) s (fun t => t = s))
    ∧ (q.armed = true →
      Answers (.captureStop r c) s (fun t => (t.cap c).queue = q.queue
        ∧ (q.queue = [] → (t.cap c).armed = false ∧ (t.cap c).decisions = [] ∧ t.liveNum j 2 = 5)
        ∧ (q.queue ≠ [] → t.cap c = { q with stopping := true } ∧ t.liveNum j 2 = (if q.shed then 4 else 2))
        ∧ (∀ d : Ch, d ≠ c → t.cap d = s.cap d) ∧ t = { s with od := t.od, live := t.live, caps := t.caps }
        ∧ KeepsGroups [] [j] s t ∧ LiveBut [keyOf j 2] s t)
      ∧ Answers (.captureAbort r c) s (fun t => (t.cap c).armed = false ∧ (t.cap c).decisions = [] ∧ t.liveNum j 2 = 5
        ∧ (∀ g ∈ (t.cap c).queue, g.closing = true)
        ∧ (∀ d : Ch, d ≠ c → t.cap d = s.cap d) ∧ t = { s with od := t.od, live := t.live, caps := t.caps }
        ∧ KeepsGroups [] [j] s t ∧ LiveBut [keyOf j 2, keyOf j 8] s t)
      ∧ (q.mode = 1 ∨ q.mode = 2 → q.follow = 255 → Answers (.captureForceTrigger r c) s (fun t =>
        t.cap c = { q with decisions := q.decisions ++ [(
          { unit := 16, number := 0, nT := (s.chan c).counter - 1, t := s.sampleTime c ((s.chan c).counter - 1) } : Decision)] }
        ∧ (∀ d : Ch, d ≠ c → t.cap d = s.cap d) ∧ t = { s with caps := t.caps })))
    ∧ Answers (.captureRelease r c seg) s (fun t =>
        (∀ k, k < q.next → q.next - k < 2 ^ 32 → k % 2 ^ 32 = seg.toNat → t.cap c = { q with released := max q.released (k + 1) })
        ∧ ((∀ k, k < q.next → q.next - k < 2 ^ 32 → k % 2 ^ 32 ≠ seg.toNat) →
            t.cap c = { q with released := max q.released q.next })
        ∧ t.num (0x2700 + 16 * c.val) 0x0F = seg.toNat
        ∧ (∀ d : Ch, d ≠ c → t.cap d = s.cap d) ∧ t = { s with od := t.od, caps := t.caps }
        ∧ KeepsBut [keyOf (0x2700 + 16 * c.val) 0x0F] s t))
  ∧ (∀ (s : State) (c : Ch), Live s →
    let q := s.cap c
    let j := 0x2701 + 16 * c.val
    (q.decisions = [] → Answers (.captureDecision c) s (fun t => t = s))
    ∧ (∀ d rest, q.decisions = d :: rest → d.unit = 16 →
      (q.stopping = true ∨ q.shed = true ∨ 32 ≤ q.waiting ∨ (q.mode = 1 ∧ q.count ≤ q.next) ∨ d.nT < q.m →
        Answers (.captureDecision c) s (fun t => t.cap c = { q with decisions := rest }
          ∧ (q.follow ≠ c.val → t.liveNum j 7 = (s.liveNum j 7 + 1) % 2 ^ 32) ∧ (∀ d' : Ch, d' ≠ c → t.cap d' = s.cap d')
          ∧ t = { s with od := t.od, live := t.live, caps := t.caps }
          ∧ KeepsGroups [] [j] s t ∧ LiveBut [keyOf j 2, 0x270107, 0x271107, 0x272107, 0x273107] s t))
      ∧ (q.stopping = false → q.shed = false → q.blocked = false → q.mode = 2 → q.follow = 255 → 0 < q.len →
          q.m ≤ d.nT → q.waiting < 32 →
          q.lossIn (max ((d.nT - q.pre) / 128 * 128) q.firstOf) (max ((d.nT - q.pre) / 128 * 128) q.firstOf + q.len) = none →
          q.w ≤ max ((d.nT - q.pre) / 128 * 128) q.firstOf + q.len →
        Answers (.captureDecision c) s (fun t => (t.cap c).decisions = rest ∧ (t.cap c).next = q.next + 1
          ∧ t.liveNum j 6 = (s.liveNum j 6 + 1) % 2 ^ 32
          ∧ (∃ g, (t.cap c).queue = q.queue ++ [g] ∧ g.number = q.next ∧ g.nT = d.nT ∧ g.unit = 0xFE
              ∧ g.s0 = max ((d.nT - q.pre) / 128 * 128) q.firstOf ∧ g.stop = g.s0 + q.len ∧ (t.cap c).lastEnd = some g.stop
              ∧ (t.cap c).m = g.stop + s.rearmGap c)
          ∧ (∀ d' : Ch, d' ≠ c → (s.cap d').follow ≠ c.val → t.cap d' = s.cap d')
          ∧ t = { s with od := t.od, live := t.live, caps := t.caps })))
    ∧ (q.queue = [] → Answers (.segmentClose c) s (fun t => t = s))
    ∧ ∀ g rest, q.queue = g :: rest →
      (g.closing = false → Answers (.segmentClose c) s (fun t => t = s))
      ∧ (g.closing = true → Answers (.segmentClose c) s (fun t => (t.cap c).queue = rest))
      ∧ (g.closing = true → q.notice = 0xFFFFFFFF → q.byStore = false → Answers (.segmentClose c) s (fun t =>
          t.load (q.base + 64 * (g.number % q.count)) 64 = s.segHeader c g g.mark (s.pourOf (capBlock c))
          ∧ (∀ a, a < q.base + 64 * (g.number % q.count) ∨ q.base + 64 * (g.number % q.count) + 64 ≤ a → t.byteAt a = s.byteAt a)
          ∧ t.liveNum j 4 = (s.liveNum j 4 + 1) % 2 ^ 64 ∧ t.liveNum j 5 = g.number % 2 ^ 32
          ∧ (t.cap c).headed = g.number + 1 ∧ t.hbm = { s.hbm with queue := t.hbm.queue }
          ∧ (∀ d : Ch, d ≠ c → t.cap d = s.cap d)
          ∧ t = { s with od := t.od, live := t.live, ctl := t.ctl, caps := t.caps, mem := t.mem, hbm := t.hbm }
          ∧ KeepsGroups [] [j] s t)))

/-! ### HBM and SRAM (chapter 9) -/

/-- The slot table, refresh, training and frequency steps of HBM (R372, R376, R379, R381-R383). Bursts, check bits and overruns
of HBM, and the wake of an SRAM group (R12, R374, R378, R385-R388, R396). Model readings and choices: log entries 30 and 31. -/
def Obligations.HbmScheduleAndAccesses : Prop :=
  (∀ (s : State) (ch : Fin 64) (d : Fin 16) (b : Bool), Live s →
    let k := if s.hbm.slow then 1 else 0
    (s.ctl.hbmReady = false → Answers .tableCycleStart s (fun t => t = s))
    ∧ (s.ctl.hbmReady = true → Answers .tableCycleStart s (fun t =>
        t.pourOf .slotTable = newerPour (s.newestPour s.now) (s.pourOf .slotTable)
        ∧ t.hbm = { s.hbm with
            table := imageCodes (s.cfgData (t.pourOf .slotTable) 0x2800 1), q4 := t.hbm.q4, step := t.hbm.step
            gathering := t.hbm.gathering }
        ∧ (∀ up, s.hbm.step ∈ [none, some (up, .stopped), some (up, .training)] →
            t.hbm.q4 = s.hbm.q4 ∧ t.hbm.step = s.hbm.step ∧ t.hbm.gathering = s.hbm.gathering)
        ∧ (∀ up, s.hbm.step = some (up, .requested) → t.hbm.gathering = s.hbm.gathering
            ∧ (s.hbm.gathering = [] → t.hbm.step = some (up, .stopped) ∧ t.hbm.q4 = true)
            ∧ (s.hbm.gathering ≠ [] → t.hbm.step = s.hbm.step ∧ t.hbm.q4 = s.hbm.q4))
        ∧ (∀ up, s.hbm.step = some (up, .moved) → t.hbm.step = some (up, .training) ∧ t.hbm.q4 = s.hbm.q4
            ∧ (∀ n, n < 16 → Tab.get (fun _ => false) t.hbm.gathering n = true) ∧ t.liveNum 0x2801 2 = 3)
        ∧ t.liveNum 0x2801 3 = (s.liveNum 0x2801 3 + 1) % 2 ^ 64 ∧ t.liveNum 0x2801 4 = t.hbm.table.length % 2 ^ 16
        ∧ t.liveNum 0x2801 5 = (t.hbm.table.filter realTime).length % 2 ^ 16
        ∧ t.liveNum 0x2801 6 = (if (q4Schedule t.hbm.table).2 then 1 else 0)
        ∧ t.liveNum 0x2801 7 = (if t.stepAvailable then 1 else 0)
        ∧ t.num 0x2801 1 = (s.num 0x2801 1 + 1) % 2 ^ 32
        ∧ t.num 0x2802 1 = (s.num 0x2802 1 + 1) % 2 ^ 32 ∧ t.num 0x2810 1 = (s.num 0x2810 1 + 1) % 2 ^ 32
        ∧ t = { s with od := t.od, live := t.live, ctl := t.ctl, hbm := t.hbm }
        ∧ t.ctl = { s.ctl with blockPour := t.ctl.blockPour }
        ∧ KeepsGroups [] [0x2801, 0x2802, 0x2810] s t
        ∧ LiveBut [0x280102, 0x280103, 0x280104, 0x280105, 0x280106, 0x280107] s t))
    ∧ (b = false ∨ s.busRuns = false → Answers (.refreshDue ch b) s (fun t => t = s))
    ∧ (s.busRuns = true → Answers (.refreshDue ch true) s (fun t =>
        Tab.get (fun _ => 0) t.hbm.debt ch.val = min 8 (Tab.get (fun _ => 0) s.hbm.debt ch.val + 1)
        ∧ (∀ n, n ≠ ch.val → Tab.get (fun _ => 0) t.hbm.debt n = Tab.get (fun _ => 0) s.hbm.debt n)
        ∧ t = { s with live := t.live, hbm := { s.hbm with debt := t.hbm.debt } } ∧ LiveBut [0x280108] s t))
    ∧ Answers .refreshReserveSlot s (fun t =>
        (∀ n, n % 2 ≠ k ∨ 128 ≤ n ∨ Tab.get (fun _ => false) s.hbm.fresh (n / 8) = false →
          Tab.get (fun _ => 0) t.hbm.params n = Tab.get (fun _ => 0) s.hbm.params n)
        ∧ (∀ n, n < 128 → n % 2 = k → Tab.get (fun _ => false) s.hbm.fresh (n / 8) = true →
          ∃ m, s.ctl.drawn ≤ m ∧ m < t.ctl.drawn ∧ Tab.get (fun _ => 0) t.hbm.params n = Config.freeValue m)
        ∧ t = { s with ctl := { s.ctl with drawn := t.ctl.drawn }
                       hbm := { s.hbm with debt := [], fresh := [], params := t.hbm.params } })
    ∧ (s.ctl.hbmReady = true → b = true ∨ s.hea.level = 0 → s.hbm.step = none →
        Tab.get (fun _ => false) s.hbm.gathering d.val = false → Answers (.trainingWindowStart d b) s (fun t =>
          Tab.get (fun _ => false) t.hbm.gathering d.val = true
          ∧ (∀ n, n ≠ d.val → Tab.get (fun _ => false) t.hbm.gathering n = Tab.get (fun _ => false) s.hbm.gathering n)
          ∧ (∃ bs, t.hbm.queue = s.hbm.queue ++ bs ∧ bs.map Burst.chan = (List.range 4).map (fun i => 4 * d.val + i)
              ∧ ∀ x ∈ bs, x.cls = 0 ∧ x.owner = trainingOwner ∧ x.write = false ∧ 1 ≤ x.beats ∧ x.beats ≤ 32)
          ∧ t = { s with ctl := { s.ctl with drawn := s.ctl.drawn + 4 }
                         hbm := { s.hbm with gathering := t.hbm.gathering, queue := t.hbm.queue } }))
    ∧ (s.ctl.hbmReady = false ∨ (b = false ∧ s.hea.level ≠ 0) ∨ s.hbm.step ≠ none
        ∨ Tab.get (fun _ => false) s.hbm.gathering d.val = true → Answers (.trainingWindowStart d b) s (fun t => t = s))
    ∧ (Tab.get (fun _ => false) s.hbm.gathering d.val = false → Answers (.trainingWindowEnd d) s (fun t => t = s))
    ∧ (Tab.get (fun _ => false) s.hbm.gathering d.val = true → Answers (.trainingWindowEnd d) s (fun t =>
        Tab.get (fun _ => false) t.hbm.gathering d.val = false ∧ Tab.get (fun _ => false) t.hbm.fresh d.val = true
        ∧ (∀ x ∈ t.hbm.queue, x.owner = trainingOwner → x.chan / 4 ≠ d.val)
        ∧ (∀ x ∈ s.hbm.queue, x.owner ≠ trainingOwner ∨ x.chan / 4 ≠ d.val → x ∈ t.hbm.queue)
        ∧ t = { s with hbm := { s.hbm with gathering := t.hbm.gathering, fresh := t.hbm.fresh, queue := t.hbm.queue } }))
    ∧ (s.ctl.hbmReady = true → s.hbm.step = none → s.hbm.slow = b → s.liveNum 0x2801 6 = 1 → s.liveNum 0x2801 7 = 1 →
        b = true ∨ 4 ≤ s.hea.level → s.twoPassIdle = true → Answers (.hbmFreqStepRequest b) s (fun t => t.liveNum 0x2801 2 = 2
          ∧ t = { s with live := t.live, hbm := { s.hbm with step := some (b, .requested) } } ∧ LiveBut [0x280102] s t))
    ∧ (s.ctl.hbmReady = false ∨ s.hbm.step ≠ none ∨ s.hbm.slow ≠ b ∨ s.liveNum 0x2801 6 ≠ 1 ∨ s.liveNum 0x2801 7 ≠ 1
        ∨ (b = false ∧ s.hea.level < 4) ∨ s.twoPassIdle = false → Answers (.hbmFreqStepRequest b) s (fun t => t = s))
    ∧ (s.hbm.step = none → Answers .hbmFreqSwitch s (fun t => t = s) ∧ Answers .hbmFreqStepComplete s (fun t => t = s))
    ∧ (∀ up ph, s.hbm.step = some (up, ph) →
        (ph = .moved ∨ ph = .training ∨ (ph = .requested ∧ s.hbm.gathering ≠ []) → Answers .hbmFreqSwitch s (fun t => t = s))
        ∧ (ph = .stopped ∨ (ph = .requested ∧ s.hbm.gathering = []) → Answers .hbmFreqSwitch s (fun t =>
            t = { s with ctl := { s.ctl with drawn := t.ctl.drawn }
                         hbm := { s.hbm with
                           step := some (up, .moved), slow := !up, q4 := true, fresh := [], params := t.hbm.params } }
            ∧ (∀ n, n % 2 ≠ k → Tab.get (fun _ => 0) t.hbm.params n = Tab.get (fun _ => 0) s.hbm.params n)))
        ∧ (ph ≠ .training → Answers .hbmFreqStepComplete s (fun t => t = s))
        ∧ (ph = .training → Answers .hbmFreqStepComplete s (fun t =>
            t.hbm = { s.hbm with step := none, q4 := s.hbm.slow, gathering := [], fresh := []
                                 params := t.hbm.params, queue := t.hbm.queue }
            ∧ (∀ n, n % 2 ≠ k → Tab.get (fun _ => 0) t.hbm.params n = Tab.get (fun _ => 0) s.hbm.params n)
            ∧ (∀ x ∈ s.hbm.queue, x.owner ≠ trainingOwner → x ∈ t.hbm.queue)
            ∧ t.liveNum 0x2801 2 = (if s.hbm.slow then 1 else 0)
            ∧ t = { s with live := t.live, ctl := { s.ctl with drawn := t.ctl.drawn }, hbm := t.hbm } ∧ LiveBut [0x280102] s t))))
  ∧ (∀ (s : State) (slot : Nat) (ch : Fin 64) (e : Ecc) (addr : BitVec 37) (q : Fin 4) (owner : Byte) (g : SramGroup), Live s →
    let o := s.slotOwner slot
    let own := if realTime o then s.hbm.queue.find? (fun x => x.owner == o && x.chan == ch.val && s.slotServes x) else none
    (s.busRuns = false ∨ o = 0xFF → Answers (.hbmBurst slot ch e) s (fun t => t = s))
    ∧ (∀ b, s.busRuns = true → o ≠ 0xFF → own = some b ∨ (own = none ∧ b.beats ≤ 32 ∧ ∃ p, s.bestEffort ch = some (b, p)) →
        (b.write = true ∨ b.owner = trainingOwner ∨ e = .clean → Answers (.hbmBurst slot ch e) s (fun t =>
          (∀ x ∈ t.hbm.queue, x ∈ s.hbm.queue) ∧ (∀ x ∈ s.hbm.queue, x.chan ≠ ch.val → x ∈ t.hbm.queue)
          ∧ t.hbm.queue.length < s.hbm.queue.length
          ∧ t = { s with live := t.live, hbm := { s.hbm with queue := t.hbm.queue } } ∧ LiveBut [0x28010A] s t))
        ∧ (own = some b → b.write = false → b.owner ≠ trainingOwner → 5 ≤ o → o ≤ 8 →
            Answers (.hbmBurst slot ch .uncorrectable) s (fun t => t.liveNum 0x2802 3 = (s.liveNum 0x2802 3 + 1) % 2 ^ 32
              ∧ t.liveNum 0x2802 6 = o
              ∧ (t.xf (o - 5)).pass2 = ((s.xf (o - 5)).pass2).map (fun f => { f with lost := true }) ∧ t.mem = s.mem)))
    ∧ (s.busRuns = true → o ≠ 0xFF → own = none → s.bestEffort ch = none → Answers (.hbmBurst slot ch e) s (fun t =>
        Tab.get (fun _ => 0) t.hbm.debt ch.val = Tab.get (fun _ => 0) s.hbm.debt ch.val - 1 ∧ t.hbm.queue = s.hbm.queue
        ∧ t = { s with hbm := { s.hbm with debt := t.hbm.debt } }))
    ∧ (s.busRuns = false ∨ s.hea.level ≠ 0 ∨ s.bestEffort (addr.toNat / 8 * 8 / 2 ^ 11 % 64) ≠ none →
        Answers (.patrolScrubRead addr e) s (fun t => t = s))
    ∧ (s.busRuns = true → s.hea.level = 0 → addr.toNat / 8 * 8 < hbmBytes → s.bestEffort (addr.toNat / 8 * 8 / 2 ^ 11 % 64) = none →
        let a := addr.toNat / 8 * 8
        let read := addSpan s.hbm.scrubbed a (a + 8)
        Answers (.patrolScrubRead addr .clean) s (fun t =>
          (read = [(0, hbmBytes)] → t.hbm.scrubbed = [] ∧ t.liveNum 0x2802 8 = (s.liveNum 0x2802 8 + 1) % 2 ^ 32)
          ∧ (read ≠ [(0, hbmBytes)] → t.hbm.scrubbed = read ∧ t.live = s.live)
          ∧ t = { s with live := t.live, hbm := { s.hbm with scrubbed := t.hbm.scrubbed } } ∧ LiveBut [0x280208] s t)
        ∧ Answers (.patrolScrubRead addr .corrected) s (fun t => t.liveNum 0x2802 2 = (s.liveNum 0x2802 2 + 1) % 2 ^ 64
          ∧ t.liveNum 0x2802 4 = a ∧ t.liveNum 0x2802 5 = 1 ∧ t.liveNum 0x2802 6 = 0 ∧ t.liveNum 0x2802 3 = s.liveNum 0x2802 3
          ∧ (∃ x, t.hbm.queue = s.hbm.queue ++ [x] ∧ x.cls = 3 ∧ x.addr = a ∧ x.write = true) ∧ t.mem = s.mem
          ∧ t.hbm = { s.hbm with queue := t.hbm.queue, scrubbed := t.hbm.scrubbed })
        ∧ Answers (.patrolScrubRead addr .uncorrectable) s (fun t => t.liveNum 0x2802 3 = (s.liveNum 0x2802 3 + 1) % 2 ^ 32
          ∧ t.liveNum 0x2802 4 = a ∧ t.liveNum 0x2802 5 = 2 ∧ t.liveNum 0x2802 2 = s.liveNum 0x2802 2
          ∧ t.mem = s.mem ∧ t.hbm = { s.hbm with scrubbed := t.hbm.scrubbed }))
    ∧ (s.riserFill q ≤ riserBeats → Answers (.hbmWriteRiserOverflow q owner) s (fun t => t = s))
    ∧ (riserBeats < s.riserFill q →
      Answers (.hbmWriteRiserOverflow q owner) s (fun t => Journalled t 2 12 9 ∧ t.mem = s.mem
        ∧ t.liveNum 0x2801 9 = (s.liveNum 0x2801 9 + 1) % 2 ^ 32
        ∧ (s.newestWrite q owner.toNat = none → t.hbm = s.hbm ∧ t.xfs = s.xfs ∧ t.caps = s.caps)
        ∧ ∀ b, s.newestWrite q owner.toNat = some b →
          t.hbm = { s.hbm with queue := s.hbm.queue.erase b }
          ∧ (1 ≤ owner.toNat → owner.toNat ≤ 4 → let x := s.xf (owner.toNat - 1)
              let lo := cornerTurnAddr (owner.toNat - 1) x.buffer
              (lo ≤ b.addr → b.addr < lo + 0x04000000 → t.xf (owner.toNat - 1) = { x with pass1Lost := true })
              ∧ (b.addr < lo ∨ lo + 0x04000000 ≤ b.addr → (t.xf (owner.toNat - 1)).pass1Lost = x.pass1Lost
                  ∧ (t.xf (owner.toNat - 1)).flagged.length = x.flagged.length + 1)
              ∧ t.caps = s.caps)
          ∧ (9 ≤ owner.toNat → owner.toNat ≤ 12 → t.xfs = s.xfs ∧ let c := owner.toNat - 9
              ∃ n, (t.cap c).losses = (n, some (n + blockLen)) :: (s.cap c).losses
                ∧ ∀ g ∈ (t.cap c).queue, g.s0 ≤ n → n < g.stop → g.closing = true)
          ∧ (0x11 ≤ owner.toNat → owner.toNat ≤ 0x20 → t.xfs = s.xfs ∧ t.caps = s.caps
              ∧ ∀ n, s.runnerAt b.addr = some n → (s.runner n).w ≠ (s.runner n).rd →
                (t.runner n).w = (s.runner n).w - 1 ∧ ∃ x, (t.runner n).dropped = some x ∧ x.span.cause = 4)))
    ∧ Answers (.sramWake g) s (fun t => (∀ w ∈ t.hbm.waking, w.1 ≠ g) ∧ (∀ w ∈ s.hbm.waking, w.1 ≠ g → w ∈ t.hbm.waking)
        ∧ t = { s with hbm := { s.hbm with waking := t.hbm.waking } }))

/-! ### Ladle instructions (chapter 11) -/

/-- Addition, subtraction and comparison: the result, its flags, and nothing else (R439, R441). Logic, shifts and moves: the
result with N and Z, C the last bit out of a shift by more than 0, and moves without flags (R439, R441). Model readings and
choices: log entry 33. -/
def Obligations.LadleArithmeticAndLogic : Prop :=
  (∀ (s : State) (l : LadleIx) (d a b : DReg) (imm : BitVec 18), Live s → PlainLadle (s.ladle l) →
    let q := s.ladle l
    let n := q.land
    let x := q.dr a
    let y := q.dr b
    let z : U32 := imm.signExtend 32
    let clamped (v : Int) : U32 := BitVec.ofInt 32 (max (-2147483648) (min 2147483647 v))
    let clamps (v : Int) : Bool := decide (v < -2147483648 ∨ 2147483647 < v)
    Answers (.nop l) s (fun t => Retired s t l n)
    ∧ Answers (.add l d a b) s (fun t => ∃ st, Retired s t l { n.putD d (x + y) with st := st }
        ∧ SetsFlags n.st st (x + y) (decide (2 ^ 32 ≤ x.toNat + y.toNat)) (decide ((x + y).toInt ≠ x.toInt + y.toInt)))
    ∧ Answers (.addi l d a imm) s (fun t => ∃ st, Retired s t l { n.putD d (x + z) with st := st }
        ∧ SetsFlags n.st st (x + z) (decide (2 ^ 32 ≤ x.toNat + z.toNat)) (decide ((x + z).toInt ≠ x.toInt + imm.toInt)))
    ∧ Answers (.sub l d a b) s (fun t => ∃ st, Retired s t l { n.putD d (x - y) with st := st }
        ∧ SetsFlags n.st st (x - y) (decide (y.toNat ≤ x.toNat)) (decide ((x - y).toInt ≠ x.toInt - y.toInt)))
    ∧ Answers (.cmp l a b) s (fun t => ∃ st, Retired s t l { n with st := st }
        ∧ SetsFlags n.st st (x - y) (decide (y.toNat ≤ x.toNat)) (decide ((x - y).toInt ≠ x.toInt - y.toInt)))
    ∧ Answers (.cmpi l a imm) s (fun t => ∃ st, Retired s t l { n with st := st }
        ∧ SetsFlags n.st st (x - z) (decide (z.toNat ≤ x.toNat)) (decide ((x - z).toInt ≠ x.toInt - imm.toInt)))
    ∧ Answers (.adds l d a b) s (fun t => ∃ st, Retired s t l { n.putD d (clamped (x.toInt + y.toInt)) with st := st }
        ∧ SetsFlags n.st st (clamped (x.toInt + y.toInt)) (n.st.getLsbD 1) (clamps (x.toInt + y.toInt)))
    ∧ Answers (.subs l d a b) s (fun t => ∃ st, Retired s t l { n.putD d (clamped (x.toInt - y.toInt)) with st := st }
        ∧ SetsFlags n.st st (clamped (x.toInt - y.toInt)) (n.st.getLsbD 1) (clamps (x.toInt - y.toInt))))
  ∧ (∀ (s : State) (l : LadleIx) (d a b : DReg) (ar : AReg) (imm : BitVec 18) (h : BitVec 16) (k : BitVec 5), Live s →
    PlainLadle (s.ladle l) →
    let q := s.ladle l
    let n := q.land
    let x := q.dr a
    let y := q.dr b
    let z : U32 := imm.setWidth 32
    let keepC := n.st.getLsbD 1
    let keepV := n.st.getLsbD 0
    (∀ i v, (i, v) ∈ [(Instr.and l d a b, x &&& y), (.or l d a b, x ||| y), (.xor l d a b, x ^^^ y), (.andi l d a imm, x &&& z),
        (.ori l d a imm, x ||| z), (.xori l d a imm, x ^^^ z)] →
      Answers i s (fun t => ∃ st, Retired s t l { n.putD d v with st := st } ∧ SetsFlags n.st st v keepC keepV))
    ∧ (∀ i sh, (i, sh) ∈ [(Instr.shl l d a b, y.toNat % 32), (.shli l d a k, k.toNat)] →
      Answers i s (fun t => ∃ st, Retired s t l { n.putD d (x <<< sh) with st := st }
        ∧ SetsFlags n.st st (x <<< sh) (if sh = 0 then keepC else x.getLsbD (32 - sh)) keepV))
    ∧ (∀ i sh, (i, sh) ∈ [(Instr.shr l d a b, y.toNat % 32), (.shri l d a k, k.toNat)] →
      Answers i s (fun t => ∃ st, Retired s t l { n.putD d (x >>> sh) with st := st }
        ∧ SetsFlags n.st st (x >>> sh) (if sh = 0 then keepC else x.getLsbD (sh - 1)) keepV))
    ∧ (∀ i sh, (i, sh) ∈ [(Instr.sra l d a b, y.toNat % 32), (.srai l d a k, k.toNat)] →
      Answers i s (fun t => ∃ st, Retired s t l { n.putD d (x.sshiftRight sh) with st := st }
        ∧ SetsFlags n.st st (x.sshiftRight sh) (if sh = 0 then keepC else x.getLsbD (sh - 1)) keepV))
    ∧ Answers (.movi l d imm) s (fun t => Retired s t l (n.putD d (imm.signExtend 32)))
    ∧ Answers (.lih l d h) s (fun t => Retired s t l (n.putD d (BitVec.ofNat 32 (h.toNat * 2 ^ 16 + (q.dr d).toNat % 2 ^ 16))))
    ∧ Answers (.movd l d ar) s (fun t => Retired s t l (n.putD d (q.ar ar))))

/-- Results that later instructions see late: products, addresses, special registers, accumulators and the search step (R438,
R444-R446, R453, R459). Model readings and choices: log entries 33 and 34. -/
def Obligations.LadleDelayedResults : Prop :=
  ∀ (s : State) (l : LadleIx) (d a b : DReg) (ar : AReg) (imm : BitVec 18) (code sh : BitVec 6) (k u hs ht f e : Bool), Live s →
    PlainLadle (s.ladle l) →
    let q := s.ladle l
    let n := q.land
    let acc : Fin 2 := if k then 1 else 0
    let p : Int := halfOf (q.dr a) hs u * halfOf (q.dr b) ht u * (if f then 2 else 1)
    let later (w : List PWrite) : Ladle := { n with writes := n.writes ++ w }
    let accOf (v : BitVec 40) (clamped : Bool) : Ladle := { n with
      accM := n.accM.set acc.val v acc.isLt
      writes := n.writes ++ { reg := .accE acc, val := v.toNat, left := 2 } :: (if clamped then [{ reg := .av acc, val := 1, left := 2 }]
        else []) }
    Answers (.mul l d a b u hs ht) s (fun t => Retired s t l
      (later [{ reg := .d d, val := bitsOf 32 (halfOf (q.dr a) hs u * halfOf (q.dr b) ht u), left := 1 }]))
    ∧ Answers (.mova l ar a) s (fun t => Retired s t l (later [{ reg := .a ar, val := (q.dr a).toNat, left := 1 }]))
    ∧ (q.ln.get ar = 0 → Answers (.adda l ar imm) s (fun t => Retired s t l
        (later [{ reg := .a ar, val := (q.ar ar + imm.signExtend 32).toNat, left := 1 }])))
    ∧ (q.ln.get ar ≠ 0 → Answers (.adda l ar imm) s (fun t => ∃ v : U32,
        Retired s t l (later [{ reg := .a ar, val := v.toNat, left := 1 }])
        ∧ ((q.bs.get ar).toNat + (q.ln.get ar).toNat ≤ 2 ^ 32 → (q.bs.get ar).toNat ≤ v.toNat
            ∧ v.toNat < (q.bs.get ar).toNat + (q.ln.get ar).toNat)))
    ∧ (code.toNat ≤ 0x28 → Answers (.mfs l d code) s (fun t => ∃ v, Retired s t l (n.putD d v)
        ∧ (∀ m : Fin 8, code.toNat = m.val → v = q.bs.get m) ∧ (∀ m : Fin 8, code.toNat = 8 + m.val → v = q.ln.get m)
        ∧ (code = 0x19 → v = q.st) ∧ (code = 0x1A → v = q.mxvE) ∧ (code = 0x1B → v = q.mxiE)
        ∧ (code = 0x20 → v = q.epc.setWidth 32) ∧ (code = 0x22 → v = q.ec) ∧ (code = 0x23 → v = q.ea)
        ∧ (code = 0x25 → v = q.vec.setWidth 32) ∧ (code = 0x27 → v = q.mve)))
    ∧ (code.toNat ≤ 0x28 → Answers (.mts l code a) s (fun t => ∃ w, Retired s t l (later w)
        ∧ (code = 0x27 ∨ code = 0x28 → w = []) ∧ (code.toNat < 0x27 → w ≠ [])
        ∧ (∀ m : Fin 8, code.toNat = m.val → w = [{ reg := .bs m, val := (q.dr a).toNat, left := 1 }])
        ∧ (code = 0x25 → w = [{ reg := .vec, val := (q.dr a).toNat, left := 1 }])
        ∧ (∀ x ∈ w, x.left = (if 0x10 ≤ code.toNat ∧ code.toNat < 0x19 ∨ x.reg = .ld then 3 else 1))))
    ∧ (code.toNat > 0x28 → ∀ i ∈ [Instr.mfs l d code, .mts l code a], Answers i s (fun t =>
        (t.ladle l).run = .restarting ∨ (t.ladle l).run = .failed))
    ∧ (∀ i x, (i, x) ∈ [(Instr.mac l k a b hs ht u f, (q.accM.get acc).toInt + p), (.msu l k a b hs ht u f, (q.accM.get acc).toInt - p)] →
      (-(2 ^ 39) ≤ x → x < 2 ^ 39 → Answers i s (fun t => Retired s t l (accOf (BitVec.ofInt 40 x) false)))
      ∧ (x < -(2 ^ 39) ∨ 2 ^ 39 ≤ x → Answers i s (fun t => Retired s t l (accOf
          (BitVec.ofInt 40 (if q.bit bitSAT then max (-(2 ^ 39)) (min (2 ^ 39 - 1) x) else x)) true))))
    ∧ Answers (.mpa l k a b hs ht u f) s (fun t => Retired s t l (accOf (BitVec.ofInt 40 p) false))
    ∧ Answers (.clra l k) s (fun t => Retired s t l (accOf 0 false))
    ∧ (sh.toNat ≤ 39 → Answers (.ext l k d sh false) s (fun t => ∃ st, Retired s t l
        { n.putD d (BitVec.ofInt 32 (max (-2147483648) (min 2147483647 ((q.accE.get acc).toInt / 2 ^ sh.toNat)))) with st := st }
        ∧ (∀ j, j ≠ bitSV → st.getLsbD j = n.st.getLsbD j)
        ∧ (st.getLsbD bitSV = true ↔ n.st.getLsbD bitSV = true
            ∨ (q.accE.get acc).toInt / 2 ^ sh.toNat < -2147483648 ∨ 2147483647 < (q.accE.get acc).toInt / 2 ^ sh.toNat)))
    ∧ (∀ i better, (i, better) ∈ [(Instr.max l a b true e, decide (q.mxvM.toNat < (q.dr a).toNat)),
          (.max l a b false e, decide (q.mxvM.toInt < (q.dr a).toInt)), (.min l a b true e, decide ((q.dr a).toNat < q.mxvM.toNat)),
          (.min l a b false e, decide ((q.dr a).toInt < q.mxvM.toInt))] →
      Answers i s (fun t => Retired s t l (if better = true ∨ (e = true ∧ q.dr a = q.mxvM) then
        { n with mxvM := q.dr a, mxiM := q.dr b,
                 writes := n.writes ++ [{ reg := .mxvE, val := (q.dr a).toNat, left := 1 }, { reg := .mxiE, val := (q.dr b).toNat, left := 1 }] }
        else n)))

/-- Branches with their two delay slots, hardware loops and the return from an exception (R441, R443, R449-R452, R462). Waits,
traps, illegal instructions and input interrupts (R427, R442, R455, R461, R463). Model readings and choices: log entries 33 and
34. -/
def Obligations.LadleFlowWaitsAndTraps : Prop :=
  (∀ (s : State) (l : LadleIx) (a : DReg) (cond : BitVec 4) (target count : BitVec 13), Live s →
    let q := s.ladle l
    let n := q.land
    (PlainLadle q →
      (q.holds cond = true → Answers (.b l cond target) s (fun t => Retired s t l { n with branch := some (target, 2) }))
      ∧ (q.holds cond = false → Answers (.b l cond target) s (fun t => Retired s t l n))
      ∧ Answers (.call l target) s (fun t =>
          Retired s t l { n.putD 15 (BitVec.ofNat 32 ((q.pc.toNat + 3) % 2 ^ 13)) with branch := some (target, 2) })
      ∧ Answers (.jr l a) s (fun t => Retired s t l { n with branch := some ((q.dr a).setWidth 13, 2) })
      ∧ Answers (.reti l) s (fun t =>
          (q.settle.ec.getLsbD 30 = false ∨ q.settle.ec.toNat / 2 ^ 28 % 4 ≠ 0 → (t.ladle l).pc = q.settle.epc)
          ∧ (q.settle.ec.getLsbD 30 = true → q.settle.ec.toNat / 2 ^ 28 % 4 = 0 → (t.ladle l).pc = q.settle.ebt ∧ (t.ladle l).branch = none)
          ∧ (∀ j, j ≠ bitLK → j ≠ bitMB → (t.ladle l).st.getLsbD j = (q.settle.est.getLsbD j && stFields.getLsbD j))
          ∧ (t.ladle l).bit bitLK = q.settle.bit bitLK ∧ (t.ladle l).bit bitMB = q.settle.bit bitMB
          ∧ (q.settle.ec.getLsbD 30 = false → (t.ladle l).branch = none)
          ∧ (q.settle.ec.getLsbD 30 = true → q.settle.ec.toNat / 2 ^ 28 % 4 ≠ 0 → (t.ladle l).branch = some (q.settle.ebt, q.settle.ec.toNat / 2 ^ 28 % 4))
          ∧ (t.ladle l).d = q.settle.d ∧ (t.ladle l).writes = q.settle.writes
          ∧ (∀ m, m ≠ l.val → t.ladle m = s.ladle m) ∧ t = { s with ladles := t.ladles })
      ∧ ∀ i c, (i, c) ∈ [(Instr.loop l target count, BitVec.ofNat 32 count.toNat), (.loopr l target a, q.dr a)] →
        (q.loopError target = false → n.depth = q.depth → c ≠ 0 → Answers i s (fun t =>
            (t.ladle l).pc = q.pc + 1 ∧ (t.ladle l).depth = q.depth + 1
            ∧ (∀ k : Fin 3, k.val = q.depth → (t.ladle l).lps.get k = q.pc + 1 ∧ (t.ladle l).lpe.get k = target ∧ (t.ladle l).lpc.get k = c)
            ∧ (t.ladle l).d = n.d ∧ (t.ladle l).writes = n.writes
            ∧ (∀ m, m ≠ l.val → t.ladle m = s.ladle m) ∧ t = { s with ladles := t.ladles }))
        ∧ (q.loopError target = false → c = 0 → Answers i s (fun t => t.ladle l = { n with pc := target + 1 }
            ∧ (∀ m, m ≠ l.val → t.ladle m = s.ladle m) ∧ t = { s with ladles := t.ladles }))
        ∧ (q.loopError target = true → HasHandler q → Answers i s (fun t => TakesException s t l 8 0 0 q.pc)))
    ∧ (PlainLadle q → q.writes = [] →
      (0 < q.depth → Answers (.endl l) s (fun t => Retired s t l { n with writes := [{ reg := .endl, val := 0, left := 3 }] }))
      ∧ (q.depth = 0 → HasHandler q → Answers (.endl l) s (fun t => TakesException s t l 8 0 0 q.pc)))
    ∧ (q.run = .running → q.held = none → q.lockLost = none → q.endsAt q.pc = false → n.endsAt q.pc = false →
      (∀ x, q.branch = some (x, 2) → Answers (.nop l) s (fun t => Retired s t l { n with branch := some (x, 1) }))
      ∧ (∀ x, q.branch = some (x, 1) → Answers (.nop l) s (fun t => t.ladle l = { n with pc := x, branch := none }
          ∧ t = { s with ladles := t.ladles }))
      ∧ (∀ x k, q.branch = some (x, k) → Answers (.b l cond target) s (fun t =>
          (t.ladle l).run = .restarting ∨ (t.ladle l).run = .failed)))
    ∧ (q.run = .running → q.held = none → q.lockLost = none → q.branch = none → q.pauseDue = false → q.writes = [] →
      ∀ k : Fin 3, q.depth = k.val + 1 → q.lpe.get k = q.pc →
      (q.lpc.get k ≠ 1 → Answers (.nop l) s (fun t => (t.ladle l).pc = q.lps.get k ∧ (t.ladle l).lpc.get k = q.lpc.get k - 1
          ∧ (t.ladle l).depth = q.depth ∧ (t.ladle l).d = q.d ∧ t = { s with ladles := t.ladles }))
      ∧ (q.lpc.get k = 1 → q.depth = 1 → Answers (.nop l) s (fun t => (t.ladle l).pc = q.pc + 1 ∧ (t.ladle l).depth = 0
          ∧ (t.ladle l).d = q.d ∧ t = { s with ladles := t.ladles }))))
  ∧ (∀ (s : State) (l : LadleIx) (d : DReg) (mask : BitVec 4) (imm : BitVec 16), Live s →
    let q := s.ladle l
    let n := q.land
    (PlainLadle q →
      Answers (.kick l) s (fun t => Retired s t l { n with kicked := s.ctl.crystalCount })
      ∧ (HasHandler n → Answers (.trap l imm) s (fun t => (t.ladle l).pc = n.settle.vec ∧ (t.ladle l).epc = q.pc + 1
          ∧ (t.ladle l).ec.toNat % 2 ^ 16 = 6 + 2 ^ 8 * (imm.toNat % 2 ^ 8) ∧ (t.ladle l).ea = BitVec.ofNat 32 imm.toNat
          ∧ (t.ladle l).bit bitEX = true ∧ (∀ m, m ≠ l.val → t.ladle m = s.ladle m) ∧ t = { s with ladles := t.ladles }))
      ∧ Answers (.illegalInstruction l) s (fun t => ((t.ladle l).run = .restarting ∨ (t.ladle l).run = .failed)
          ∧ (t.ladle l).events = q.events + 1 ∧ (t.ladle l).lock = none ∧ (t.ladle l).d = q.d
          ∧ (∀ m, m ≠ l.val → t.ladle m = s.ladle m) ∧ t.mem = s.mem)
      ∧ (s.interruptPorts l ≠ 0 → HasHandler q → Answers (.wait l d mask) s (fun t =>
          TakesException s t l 5 (s.interruptPorts l) 0 q.pc))
      ∧ (s.interruptPorts l = 0 → q.due = none → q.pauseDue = false →
        (mask = 0 → Answers (.wait l d mask) s (fun t => Retired s t l { n.putD d 0 with waitOn := none }))
        ∧ (mask ≠ 0 → s.portsReady l &&& mask.toNat ≠ 0 → Answers (.wait l d mask) s (fun t => Retired s t l
            { n.putD d (BitVec.ofNat 32 (s.portsReady l &&& mask.toNat)) with waitOn := none }))
        ∧ (mask ≠ 0 → s.portsReady l &&& mask.toNat = 0 → Answers (.wait l d mask) s (fun t =>
            t.ladle l = { q with run := .waiting, waitOn := some (d, mask), idleAt := s.ctl.crystalCount }
            ∧ t = { s with ladles := t.ladles }))))
    ∧ (q.run ≠ .running → ∀ i ∈ [Instr.kick l, .nop l, .trap l imm, .illegalInstruction l, .wait l d mask, .reti l, .unlk l],
        Answers i s (fun t => t = s))
    ∧ (q.waitOn = none → Answers (.waitWake l) s (fun t => t = s))
    ∧ (PlainLadle { q with run := .running } → q.run = .waiting → q.waitOn = some (d, mask) →
      (s.portsReady l &&& mask.toNat = 0 → Answers (.waitWake l) s (fun t => t = s))
      ∧ (s.portsReady l &&& mask.toNat ≠ 0 → Answers (.waitWake l) s (fun t => Retired s t l
          { n.putD d (BitVec.ofNat 32 (s.portsReady l &&& mask.toNat)) with
            run := .running, waitOn := none, kicked := q.kicked + (s.ctl.crystalCount - q.idleAt) })))
    ∧ (s.interruptPorts l = 0 ∨ q.clean = false → Answers (.inputInterrupt l) s (fun t => t = s))
    ∧ (s.interruptPorts l ≠ 0 → q.clean = true → HasHandler q →
        Answers (.inputInterrupt l) s (fun t => TakesException s t l 5 (s.interruptPorts l) 0 q.pc ∧ (t.ladle l).run = .running)))

/-- Loads, stores and transfers: the bytes that a store writes, alone; results of DM two instructions late; addresses that are
misaligned or outside a window raise cause 1 (R398, R399, R446-R448, R459, R461). Model readings and choices: log entries 33 and
35. -/
def Obligations.LadleLoadsAndStores : Prop :=
  ∀ (s : State) (l : LadleIx) (m : MemForm) (ad ac : AReg) (w : BitVec 6) (dir p : Bool), Live s → PlainLadle (s.ladle l) →
    let q := s.ladle l
    let n := q.land
    let e := q.effective m
    let len := if m.size = 2 then 4 else if m.size = 3 then 8 else 2
    let moved (x : Ladle) : Ladle := if m.p then x else x.putA m.a (q.circ m.a (q.modifier m))
    (m.legal = true →
      (∀ i ∈ [Instr.ld l m .clean, .sd l m],
        (e + len ≤ 0x20000 → e % len ≠ 0 → HasHandler q → Answers i s (fun t => TakesException s t l 1 2 e q.pc))
        ∧ (0x20000 < e + len → e < 0x100000 ∨ 0x300000 < e + len → HasHandler q →
            Answers i s (fun t => TakesException s t l 1 1 e q.pc)))
      ∧ (e + len ≤ 0x20000 → e % len = 0 →
        Answers (.ld l m .clean) s (fun t => ∃ v : Nat, v < 2 ^ 64 ∧ leBytes len (v % 2 ^ (8 * len)) = readBytes q.dm e len
          ∧ (m.size = 0 → v = bitsOf 32 (signedOf 16 (ofLeBytes (readBytes q.dm e 2)))) ∧ (m.size ≠ 0 → v < 2 ^ (8 * len))
          ∧ Retired s t l { moved n with
              writes := n.writes ++ { reg := .d m.r, val := v % 2 ^ 32, left := 2 }
                :: (if m.size = 3 then [{ reg := .d (m.r + 1), val := v / 2 ^ 32, left := 2 }] else []) })
        ∧ Answers (.sd l m) s (fun t => Retired s t l { moved n with dm := (t.ladle l).dm }
          ∧ (m.size ≠ 3 → readBytes (t.ladle l).dm e len = leBytes len (q.dr m.r).toNat)
          ∧ (m.size = 3 → readBytes (t.ladle l).dm e len = leBytes 4 (q.dr m.r).toNat ++ leBytes 4 (q.dr (m.r + 1)).toNat)
          ∧ ∀ a, a < e ∨ e + len ≤ a → Tab.get memDefault (t.ladle l).dm a = Tab.get memDefault q.dm a))
      ∧ (0x100000 ≤ e → e + len ≤ 0x300000 → e % len = 0 → q.lock = none → s.free l (bankOf e) = true →
        Answers (.sd l m) s (fun t => (t.ladle l).pc = q.pc + 1 ∧ (t.ladle l).d = n.d ∧ (t.ladle l).dm = q.dm
          ∧ (m.size ≠ 3 → readBytes (t.cluster (l.val / 16)).mem (e - 0x100000) len = leBytes len (q.dr m.r).toNat)
          ∧ (∀ a, a < e - 0x100000 ∨ e - 0x100000 + len ≤ a →
              Tab.get memDefault (t.cluster (l.val / 16)).mem a = Tab.get memDefault (s.cluster (l.val / 16)).mem a)
          ∧ (∀ g, g ≠ l.val / 16 → t.cluster g = s.cluster g)
          ∧ (∀ k, k ≠ l.val → t.ladle k = s.ladle k) ∧ t = { s with od := t.od, ladles := t.ladles, clusters := t.clusters })
        ∧ (∀ b, b = Ecc.clean → m.size ≠ 0 → m.size ≠ 3 → Answers (.ld l m b) s (fun t => (t.ladle l).pc = q.pc + 1
          ∧ (t.ladle l).d = ((moved n).putD m.r (BitVec.ofNat 32 (ofLeBytes (s.ladleRead l e len)))).d
          ∧ (t.ladle l).writes = n.writes ∧ (t.cluster (l.val / 16)).mem = (s.cluster (l.val / 16)).mem
          ∧ (∀ k, k ≠ l.val → t.ladle k = s.ladle k) ∧ t = { s with od := t.od, ladles := t.ladles, clusters := t.clusters }))))
    ∧ (m.legal = false → ∀ i ∈ [Instr.ld l m .clean, .sd l m], Answers i s (fun t =>
        (t.ladle l).run = .restarting ∨ (t.ladle l).run = .failed))
    ∧ (∀ x, q.xfFault ad ac (w.toNat + 1) = some x → HasHandler q →
        Answers (.xf l dir ad ac w p []) s (fun t => TakesException s t l 1 x.1 x.2 q.pc))
    ∧ (q.xfFault ad ac (w.toNat + 1) = none → q.lock = none → (∀ r, r < 16 → s.free l r = true) →
        Answers (.xf l dir ad ac w p []) s (fun t => (t.ladle l).pc = q.pc + 1 ∧ (t.ladle l).d = n.d
          ∧ (p = false → (t.ladle l).a = n.a)
          ∧ (p = true → (t.ladle l).a = ((n.putA ad (q.circ ad (8 * (w.toNat + 1)))).putA ac (q.circ ac (8 * (w.toNat + 1)))).a)
          ∧ (dir = true → (t.ladle l).dm = q.dm) ∧ (dir = false → (t.cluster (l.val / 16)).mem = (s.cluster (l.val / 16)).mem)
          ∧ (w = 0 → dir = false → readBytes (t.ladle l).dm (q.circ ad 0).toNat 8 = s.ladleRead l (q.circ ac 0).toNat 8)
          ∧ t = { s with od := t.od, ladles := t.ladles, clusters := t.clusters }))

/-- Locks, publishing and the mover (R400, R401, R409, R418-R420, R456-R458). Arbiters: a request at rest is granted, unless its
resource is frozen; a transfer of the mover moves within its grant; a withdrawal before the first word costs a dead cycle; a locked sequence ends at its watchdog (R402-R408,
R411). Model readings and choices: log entries 33 and 35. -/
def Obligations.LadleLocksTransfersAndArbiters : Prop :=
  (∀ (s : State) (l : LadleIx) (r : BitVec 5) (slot ap at' : Fin 8) (a b : DReg) (al : AReg) (dir : Bool), Live s →
    let q := s.ladle l
    let n := q.land
    let m : Mover := { toHbm := dir, loc := (q.ar al).toNat, hbm := 64 * (q.dr a).toNat, len := (q.dr b).toNat }
    (PlainLadle q →
      (17 < r.toNat → Answers (.lock l r) s (fun t => (t.ladle l).run = .restarting ∨ (t.ladle l).run = .failed))
      ∧ (r.toNat ≤ 17 → q.lock.isSome = true → HasHandler q → Answers (.lock l r) s (fun t => TakesException s t l 2 r.toNat 0 q.pc))
      ∧ (r.toNat ≤ 17 → q.lock = none → s.free l r.toNat = true → Answers (.lock l r) s (fun t =>
          (t.ladle l).lock = some (Fin.ofNat 18 r.toNat) ∧ (t.ladle l).bit bitLK = true ∧ (t.ladle l).pc = q.pc + 1
          ∧ (∃ o, (t.arb (l.val / 16) r.toNat).owner = some o ∧ o.ladle = l.val ∧ o.lock = true)
          ∧ (t.ladle l).d = n.d ∧ (∀ k, k ≠ l.val → t.ladle k = s.ladle k)
          ∧ t = { s with od := t.od, ladles := t.ladles, clusters := t.clusters }))
      ∧ (r.toNat ≤ 17 → q.lock = none → s.free l r.toNat = false → Answers (.lock l r) s (fun t =>
          t.ladle l = { q with held := some { instr := .lock l r, done := 0 } }
          ∧ (∃ o, (t.arb (l.val / 16) r.toNat).queue = (s.arb (l.val / 16) r.toNat).queue ++ [o] ∧ o.ladle = l.val ∧ o.lock = true)
          ∧ t = { s with od := t.od, ladles := t.ladles, clusters := t.clusters }))
      ∧ (q.lock = none → HasHandler q → Answers (.unlk l) s (fun t => TakesException s t l 2 0 0 q.pc))
      ∧ (∀ x, q.lock = some x → Answers (.unlk l) s (fun t => (t.ladle l).lock = none ∧ (t.ladle l).bit bitLK = false
          ∧ (t.ladle l).pc = q.pc + 1 ∧ (x ≠ 16 ∨ q.movers = [] → (t.arb (l.val / 16) x.val).owner = none) ∧ (t.ladle l).d = n.d
          ∧ (∀ k, k ≠ l.val → t.ladle k = s.ladle k) ∧ t = { s with od := t.od, ladles := t.ladles, clusters := t.clusters }))
      ∧ (∀ x, q.pubFault ap at' a = some x → HasHandler q →
          Answers (.pub l slot ap at' a) s (fun t => TakesException s t l 1 x.1 x.2 q.pc))
      ∧ (q.pubFault ap at' a = none → q.lock = none → s.free l 17 = true →
          (s.isRecordRunner (s.slotRunner l slot) = false → Answers (.pub l slot ap at' a) s (fun t =>
            (t.ladle l).pc = q.pc + 1 ∧ (t.ladle l).bit bitPF = false ∧ (t.ladle l).acc = Mark.empty ∧ (t.ladle l).d = n.d
            ∧ t = { s with od := t.od, ladles := t.ladles, clusters := t.clusters }))
          ∧ (s.isRecordRunner (s.slotRunner l slot) = true → (s.runner (s.slotRunner l slot)).full = false →
              (s.runner (s.slotRunner l slot)).dropped = none → (s.runner (s.slotRunner l slot)).stopGap = none →
              64 + (q.dr a).toNat ≤ (s.runner (s.slotRunner l slot)).slotBytes → Answers (.pub l slot ap at' a) s (fun t =>
            (t.ladle l).pc = q.pc + 1 ∧ (t.ladle l).bit bitPF = false ∧ (t.ladle l).acc = Mark.empty ∧ (t.ladle l).d = n.d
            ∧ (t.runner (s.slotRunner l slot)).w = (s.runner (s.slotRunner l slot)).w + 1
            ∧ (t.runner (s.slotRunner l slot)).nextSeq = (s.runner (s.slotRunner l slot)).nextSeq + 1
            ∧ (t.runner (s.slotRunner l slot)).drops = (s.runner (s.slotRunner l slot)).drops)))
      ∧ (∀ x, mvhFault m.loc m.hbm m.len = some x → HasHandler q →
          Answers (.mvh l dir al a b) s (fun t => TakesException s t l 1 x.1 x.2 q.pc))
      ∧ (mvhFault m.loc m.hbm m.len = none → q.breaksOrder 16 = false →
          (q.movers.length < 4 → Answers (.mvh l dir al a b) s (fun t => (t.ladle l).movers = q.movers ++ [m]
            ∧ (t.ladle l).bit bitMB = true ∧ (t.ladle l).pc = q.pc + 1 ∧ (t.ladle l).d = n.d
            ∧ (q.movers = [] → s.free l 16 = true → q.lock = none →
                (t.arb (l.val / 16) 16).owner = some { ladle := l, rank := s.ladleCfg l 1, words := m.len / 8, moved := 0, lock := false })
            ∧ (∀ k, k ≠ l.val → t.ladle k = s.ladle k) ∧ t = { s with od := t.od, ladles := t.ladles, clusters := t.clusters }))
          ∧ (4 ≤ q.movers.length → Answers (.mvh l dir al a b) s (fun t =>
            t.ladle l = { q with held := some { instr := .mvh l dir al a b, done := 0 } } ∧ t = { s with ladles := t.ladles })))
      ∧ (q.bit bitMB = false → Answers (.mvwait l) s (fun t => Retired s t l n))
      ∧ (q.bit bitMB = true → Answers (.mvwait l) s (fun t =>
          t.ladle l = { q with held := some { instr := .mvwait l, done := 0 } } ∧ t = { s with ladles := t.ladles })))
    ∧ (q.movers = [] ∨ s.moverRuns l = false → Answers (.moverTransferComplete l none) s (fun t => t = s))
    ∧ (∀ x rest, q.movers = x :: rest → s.moverRuns l = true → q.held = none → s.hea.level = 0 → x.toHbm = true →
        Answers (.moverTransferComplete l none) s (fun t => (t.ladle l).movers = rest
          ∧ (t.ladle l).bit bitMB = (!rest.isEmpty && q.bit bitMB) ∧ (t.ladle l).d = q.d ∧ (t.ladle l).pc = q.pc
          ∧ t.load x.hbm x.len = s.ladleRead l x.loc x.len
          ∧ (∀ c, c < x.hbm ∨ x.hbm + x.len ≤ c → t.byteAt c = s.byteAt c)
          ∧ (∀ k, k ≠ l.val → t.ladle k = s.ladle k) ∧ t = { s with mem := t.mem, hbm := t.hbm, od := t.od, ladles := t.ladles, clusters := t.clusters }))
    ∧ (∀ x rest bad, q.movers = x :: rest → s.moverRuns l = true → q.held = none → s.hea.level = 0 → x.toHbm = false → x.loc + x.len ≤ 0x20000 →
        Answers (.moverTransferComplete l bad) s (fun t => (t.ladle l).movers = rest
          ∧ (bad = none → readBytes (t.ladle l).dm x.loc x.len = s.load x.hbm x.len)
          ∧ (bad.isSome = true → (t.ladle l).bit bitME = true)
          ∧ (∀ c, c < x.loc ∨ x.loc + x.len ≤ c → Tab.get memDefault (t.ladle l).dm c = Tab.get memDefault q.dm c)
          ∧ t.mem = s.mem ∧ (t.ladle l).d = q.d ∧ (∀ k, k ≠ l.val → t.ladle k = s.ladle k))))
  ∧ (∀ (s : State) (g : Fin 16) (l : LadleIx) (res : Fin 18) (moved : Nat) (r : Requester) (mask : U32), Live s →
    let a := s.arb g.val res.val
    (a.owner = none → a.queue = [] ∨ s.frozen g.val res.val = true → Answers (.arbiterGrant g res moved false) s (fun t => t = s))
    ∧ (∀ o, a.owner = none → a.queue = [o] → o.lock = false → s.frozen g.val res.val = false →
        Answers (.arbiterGrant g res moved false) s (fun t =>
          (t.arb g.val res.val).owner = some o ∧ (t.arb g.val res.val).queue = []
          ∧ (∀ k, k ≠ res.val → t.arb g.val k = s.arb g.val k) ∧ (t.cluster g.val).mem = (s.cluster g.val).mem
          ∧ t = { s with od := t.od, clusters := t.clusters } ∧ KeepsBut [keyOf (0x2909 + 16 * g.val) 2] s t))
    ∧ (∀ o, a.owner = some o → o.lock = false → res = 16 → a.queue = [] → moved < o.grantLeft →
        Answers (.arbiterGrant g res moved false) s (fun t =>
          (t.arb g.val 16).owner = some { o with words := o.words - moved, moved := o.moved + moved } ∧ (t.arb g.val 16).queue = []
          ∧ (∀ k, k ≠ 16 → t.arb g.val k = s.arb g.val k) ∧ (t.cluster g.val).mem = (s.cluster g.val).mem
          ∧ t = { s with od := t.od, clusters := t.clusters } ∧ KeepsBut [keyOf (0x2909 + 16 * g.val) 2] s t))
    ∧ (MayWrite s r →
      (mask.toNat < 2 ^ 18 → Answers (.freezeMaskWrite r g mask) s (fun t => t.num (0x2909 + 16 * g.val) 1 = mask.toNat
        ∧ (∀ k, t.frozen g.val k = mask.toNat.testBit k)
        ∧ t = { s with od := t.od } ∧ KeepsBut [keyOf (0x2909 + 16 * g.val) 1, keyOf (0x2909 + 16 * g.val) 2] s t))
      ∧ (2 ^ 18 ≤ mask.toNat → Answers (.freezeMaskWrite r g mask) s (fun t => t.num 0x2002 2 = 0x06090030
        ∧ t.num (0x2909 + 16 * g.val) 1 = s.num (0x2909 + 16 * g.val) 1)))
    ∧ (let x := s.arb (l.val / 16) res.val
      ((∀ o, x.owner = some o → o.ladle ≠ l.val ∨ o.lock = true) → (∀ o ∈ x.queue, o.ladle ≠ l.val) →
        Answers (.ladleRequestWithdraw l res) s (fun t => t = s))
      ∧ (∀ o, x.owner = some o → o.ladle = l.val → o.lock = false → x.queue = [] → (s.ladle l).lockLost = none →
        Answers (.ladleRequestWithdraw l res) s (fun t => (t.arb (l.val / 16) res.val).owner = none
          ∧ t.ladle l = { s.ladle l with held := none }
          ∧ t.num (0x2909 + 16 * (l.val / 16)) 4
            = (if o.moved = 0 then (s.num (0x2909 + 16 * (l.val / 16)) 4 + 1) % 2 ^ 64 else s.num (0x2909 + 16 * (l.val / 16)) 4)
          ∧ (∀ k, k ≠ l.val → t.ladle k = s.ladle k) ∧ t = { s with od := t.od, ladles := t.ladles, clusters := t.clusters })))
    ∧ ((s.ladle l).lock = none → Answers (.lockWatchdogExpiry l) s (fun t => t = s))
    ∧ (s.ctl.crystalCount < (s.ladle l).lockedAt + 10 * 1600 → Answers (.lockWatchdogExpiry l) s (fun t => t = s))
    ∧ (∀ x, (s.ladle l).lock = some x → (s.ladle l).lockedAt + 10 * 1600 ≤ s.ctl.crystalCount → (s.ladle l).run = .paused →
      Answers (.lockWatchdogExpiry l) s (fun t =>
        (t.ladle l).lock = none ∧ (t.ladle l).lockLost = some x ∧ (t.ladle l).bit bitLK = false
        ∧ (x ≠ 16 ∨ (s.ladle l).movers = [] → (t.arb (l.val / 16) x.val).owner = none)
        ∧ t.num (0x2909 + 16 * (l.val / 16)) 5 = (s.num (0x2909 + 16 * (l.val / 16)) 5 + 1) % 2 ^ 32
        ∧ Journalled t 1 14 9 ∧ t.mem = s.mem)))

/-! ### The ladle array (chapter 10) -/

/-- Tap delivery, programs, the watchdog and pauses of ladles (R414-R416, R421, R427-R432). Model readings and choices: log
entry 35. -/
def Obligations.LadlesAndTheirInputs : Prop :=
  ∀ (s : State) (l : LadleIx) (k : Fin 4) (r : Requester) (image : List Byte), Live s →
    let q := s.ladle l
    let p := q.port k
    let g := l.val / 16
    (p.queue = [] → Answers (.tapEntryDelivery l k) s (fun t => t = s))
    ∧ (∀ e rest, p.queue = e :: rest → ringOf p.cfg = none → Answers (.tapEntryDelivery l k) s (fun t =>
        t.ladle l = q.setPort k { p with queue := rest } ∧ t = { s with ladles := t.ladles }))
    ∧ (∀ e rest base size, p.queue = e :: rest → ringOf p.cfg = some (base, size) → s.awake .cluster = true → p.gapFirst = none →
        older (BitVec.ofNat 32 (field e.bytes 16 4)) p.pour = false → 0 < size → size < 2 ^ 32 →
        let head := s.clusterWord g base
        let room := size - (((head : Int) - s.clusterWord g (base + 4)) % (size : Int)).toNat
        (e.bytes.length ≤ room → Answers (.tapEntryDelivery l k) s (fun t =>
          t.ladle l = q.setPort k { p with queue := rest }
          ∧ t.clusterWord g base = (head % size + e.bytes.length) % size
          ∧ (∀ x, x < base ∨ base + 64 + size ≤ x → Tab.get memDefault (t.cluster g).mem x = Tab.get memDefault (s.cluster g).mem x)
          ∧ t = { s with ladles := t.ladles, clusters := t.clusters }))
        ∧ (room < e.bytes.length → Answers (.tapEntryDelivery l k) s (fun t =>
          (t.ladle l).discards = q.discards + 1 ∧ ((t.ladle l).port k).gapFirst = some (field e.bytes 8 8)
          ∧ ((t.ladle l).port k).queue = rest ∧ t.clusterWord g base = head
          ∧ t.clusterWord g (base + 8) = (s.clusterWord g (base + 8) + 1) % 2 ^ 32
          ∧ t = { s with ladles := t.ladles, clusters := t.clusters })))
    ∧ (MayWrite s r →
      (readImage image = none → Answers (.ladleImageWrite r l image) s (fun t => t.num 0x2002 2 = 0x06090030 ∧ t.ladles = s.ladles))
      ∧ ((readImage image).isSome = true → q.run ≠ .stopped → q.run ≠ .failed → Answers (.ladleImageWrite r l image) s (fun t =>
          t.num 0x2002 2 = 0x08000020 ∧ t.ladles = s.ladles))
      ∧ ((readImage image).isSome = true → q.run = .stopped ∨ q.run = .failed → Answers (.ladleImageWrite r l image) s (fun t =>
          t.imageOf l = image ∧ t.ladle l = { q with run := .stopped } ∧ (∀ m, m ≠ l.val → t.ladle m = s.ladle m)
          ∧ t = { s with od := t.od, ladles := t.ladles } ∧ KeepsBut [keyOf (0x4000 + l.val) 0] s t)))
    ∧ (q.run ≠ .running ∨ s.ctl.crystalCount < q.kicked + s.ladleCfg l 2 * 1600 → Answers (.ladleWatchdogExpiry l) s (fun t => t = s))
    ∧ (q.run = .running → q.kicked + s.ladleCfg l 2 * 1600 ≤ s.ctl.crystalCount → Answers (.ladleWatchdogExpiry l) s (fun t => ((t.ladle l).run = .restarting ∨ (t.ladle l).run = .failed)
        ∧ (t.ladle l).events = q.events + 1 ∧ (t.ladle l).held = none ∧ (t.ladle l).lock = none ∧ (t.ladle l).movers = []
        ∧ (∀ m, m ≠ l.val → t.ladle m = s.ladle m) ∧ t.mem = s.mem))
    ∧ (q.run ≠ .restarting → Answers (.ladleRestartComplete l) s (fun t => t = s))
    ∧ (∀ im, q.run = .restarting → q.toSpare = false → q.due = none → readImage (s.imageOf l) = some im →
        Answers (.ladleRestartComplete l) s (fun t => (t.ladle l).run = .running ∧ (t.ladle l).pc = BitVec.ofNat 13 im.entry
          ∧ (t.ladle l).d = Vector.replicate 16 0 ∧ (t.ladle l).writes = [] ∧ (t.ladle l).ports = q.ports ∧ (t.ladle l).events = q.events
          ∧ (∀ a, a < im.data → Tab.get memDefault (t.ladle l).dm a = ((s.imageOf l).getD (16 + im.code + a) 0))
          ∧ (∀ m, m ≠ l.val → t.ladle m = s.ladle m) ∧ t.mem = s.mem))
    ∧ (s.hea.level < 2 ∨ (q.run ≠ .running ∧ q.run ≠ .waiting) → Answers (.ladlePause l) s (fun t => t = s))
    ∧ (2 ≤ s.hea.level → q.run = .running ∨ q.run = .waiting → Answers (.ladlePause l) s (fun t =>
        t.ladle l = { q with
          run := .paused, before := q.run, pauseDue := false
          idleAt := if q.run = .running then s.ctl.crystalCount else q.idleAt } ∧ (∀ m, m ≠ l.val → t.ladle m = s.ladle m)
        ∧ t = { s with od := t.od, ladles := t.ladles, dma := t.dma }))

/-! ### The time-interval unit (chapter 12) -/

/-- Edges, windows and stamp records: an edge is counted, and the one that the prescaler presents is stamped with its raw time,
unless the time is invalid or the dead time runs; a window opens and closes at the gate; an overflow discards stamps (R465-R469,
R474-R476, R478, R481). Pairs of stamps make intervals, and interpolators calibrate and change over (R470-R473, R485-R488).
Model readings and choices: log entries 36 and 37. -/
def Obligations.EventStampsAndIntervals : Prop :=
  (∀ (s : State) (n : Fin 8) (f a : Bool) (coarse : U64) (fine : Fin 384), Live s →
    let e := s.evt n
    let x := s.rawTime n coarse.toNat fine.val (s.bcfgInt (evtBlock n) (0x2A00 + 16 * n.val) 5)
    let fires := e.on = true ∧ s.tiu.gated = false ∧ (f = true ↔ s.evtCfg n 2 = 1) ∧ (s.interp n).retired.length ≠ 2
    let only (t : State) := (∀ k : Fin 8, k ≠ n → t.evt k = s.evt k)
    (e.on = false ∨ s.tiu.gated = true ∨ ¬ (f = true ↔ s.evtCfg n 2 = 1) ∨ (s.interp n).retired.length = 2 →
      Answers (.eventEdge n f coarse fine) s (fun t => t = s))
    ∧ (fires → s.evtCfg n 4 = 1 → s.tiu.gateOpen = false → Answers (.eventEdge n f coarse fine) s (fun t => t = s))
    ∧ (fires → s.evtCfg n 4 ≠ 1 →
      (e.count % s.evtCfg n 3 ≠ 0 → 2 ≤ s.timeState → Answers (.eventEdge n f coarse fine) s (fun t =>
        t.evt n = { e with count := e.count + 1 } ∧ only t ∧ t = { s with tiu := t.tiu }))
      ∧ (s.timeState < 2 → Answers (.eventEdge n f coarse fine) s (fun t =>
        t.evt n = { e with count := e.count + 1, ignored := e.ignored + 1 } ∧ only t ∧ t = { s with tiu := t.tiu }))
      ∧ (e.count % s.evtCfg n 3 = 0 → 2 ≤ s.timeState → ∀ l, e.lastStamp = some l →
        l ≤ x.1 → x.1 < l + 2500000 → Answers (.eventEdge n f coarse fine) s (fun t =>
        t.evt n = { e with count := e.count + 1, misses := e.misses + 1, missAll := e.missAll + 1 } ∧ only t
        ∧ t = { s with tiu := t.tiu }))
      ∧ (e.count % s.evtCfg n 3 = 0 → 2 ≤ s.timeState → (∀ l, e.lastStamp = some l → l + 2500000 ≤ x.1) → x.2 = false →
          e.overflow = none → (s.interp n).retired = [] → e.record.length + 1 < s.evtCfg n 6 →
        Answers (.eventEdge n f coarse fine) s (fun t =>
          (∃ p : Stamp, (t.evt n).record = p :: e.record ∧ p.raw = x.1 ∧ p.t = s.rawT96 x.1 ∧ p.falling = f ∧ p.count = e.count
              ∧ p.err = false)
          ∧ (t.evt n).count = e.count + 1 ∧ (t.evt n).lastStamp = some x.1 ∧ only t ∧ t = { s with tiu := t.tiu })))
    ∧ (let y := s.rawTime 8 coarse.toNat fine.val (s.bcfgInt .tiGate 0x2A80 8)
      let act := a != (s.gateCfg 2 == 1)
      let mode := s.gateCfg 1
      let opens (t : State) := t.tiu.gateOpen = true ∧ t.tiu.window = s.tiu.window + 1
      (s.tiu.gateOn = false ∨ s.tiu.gated = true ∨ (mode ≠ 1 ∧ mode ≠ 2) ∨ (s.interp 8).retired.length = 2 →
        Answers (.gateEdge a coarse fine) s (fun t => t = s))
      ∧ (s.tiu.gateOn = true → s.tiu.gated = false → mode = 1 ∨ mode = 2 → (s.interp 8).retired = [] → y.2 = false →
        (act = false → mode = 2 ∨ s.tiu.gateOpen = false → Answers (.gateEdge a coarse fine) s (fun t => t = s))
        ∧ (act = false → mode = 1 → s.tiu.gateOpen = true → Answers (.gateEdge a coarse fine) s (fun t =>
            t.tiu.gateOpen = false ∧ t.tiu.closedT = s.rawT96 y.1 ∧ t.tiu.window = s.tiu.window))
        ∧ (act = true → s.tiu.gateOpen = true → mode = 1 ∨ y.1 < s.tiu.closeRaw → Answers (.gateEdge a coarse fine) s (fun t =>
            t = { s with tiu := { s.tiu with ignored := s.tiu.ignored + 1 } }))
        ∧ (act = true → s.tiu.gateOpen = false ∨ (mode = 2 ∧ s.tiu.closeRaw ≤ y.1) →
            s.pourOf .tiGate = s.startPour .tiGate (s.rawT96 y.1) →
            Answers (.gateEdge a coarse fine) s (fun t => opens t ∧ t.tiu.openRaw = y.1 ∧ t.tiu.openT = s.rawT96 y.1
              ∧ t.tiu.closeRaw = y.1 + 1000 * s.gateCfg 3)))
      ∧ (s.tiu.gateOn = false ∨ s.tiu.gated = true → Answers (.gateWindowTimer a) s (fun t => t = s))
      ∧ (s.tiu.gateOn = true → s.tiu.gated = false →
        (s.tiu.gateOpen = false ∨ (mode ≠ 2 ∧ mode ≠ 3) → Answers (.gateWindowTimer false) s (fun t => t = s))
        ∧ (mode = 2 ∨ mode = 3 → s.tiu.gateOpen = true → Answers (.gateWindowTimer false) s (fun t =>
            t.tiu.gateOpen = false ∧ t.tiu.window = s.tiu.window))
        ∧ (mode ≠ 3 ∨ s.tiu.gateOpen = true ∨ (s.gateCfg 6 = 0 ∧ s.tiu.k ≠ 0) →
            Answers (.gateWindowTimer true) s (fun t => t = s))
        ∧ (mode = 3 → s.tiu.gateOpen = false → s.gateCfg 6 ≠ 0 ∨ s.tiu.k = 0 →
          let since := (s.now.toNat - s.gateCfg 4) * 1000000000000 / t96PerSecond
          let k := if s.gateCfg 6 = 0 then s.tiu.k else max s.tiu.k (since / s.gateCfg 6)
          let x := t96Add (BitVec.ofNat 96 (s.gateCfg 4)) (psToT96 (k * s.gateCfg 6))
          s.pourOf .tiGate = s.startPour .tiGate x →
            Answers (.gateWindowTimer true) s (fun t => opens t ∧ t.tiu.openT = x ∧ t.tiu.k = k + 1))))
    ∧ (e.on = false → Answers (.eventRiserOverflow n) s (fun t => t = s))
    ∧ (e.on = true → Answers (.eventRiserOverflow n) s (fun t => (t.evt n).record = [] ∧ (t.evt n).overflow.isSome = true
        ∧ (t.evt n).discAll = e.discAll + 1 ∧ (t.evt n).delivered = e.delivered + e.record.length ∧ only t))
    ∧ (e.record = [] → Answers (.stampRecordFlush n) s (fun t => t = s))
    ∧ (∀ x rest, e.record = rest ++ [x] → s.elapsed x.t (s.evtCfg n 7) = false → Answers (.stampRecordFlush n) s (fun t => t = s))
    ∧ (∀ x rest, e.record = rest ++ [x] → s.elapsed x.t (s.evtCfg n 7) = true → Answers (.stampRecordFlush n) s (fun t => t.evt n = { e with
        record := [], opened := false, misses := 0, discarded := 0, delivered := e.delivered + e.record.length } ∧ only t
        ∧ t.chans = s.chans)))
  ∧ (∀ (s : State) (u : Fin 4) (n : Fin 9) (hits : List Nat) (r : Requester) (mask : U16), Live s →
    let m := s.mu u
    let p := s.interp n
    let others (t : State) := (∀ k : Fin 9, k ≠ n → t.interp k = s.interp k)
    (m.on = false ∨ m.queue = [] → Answers (.muEventDecide u) s (fun t => t = s))
    ∧ (m.on = true → m.inside = true → m.results.length + 1 < s.muCfg u 0x0A → m.block.k + 1 < s.muCfg u 6 →
      (∀ a, m.queue = [.start a] → m.started = none → Answers (.muEventDecide u) s (fun t =>
        (t.mu u).started = some a ∧ (t.mu u).queue = [] ∧ (t.mu u).results = m.results
        ∧ (∀ v : Fin 4, v ≠ u → t.mu v = s.mu v) ∧ t = { s with tiu := t.tiu }))
      ∧ (∀ b, m.queue = [.stop b] → m.started = none → Answers (.muEventDecide u) s (fun t =>
        t.mu u = { m with queue := [], block := { m.block with orphans := m.block.orphans + 1 } }
        ∧ (∀ v : Fin 4, v ≠ u → t.mu v = s.mu v) ∧ t = { s with tiu := t.tiu }))
      ∧ (∀ a b, m.queue = [.stop b] → m.started = some a → Answers (.muEventDecide u) s (fun t =>
        (t.mu u).started = none ∧ (t.mu u).queue = []
        ∧ (∃ x : MuResult, (t.mu u).results = x :: m.results ∧ x.t = a.t
            ∧ (2500000 ≤ b.raw - a.raw → x.code = 0 ∧ x.fs = b.raw - a.raw)
            ∧ (b.raw - a.raw < 2500000 → x.code = 1 ∧ x.fs = 0))
        ∧ (2500000 ≤ b.raw - a.raw → (t.mu u).block.k = m.block.k + 1 ∧ (t.mu u).block.sum = m.block.sum + (b.raw - a.raw))
        ∧ (∀ v : Fin 4, v ≠ u → t.mu v = s.mu v) ∧ t = { s with tiu := t.tiu })))
    ∧ (∀ a tj, p.calAt = some a → p.calTemp = some tj → s.ctl.crystalCount < a + s.num 0x2AF0 2 * 1600000000 →
        (Config.ioTemperature s.ctl.crystalCount - tj).natAbs < s.num 0x2AF0 3 → Answers (.interpCalStart n) s (fun t => t = s))
    ∧ (s.num 0x2AF0 1 ≠ 1 ∨ s.hea.level ≠ 0 ∨ p.calibrating ≠ none ∨ p.switchTo ≠ none ∨ p.retired ≠ [] →
        Answers (.interpCalStart n) s (fun t => t = s))
    ∧ (p.calAt = none ∨ (∃ a, p.calAt = some a ∧ a + s.num 0x2AF0 2 * 1600000000 ≤ s.ctl.crystalCount)
        ∨ (∃ tj, p.calTemp = some tj ∧ s.num 0x2AF0 3 ≤ (Config.ioTemperature s.ctl.crystalCount - tj).natAbs) →
      s.num 0x2AF0 1 = 1 → s.hea.level = 0 → p.calibrating = none → p.switchTo = none → p.retired = [] →
        Answers (.interpCalStart n) s (fun t =>
          t.interp n = { p with calibrating := some (1 - p.active), cycle := true, forced := false } ∧ others t
          ∧ t = { s with tiu := t.tiu }))
    ∧ (hits.length = 384 →
      (p.calibrating = none → Answers (.interpCalComplete n hits) s (fun t => t = s))
      ∧ (∀ i b, p.calibrating = some i → calTable hits = some b → Answers (.interpCalComplete n hits) s (fun t =>
          (i = 0 → (t.interp n).i0 = some b ∧ (t.interp n).i1 = p.i1) ∧ (i ≠ 0 → (t.interp n).i1 = some b ∧ (t.interp n).i0 = p.i0)
          ∧ (t.interp n).active = p.active ∧ 256 ≤ b.cmax ∧ b.cmax ≤ 383 ∧ (∀ w ∈ b.widths, w ≤ 64000)
          ∧ (p.cycle = true → i ≠ p.active → (t.interp n).switchTo = some i)
          ∧ (p.cycle = true → i = p.active → (t.interp n).calibrating = some (1 - i))
          ∧ others t ∧ t = { s with tiu := t.tiu }))
      ∧ (∀ i, p.calibrating = some i → calTable hits = none → Answers (.interpCalComplete n hits) s (fun t =>
          (t.interp n).i0 = p.i0 ∧ (t.interp n).i1 = p.i1 ∧ (t.interp n).active = p.active ∧ others t
          ∧ t.num 0x3015 3 = (s.num 0x3015 3 + 1) % 2 ^ 32 ∧ t.mem = s.mem)))
    ∧ (MayWrite s r → Answers (.calibrateNow r mask) s (fun t => t = { s with tiu := t.tiu }
        ∧ ∀ k : Fin 9, (mask.getLsbD k = false → t.interp k = s.interp k)
          ∧ (mask.getLsbD k = true → (s.interp k).calibrating = none → (s.interp k).switchTo = none → (s.interp k).retired = [] →
              t.interp k = { s.interp k with calibrating := some (1 - (s.interp k).active), cycle := true, forced := true })))
    ∧ (p.switchTo = none → Answers (.interpolatorSwitchover n) s (fun t => t = s))
    ∧ (∀ i, p.switchTo = some i → Answers (.interpolatorSwitchover n) s (fun t => (t.interp n).active = i
        ∧ (t.interp n).switchTo = none ∧ (t.interp n).i0 = p.i0 ∧ (t.interp n).i1 = p.i1
        ∧ (p.cycle = true → (t.interp n).calibrating = some p.active) ∧ others t ∧ t = { s with tiu := t.tiu })))

/-! ### Runners and DMA (chapter 13) -/

/-- A runner entry creates, modifies or destroys a runner at once; enable, stop and abort control it; an abort ends a transfer
with status 0x02 (R500-R502, R526, R529). Model readings and choices: log entries 38 and 39. -/
def Obligations.RunnerEntriesAndControl : Prop :=
  ∀ (s : State) (r : Requester) (image : List Byte) (n : RunnerIx), Live s →
    let q := REntry.of image
    let o := s.runner q.runner
    let k := s.runner n.toNat
    let only (m : Nat) (t : State) := (∀ j, j ≠ m → t.runner j = s.runner j)
      ∧ t = { s with od := t.od, dma := { s.dma with runners := t.dma.runners } } ∧ KeepsBut [0x2B0401] s t
    (MayWrite s r → ∀ c ∈ [Instr.runnerCreateRecord r image, .runnerCreateDescriptor r image, .runnerDestroy r image],
      (∀ code, s.entryRefusal image = some code → Answers c s (fun t => t.num 0x2002 2 = code % 2 ^ 32
        ∧ t.num 0x2002 3 = 0x2B0200 ∧ t = { s with od := t.od, out := t.out }
        ∧ KeepsBut [0x200201, 0x200202, 0x200203, 0x200204] s t))
      ∧ (s.entryRefusal image = none → q.kind ≠ 0 → Answers c s (fun t =>
          let w := t.runner q.runner
          w.kind = q.kind ∧ w.base = q.base ∧ w.e = q.e ∧ w.z = q.z ∧ w.dest = q.dest ∧ w.hostBase = q.hostBase ∧ w.vector = q.vector
          ∧ w.engineNow = s.engineFrom q.engine ∧ w.w = o.w ∧ w.rd = o.rd ∧ w.nextSeq = o.nextSeq ∧ w.state = o.state ∧ w.drops = o.drops ∧ only q.runner t))
      ∧ (s.entryRefusal image = none → q.kind = 0 → Answers c s (fun t => t.runner q.runner = Runner.none ∧ only q.runner t)))
    ∧ (image.length ≠ 64 → s.entryRefusal image = some 0x06090030)
    ∧ (image.length = 64 → q.kind = 0 → (s.entryRefusal image = none ↔ o.kind ≠ 0 ∧ o.state = .stopped ∧ s.runnerNamed q.runner = false))
    ∧ (image.length = 64 → q.kind ≠ 0 → o.kind = 0 → (s.entryRefusal image = none ↔ q.kind ≤ 2 ∧ q.fieldsOk = true
        ∧ s.placementOk q = true ∧ s.runnerNamed q.runner = false))
    ∧ (MayWrite s r → k.kind = 0 → ∀ c ∈ [Instr.runnerEnable r n, .runnerStop r n, .runnerAbort r n],
        Answers c s (fun t => t.num 0x2002 2 = 0x06090030 ∧ t.dma = s.dma))
    ∧ (MayWrite s r → k.kind ≠ 0 →
      Answers (.runnerEnable r n) s (fun t => t.runner n.toNat = { k with state := .active, fwdDone := 0, fwdParked := none }
        ∧ only n.toNat t)
      ∧ Answers (.runnerStop r n) s (fun t => t.runner n.toNat = { k with
          state := if k.xfer.isSome || k.fwdParked.isSome then .stopping else .stopped } ∧ only n.toNat t)
      ∧ (k.xfer = none → Answers (.runnerAbort r n) s (fun t => t.runner n.toNat = { k with
          state := .stopped, fwdDone := 0, fwdParked := none, unsignalled := 0, firstUnsignalled := none }
          ∧ (∀ j, j ≠ n.toNat → t.runner j = s.runner j) ∧ t.mem = s.mem))
      ∧ (∀ x, k.xfer = some x →
        let cut := x.failed = none ∧ x.status = none ∧ (x.unread ≠ none ∨ x.done ≠ x.total)
        let ended (code : Nat) (t : State) := (t.runner n.toNat).lastStatus = code
          ∧ (t.runner n.toNat).xfer = none ∧ (t.runner n.toNat).state = .stopped ∧ (t.runner n.toNat).rd = k.rd + 1
          ∧ (∀ j, j ≠ n.toNat → t.runner j = s.runner j)
          ∧ ∀ a, (isHost k.base = true ∨ a < k.slotAddr k.rd + 32 ∨ k.slotAddr k.rd + 64 ≤ a) → t.byteAt a = s.byteAt a
        (cut → x.reads ≠ [] → Answers (.runnerAbort r n) s (fun t =>
          (t.runner n.toNat).xfer = some { x with status := some 2 } ∧ (t.runner n.toNat).state = .stopping
          ∧ (t.runner n.toNat).rd = k.rd ∧ t.mem = s.mem ∧ (∀ j, j ≠ n.toNat → t.runner j = s.runner j)))
        ∧ (cut → x.reads = [] → Answers (.runnerAbort r n) s (ended 2))
        ∧ (∀ code residue addr, x.outcome = some (code, residue, addr) → Answers (.runnerAbort r n) s (ended code))))

/-- Records: one that finds room stands in its slot and takes the next sequence number, one that finds the runner full is
dropped and takes its number too; the engine passes the front record to a host ring with a free slot, or stalls; indices written
by the host free slots and submit descriptors; signals follow moderation and masks (R17-R22, R498, R504, R510, R511, R514, R528,
R587, R588). Model readings and choices: log entry 38. -/
def Obligations.RecordsEnterAndLeave : Prop :=
  ∀ (s : State) (n : RunnerIx) (rec : Record) (e : T96) (v : U32) (x : BitVec 11) (wr : Bool) (off size : Nat) (d : U64) (bad : Bool),
    Live s →
    let q := s.runner n.toNat
    let len := (s.frontRecord n.toNat).length
    let only (t : State) := (∀ j, j ≠ n.toNat → t.runner j = s.runner j)
    let refused (code entry : Nat) (t : State) := t.num 0x2002 2 = code ∧ t.num 0x2002 3 = 2 ^ 31 + entry
      ∧ t = { s with od := t.od } ∧ KeepsBut [0x200201, 0x200202, 0x200203, 0x200204] s t
    (q.kind ≠ 1 → Answers (.recordWrite n rec e) s (fun t => t = s))
    ∧ (q.kind = 1 → q.dropped = none → q.stopGap = none → q.full = false → Answers (.recordWrite n rec e) s (fun t =>
        (t.runner n.toNat).w = q.w + 1 ∧ (t.runner n.toNat).nextSeq = q.nextSeq + 1 ∧ (t.runner n.toNat).drops = q.drops
        ∧ field (t.load (q.slotAddr q.w) 64) 0 1 = rec.typ.toNat ∧ field (t.load (q.slotAddr q.w) 64) 8 8 = q.nextSeq.toNat
        ∧ t.load (q.slotAddr q.w + 64) rec.payload.length = rec.payload
        ∧ (∀ a, a < q.slotAddr q.w ∨ q.slotAddr q.w + 64 + rec.payload.length ≤ a → t.byteAt a = s.byteAt a) ∧ only t))
    ∧ (q.kind = 1 → q.full = true → Answers (.recordWrite n rec e) s (fun t =>
        (t.runner n.toNat).w = q.w ∧ (t.runner n.toNat).nextSeq = q.nextSeq + 1 ∧ (t.runner n.toNat).drops = q.drops + 1
        ∧ (t.runner n.toNat).dropped.isSome = true ∧ t.mem = s.mem ∧ only t))
    ∧ (q.kind ≠ 1 ∨ s.ready n.toNat = false ∨ q.w = q.rd ∨ q.dest = 0 → Answers (.recordForwarded n bad) s (fun t => t = s))
    ∧ (q.kind = 1 → s.ready n.toNat = true → q.w ≠ q.rd → q.dest ≠ 0 →
      let pages := s.missingPage ((q.hostBase + (q.wh.toNat % q.hostSlots) * q.slotBytes, ceilTo 64 len)
        :: (if q.wbAddr = 0 then [] else [(q.wbAddr, 16)]))
      (s.destinationTakes q len = false → q.dest = 1 → Answers (.recordForwarded n bad) s (fun t =>
        t.runner n.toNat = { q with state := if q.state = .stopping then .stopped else .stalled } ∧ only t ∧ t.mem = s.mem))
      ∧ (s.destinationTakes q len = false → q.dest ≠ 1 → Answers (.recordForwarded n bad) s (fun t => t = s))
      ∧ (s.destinationTakes q len = true → s.engineTakes n.toNat = false → Answers (.recordForwarded n bad) s (fun t => t = s))
      ∧ (∀ p, q.dest = 1 → (q.wh - q.rdh).toNat < q.hostSlots → s.engineTakes n.toNat = true → pages = some p →
          Answers (.recordForwarded n bad) s (fun t => t = s.emit (.atsRequest (BitVec.ofNat 64 (p * 4096)))))
      ∧ (q.dest = 1 → (q.wh - q.rdh).toNat < q.hostSlots → s.engineTakes n.toNat = true → pages = none →
          Answers (.recordForwarded n false) s (fun t => (t.runner n.toNat).rd = q.rd + 1 ∧ (t.runner n.toNat).wh = q.wh + 1
            ∧ (t.runner n.toNat).completions = q.completions + 1 ∧ only t
            ∧ (t.runner n.toNat).state = (if q.state = .stopping then .stopped else .active)
            ∧ Output.hostWrite (BitVec.ofNat 64 (q.hostBase + (q.wh.toNat % q.hostSlots) * q.slotBytes))
                (padTo (ceilTo 64 len) (s.frontRecord n.toNat)) ∈ t.out))
      ∧ (q.dest = 2 ∨ q.dest = 3 → s.destinationTakes q len = true → s.engineTakes n.toNat = true →
          Answers (.recordForwarded n false) s (fun t =>
            (t.nstream q.handle.toNat).queue = (s.nstream q.handle.toNat).queue ++ [(n.toNat, s.frontRecord n.toNat)]
            ∧ (t.runner n.toNat).rd = q.rd + 1 ∧ only t)))
    ∧ (q.kind ≠ 1 ∨ q.dest ≠ 1 → Answers (.hostRingRelease n v) s (refused 0x08000020 (n.toNat * 64 + 8)))
    ∧ (q.kind = 1 → q.dest = 1 → q.hostSlots < (q.wh - v).toNat →
        Answers (.hostRingRelease n v) s (refused 0x06090030 (n.toNat * 64 + 8)))
    ∧ (q.kind = 1 → q.dest = 1 → (q.wh - v).toNat ≤ q.hostSlots → Answers (.hostRingRelease n v) s (fun t =>
        (t.runner n.toNat).rdh = v ∧ (t.runner n.toNat).wh = q.wh ∧ only t ∧ t.mem = s.mem))
    ∧ (q.kind ≠ 2 → Answers (.descriptorDoorbell n v) s (refused 0x08000020 (n.toNat * 64)))
    ∧ (q.kind = 2 → q.slots < (v - q.rd).toNat → Answers (.descriptorDoorbell n v) s (refused 0x06090030 (n.toNat * 64)))
    ∧ (q.kind = 2 → (v - q.rd).toNat ≤ q.slots → Answers (.descriptorDoorbell n v) s (fun t =>
        t.runner n.toNat = { q with w := v } ∧ only t ∧ t.mem = s.mem))
    ∧ (s.moderationDue n.toNat = false → Answers (.msixModerationTimer n) s (fun t => t = s))
    ∧ (s.moderationDue n.toNat = true → Answers (.msixModerationTimer n) s (fun t =>
        t.runner n.toNat = { q with unsignalled := 0, firstUnsignalled := none } ∧ only t
        ∧ (q.vector ≠ 0xFFFF → Tab.get (fun _ => false) s.dma.unmasked q.vector = true → t.out = .msix q.vector :: s.out)
        ∧ (q.vector ≠ 0xFFFF → Tab.get (fun _ => false) s.dma.unmasked q.vector = false →
            Tab.get (fun _ => false) t.dma.msixPending q.vector = true)
        ∧ (q.vector = 0xFFFF ∨ Tab.get (fun _ => false) s.dma.unmasked q.vector = false → t.out = s.out)))
    ∧ Answers (.msixUnmask x) s (fun t => Tab.get (fun _ => false) t.dma.unmasked x.toNat = true
        ∧ Tab.get (fun _ => false) t.dma.msixPending x.toNat = false
        ∧ t.out = (if Tab.get (fun _ => false) s.dma.msixPending x.toNat then [.msix x.toNat] else []) ++ s.out
        ∧ t = { s with dma := { s.dma with unmasked := t.dma.unmasked, msixPending := t.dma.msixPending }, out := t.out })
    ∧ Answers (.bar2InvalidAccess wr off size d) s (fun t => t.num 0x2002 3 = 2 ^ 31 + off % 2 ^ 22
        ∧ t.num 0x2002 2 = (if wr = true ∧ (size = 4 ∨ size = 8) ∧ off % size = 0 then 0x06010002 else 0x06010000)
        ∧ t = { s with od := t.od, out := t.out } ∧ KeepsBut [0x200201, 0x200202, 0x200203, 0x200204] s t)

/-- Descriptor transfers: the engine takes the runner in front of its turn; the fetch checks the descriptor, bursts move its bytes,
a failed beat is recorded, the status part ends it (R514-R517, R519-R523, R528, R530, R532). Host addresses: a granted page enters
the cache; a page not present parks the transfer; the page response resumes it, and a failed or missing one ends it with 0x08 or
0x09 (R524-R526). Model readings and choices: log entry 39. -/
def Obligations.DescriptorTransfersAndTranslations : Prop :=
  (∀ (s : State) (n : RunnerIx) (hb data : List Byte) (bad : List (Fin 32)) (f : Fin 32) (st : BeatStatus) (res : Bool), Live s →
    let q := s.runner n.toNat
    let a := q.slotAddr q.rd
    let y (t : State) := (t.runner n.toNat).xfer
    let only (t : State) := (∀ j, j ≠ n.toNat → t.runner j = s.runner j)
    let asks (p : Nat) (t : State) := t.out = .atsRequest (BitVec.ofNat 64 (p * 4096)) :: s.out ∧ t.mem = s.mem ∧ only t
    let checked (d : List Byte) (t : State) := t.mem = s.mem ∧ only t ∧ ∃ x, y t = some x
      ∧ x.opcode = field d 0 1 ∧ x.src = field d 8 8 ∧ x.dst = field d 16 8 ∧ x.done = 0 ∧ x.reads = [] ∧ x.failed = none
      ∧ x.unread = none
      ∧ (field d 0 1 = 0 ∨ 4 < field d 0 1 ∨ 1 < field d 1 1 ∨ field d 2 2 ≠ 0 → x.status = some 0x05)
      ∧ (field d 0 1 = 1 → field d 1 1 ≤ 1 → field d 2 2 = 0 →
          (field d 8 8 % 64 ≠ 0 ∨ field d 16 8 % 64 ≠ 0 ∨ field d 4 4 % 64 ≠ 0 → x.status = some 0x03)
          ∧ (field d 8 8 % 64 = 0 → field d 16 8 % 64 = 0 → field d 4 4 = 0 → x.status = some 0x06)
          ∧ (field d 8 8 % 64 = 0 → field d 16 8 % 64 = 0 → field d 4 4 % 64 = 0 → lengthOk (field d 4 4) = true →
              x.status = (if badRange (field d 8 8) (field d 4 4) ∨ badRange (field d 16 8) (field d 4 4) then some 0x07
                else none)))
    let unread (d : List Byte) (p : Nat) (t : State) := asks p t ∧ ∃ x, y t = some x ∧ x.unread = some d ∧ x.waitingAts = some p
      ∧ x.opcode = field d 0 1 ∧ x.status = none ∧ x.reads = [] ∧ x.done = 0
    (q.kind ≠ 2 ∨ s.engineTakes n.toNat = false → Answers (.descriptorFetch n hb) s (fun t => t = s))
    ∧ (q.kind = 2 → s.engineTakes n.toNat = true →
      (∀ x, q.xfer = some x → x.unread = none → Answers (.descriptorFetch n hb) s (fun t => t = s))
      ∧ (∀ x d, q.xfer = some x → x.unread = some d →
        (s.missingPage (descriptorList d) = none → Answers (.descriptorFetch n hb) s (checked d))
        ∧ (∀ p, s.missingPage (descriptorList d) = some p → Answers (.descriptorFetch n hb) s (unread d p)))
      ∧ (q.xfer = none →
        (∀ p, isHost q.base = true → s.missingPage [(a, 64)] = some p → Answers (.descriptorFetch n hb) s (fun t =>
          t = s.emit (.atsRequest (BitVec.ofNat 64 (p * 4096)))))
        ∧ (isHost q.base = false ∨ s.missingPage [(a, 64)] = none →
          let d := if isHost q.base then padTo 64 hb else s.load a 64
          (s.missingPage (descriptorList d) = none → Answers (.descriptorFetch n hb) s (checked d))
          ∧ (∀ p, s.missingPage (descriptorList d) = some p → Answers (.descriptorFetch n hb) s (unread d p)))))
    ∧ (q.xfer = none → ∀ c ∈ [Instr.dmaBurst n bad res, .dmaReadCompletion n data st bad, .completionTimeout n, .descriptorComplete n],
        Answers c s (fun t => t = s))
    ∧ (∀ x, q.xfer = some x →
      let w := x.burst
      let runs := q.kind = 2 ∧ x.unread = none ∧ s.engineTakes n.toNat = true
      let outside (lo len : Nat) (t : State) := (∀ i, i < lo ∨ lo + len ≤ i → t.byteAt i = s.byteAt i)
      (¬ runs ∨ x.status ≠ none ∨ x.failed ≠ none ∨ x.parked ≠ none ∨ x.waitingAts ≠ none ∨ x.done = x.total
          ∨ s.ready n.toNat = false → Answers (.dmaBurst n bad res) s (fun t => t = s))
      ∧ (runs → Answers (.dmaBurst n bad true) s (fun t => t.dma.faultEvents = s.dma.faultEvents + 1 ∧ t.mem = s.mem
          ∧ y t = some x))
      ∧ (runs → x.opcode = 1 → isHost w.2.1 = false → isHost w.2.2.1 = false →
        Answers (.dmaBurst n [] false) s (fun t => t.load w.2.2.1 w.2.2.2 = s.load w.2.1 w.2.2.2
          ∧ outside w.2.2.1 w.2.2.2 t ∧ (y t).map Xfer.done = some (x.done + w.2.2.2) ∧ only t)
        ∧ (64 * f.val < w.2.2.2 → Answers (.dmaBurst n [f] false) s (fun t => outside w.2.2.1 w.2.2.2 t
          ∧ (∀ i, w.2.2.1 + 64 * f.val ≤ i → i < w.2.2.1 + 64 * f.val + 64 → t.byteAt i = s.byteAt i)
          ∧ (y t).map Xfer.failed = some (some (w.2.1 + 64 * f.val)) ∧ only t)))
      ∧ (runs → x.opcode = 1 → isHost w.2.1 = true → isHost w.2.2.1 = false →
        (s.tagFree = false → Answers (.dmaBurst n bad false) s (fun t => t = s))
        ∧ (∀ p, s.tagFree = true → s.missingPage [(w.2.1, w.2.2.2)] = some p → Answers (.dmaBurst n bad false) s (fun t =>
            asks p t ∧ y t = some { x with waitingAts := some p }))
        ∧ (s.tagFree = true → s.missingPage [(w.2.1, w.2.2.2)] = none → Answers (.dmaBurst n bad false) s (fun t =>
            t.out = .hostRead (BitVec.ofNat 64 w.2.1) w.2.2.2 :: s.out ∧ t.dma.inFlight = s.dma.inFlight + 1 ∧ t.mem = s.mem ∧ only t
            ∧ y t = some { x with done := x.done + w.2.2.2, reads := x.reads ++ [(w.2.1, w.1, w.2.2.2)] })))
      ∧ (runs → x.opcode = 2 → isHost w.2.2.1 = false → Answers (.dmaBurst n bad false) s (fun t =>
          t.load w.2.2.1 w.2.2.2 = patternBytes x.pattern w.1 w.2.2.2 ∧ outside w.2.2.1 w.2.2.2 t ∧ only t))
      ∧ (x.opcode = 4 → (s.runner x.src).w = (s.runner x.src).rd ∨ (s.runner x.dst).full = true →
          Answers (.dmaBurst n bad res) s (fun t => t = s))
      ∧ (runs → x.opcode = 4 → x.src ≠ n.toNat → x.dst ≠ n.toNat → x.src ≠ x.dst → Answers (.dmaBurst n bad false) s (fun t =>
          (y t).map Xfer.done = some (x.done + 1) ∧ (t.runner x.src).rd = (s.runner x.src).rd + 1
          ∧ (t.runner x.dst).w = (s.runner x.dst).w + 1
          ∧ (∀ j, j ≠ n.toNat → j ≠ x.src → j ≠ x.dst → t.runner j = s.runner j)))
      ∧ (x.reads = [] → ∀ c ∈ [Instr.dmaReadCompletion n data st bad, .completionTimeout n], Answers c s (fun t => t = s))
      ∧ (∀ b o m rest, x.reads = (b, o, m) :: rest →
        (isHost (x.dst + o) = false → Answers (.dmaReadCompletion n data .ok bad) s (fun t => t.load (x.dst + o) m = padTo m data
          ∧ outside (x.dst + o) m t
          ∧ (y t).map Xfer.reads = some rest ∧ t.dma.inFlight = s.dma.inFlight - 1 ∧ only t))
        ∧ (st = .ur ∨ st = .ca → x.failed = none → 0 < m → m ≤ 2048 → Answers (.dmaReadCompletion n data st bad) s (fun t =>
          t.mem = s.mem ∧ (y t).map Xfer.failed = some (some b) ∧ (y t).map Xfer.reads = some rest ∧ t.net.urca = s.net.urca + 1))
        ∧ (st = .poisoned ∨ st = .uncorrectable → x.failed = none → 64 * f.val < m → isHost (x.dst + o) = false →
            Answers (.dmaReadCompletion n data st [f]) s (fun t => outside (x.dst + o) m t
              ∧ (∀ i, x.dst + o + 64 * f.val ≤ i → i < x.dst + o + 64 * f.val + 64 → t.byteAt i = s.byteAt i)
              ∧ (y t).map Xfer.failed = some (some (b + 64 * f.val)) ∧ (y t).map Xfer.reads = some rest
              ∧ t.net.urca = s.net.urca))
        ∧ (x.failed = none → Answers (.completionTimeout n) s (fun t => t.mem = s.mem ∧ (y t).map Xfer.failed = some (some b)
          ∧ (y t).map Xfer.reads = some rest ∧ t.net.timeouts = s.net.timeouts + 1)))
      ∧ (x.outcome = none → Answers (.descriptorComplete n) s (fun t => t = s))
      ∧ (∀ code residue addr, x.outcome = some (code, residue, addr) →
        let pages := s.missingPage ((if isHost q.base then [(a + 32, 32)] else []) ++ (if q.wbAddr = 0 then [] else [(q.wbAddr, 16)]))
        (x.status = none → x.parked ≠ none ∨ x.waitingAts ≠ none → Answers (.descriptorComplete n) s (fun t => t = s))
        ∧ (x.status ≠ none ∨ (x.parked = none ∧ x.waitingAts = none) →
          (∀ p, pages = some p → Answers (.descriptorComplete n) s (fun t => asks p t ∧ y t = some { x with waitingAts := some p }))
          ∧ (pages = none → Answers (.descriptorComplete n) s (fun t =>
            y t = none ∧ (t.runner n.toNat).rd = q.rd + 1 ∧ (t.runner n.toNat).lastStatus = code
            ∧ (t.runner n.toNat).completions = q.completions + 1 ∧ only t
            ∧ (isHost q.base = false → t.load (a + 32) 32 = x.statusPart code residue addr s.now)
            ∧ (∀ i, isHost q.base = true ∨ i < a + 32 ∨ a + 64 ≤ i → t.byteAt i = s.byteAt i)))))))
  ∧ (∀ (s : State) (n : RunnerIx) (page : U64), Live s →
    let q := s.runner n.toNat
    let p := hostPage page.toNat
    let only (t : State) := (∀ j, j ≠ n.toNat → t.runner j = s.runner j)
    let asks (t : State) := t.dma.pageReqs = s.dma.pageReqs + 1 ∧ t.out = .pageRequest (BitVec.ofNat 64 (p * 4096)) :: s.out
      ∧ (t.runner n.toNat).parkedAt = some s.now
      ∧ (t.runner n.toNat).state = (if q.state = .stopping then .stopping else .waitingPage) ∧ only t ∧ t.mem = s.mem
    let fails (code : Nat) (c : Instr) (counts : State → Prop) :=
      (∀ g, q.fwdParked = some g → Answers c s (fun t => counts t ∧ only t ∧ Journalled t 2 15 9
        ∧ t.runner n.toNat = { q with fwdParked := none, fwdDone := 0, state := .stopped, lastStatus := code }))
      ∧ (∀ x g, q.fwdParked = none → q.xfer = some x → x.parked = some g → x.status = none → x.reads = [] → x.failed = none →
          x.unread ≠ none ∨ x.done ≠ x.total → Answers c s (fun t => counts t ∧ only t
            ∧ (t.runner n.toNat).xfer = none ∧ (t.runner n.toNat).lastStatus = code ∧ (t.runner n.toNat).rd = q.rd + 1))
    Answers (.atsTranslationCompletion n page .granted) s (fun t => p ∈ t.dma.atc ∧ only t ∧ t.mem = s.mem
      ∧ (t.runner n.toNat).xfer = q.xfer.map (fun x => { x with waitingAts := if x.waitingAts = some p then none else x.waitingAts }))
    ∧ (q.mayPark p = false → Answers (.atsTranslationCompletion n page .notPresent) s (fun t => t = s))
    ∧ (q.xfer = none → q.kind ≠ 0 → q.w ≠ q.rd → q.fwdParked = none →
        Answers (.atsTranslationCompletion n page .notPresent) s (fun t => asks t ∧ (t.runner n.toNat).fwdParked = some p
          ∧ (t.runner n.toNat).xfer = none))
    ∧ (∀ x, q.xfer = some x → x.waitingAts = some p → Answers (.atsTranslationCompletion n page .notPresent) s (fun t => asks t
        ∧ (t.runner n.toNat).xfer = some { x with waitingAts := none, parked := some p, pageReqs := true }))
    ∧ Answers (.atsInvalidation page) s (fun t => p ∉ t.dma.atc ∧ (∀ j, j ≠ p → (j ∈ t.dma.atc ↔ j ∈ s.dma.atc))
        ∧ t.net.invalidations = s.net.invalidations + 1 ∧ (∀ j, t.runner j = s.runner j) ∧ t.mem = s.mem
        ∧ ((∀ j ∈ s.dma.runners, j.2.xfer = none) →
            Output.invalidationDone (BitVec.ofNat 64 (p * 4096)) ∈ t.out ∧ t.dma.invalidating = []))
    ∧ (q.waitsPage = false → ∀ c ∈ [Instr.priPageResponse n .success, .priPageResponse n .invalidRequest,
        .priPageResponse n .responseFailure, .pageRequestTimeout n], Answers c s (fun t => t = s))
    ∧ (s.pageOverdue n.toNat = false → Answers (.pageRequestTimeout n) s (fun t => t = s))
    ∧ (∀ g, q.fwdParked = some g → Answers (.priPageResponse n .success) s (fun t => (t.runner n.toNat).fwdParked = none
        ∧ (t.runner n.toNat).state = (if q.state = .stopping then .stopping else .active) ∧ only t ∧ t.mem = s.mem))
    ∧ (∀ x g, q.fwdParked = none → q.xfer = some x → x.parked = some g → x.status = none →
      Answers (.priPageResponse n .success) s (fun t => (t.runner n.toNat).xfer = some { x with parked := none }
        ∧ (t.runner n.toNat).state = (if q.state = .stopping then .stopping else .active) ∧ only t ∧ t.mem = s.mem))
    ∧ (∀ c ∈ [Instr.priPageResponse n .invalidRequest, .priPageResponse n .responseFailure],
        fails 8 c (fun t => t.dma.pageFails = s.dma.pageFails + 1))
    ∧ (s.pageOverdue n.toNat = true → fails 9 (.pageRequestTimeout n) (fun t => t.dma.pageTimeouts = s.dma.pageTimeouts + 1)))

/-! ### The recording store (chapter 14) -/

/-- Drives and the format: in PREOP only, a format of a drive of the store discards the store under a new Store ID, and one of
other drives relabels them; a drive is enumerated into service, foreign or outside the limits; link loss and failed zones
retire; wear and the scrub (R535-R539, R551, R554, R555).
Model readings and choices: log entry 41. -/
def Obligations.StoreFormatAndDrives : Prop :=
  ∀ (s : State) (r : Requester) (mask gen width used spare th : Byte) (d : Fin 8) (i : DriveInfo) (media chunk : U64) (zone : Nat)
    (x : ScrubResult), Live s →
    let v := s.drive d.val
    let only (t : State) := (∀ e, e ≠ d.val → t.drive e = s.drive e)
    let chosen (e : Nat) := mask.getLsbD e = true ∧ (s.drive e).info.isSome = true
      ∧ ((s.drive e).st = 2 ∨ (s.drive e).st = 3 ∨ (s.drive e).st = 5)
    (MayWrite s r → s.ctl.dev ≠ .preop → Answers (.storeFormat r mask) s (fun t => t.num 0x2002 2 = 0x08000022 ∧ t.sto = s.sto))
    ∧ (MayWrite s r → s.ctl.dev = .preop → s.formatDiscards mask = true → Answers (.storeFormat r mask) s (fun t =>
        t.sto.generation = s.sto.generation + 1 ∧ t.sto.storeId = Config.freeValue s.ctl.drawn % 2 ^ 64 ∧ t.sto.chunks = []
        ∧ t.sto.streams = [] ∧ t.sto.entries = [] ∧ t.mem = s.mem
        ∧ (∀ e, e < 8 → chosen e → (t.drive e).st = 2 ∧ (t.drive e).zones = [] ∧ (t.drive e).log = [])
        ∧ (∀ e, e < 8 → ¬ chosen e → (t.drive e).info = (s.drive e).info ∧ (t.drive e).zones = (s.drive e).zones
            ∧ ((s.drive e).st = 2 ∨ (s.drive e).st = 3 → (t.drive e).st = 5))))
    ∧ (MayWrite s r → s.ctl.dev = .preop → s.formatDiscards mask = false → Answers (.storeFormat r mask) s (fun t =>
        t.sto.storeId = s.sto.storeId ∧ t.sto.chunks = s.sto.chunks ∧ t.sto.streams = s.sto.streams ∧ t.sto.st = s.sto.st
        ∧ t.mem = s.mem ∧ (∀ e, e < 8 → chosen e → (t.drive e).st = 5 ∧ (t.drive e).zones = [])
        ∧ (∀ e, e < 8 → ¬ chosen e → t.drive e = s.drive e)))
    ∧ (s.ctl.firmware = false → Answers (.storLinkUp d gen width) s (fun t => t = s))
    ∧ (s.ctl.firmware = true → Answers (.storLinkUp d gen width) s (fun t =>
        t.drive d.val = { v with st := 1, link := (gen.toNat % 16) * 16 + width.toNat % 16 } ∧ only t
        ∧ (s.sto.st = 0 → t.sto.st = 1) ∧ t = { s with sto := t.sto }))
    ∧ (v.st ≠ 1 → Answers (.driveEnumerated d i) s (fun t => t = s) ∧ Answers (.driveReadyTimeout d) s (fun t => t = s))
    ∧ (v.st = 1 → Answers (.driveReadyTimeout d) s (fun t => t.drive d.val = { v with st := 0 } ∧ only t ∧ t.mem = s.mem))
    ∧ (v.st = 1 → Answers (.driveEnumerated d i) s (fun t => (t.drive d.val).info = some i ∧ only t ∧ t.mem = s.mem
        ∧ (i.withinLimits = false → (t.drive d.val).st = 6)
        ∧ (i.withinLimits = true → 67108864 ≤ i.zoneCapacity → 131072 ≤ i.appendLimit → i.label = none → (t.drive d.val).st = 5)
        ∧ (∀ l, i.withinLimits = true → 67108864 ≤ i.zoneCapacity → 131072 ≤ i.appendLimit → i.label = some l →
            (∀ e, e < 8 → e ≠ d.val → (s.drive e).st ≠ 2 ∧ (s.drive e).st ≠ 3) → i.used.toNat < s.num 0x2C00 8 →
            v.retired = false → (t.drive d.val).st = 2 ∧ t.sto.storeId = l.storeId.toNat ∧ t.sto.generation = l.generation.toNat)))
    ∧ (v.st ≠ 2 → v.st ≠ 3 → Answers (.wearPoll d used spare th media) s (fun t => t = s))
    ∧ (v.st = 2 ∨ v.st = 3 → Answers (.wearPoll d used spare th media) s (fun t => only t ∧ t.mem = s.mem
        ∧ (t.drive d.val).used = used.toNat ∧ (t.drive d.val).spare = spare.toNat ∧ (t.drive d.val).media = media.toNat
        ∧ (s.num 0x2C00 8 ≤ used.toNat → (t.drive d.val).st = 3) ∧ (used.toNat < s.num 0x2C00 8 → (t.drive d.val).st = v.st)
        ∧ (v.used < s.num 0x2C00 7 → s.num 0x2C00 7 ≤ used.toNat → Journalled t 2 16 9)))
    ∧ (v.st = 0 → Answers (.storLinkLoss d) s (fun t => t = s))
    ∧ (v.st ≠ 0 → Answers (.storLinkLoss d) s (fun t => (t.drive d.val).st = 4 ∧ (t.drive d.val).link = 0 ∧ t.mem = s.mem))
    ∧ Answers (.zoneStateReport d zone .readOnly) s (fun t => ((t.drive d.val).zone zone).cond = 3 ∧ only t ∧ t.mem = s.mem)
    ∧ Answers (.zoneStateReport d zone .offline) s (fun t => ((t.drive d.val).zone zone).cond = 4 ∧ only t
        ∧ t.sto.retiredZones = s.sto.retiredZones + 1 ∧ t.mem = s.mem)
    ∧ (s.chunk? chunk.toNat = none → Answers (.scrubChunkRead d chunk x) s (fun t => t = s))
    ∧ (∀ c, s.chunk? chunk.toNat = some c →
      (c.drive ≠ d.val ∨ c.live = false ∨ 1 ≤ s.hea.level → Answers (.scrubChunkRead d chunk x) s (fun t => t = s))
      ∧ (s.bcfg .store 0x2C00 6 = 0 ∨ s.ctl.crystalCount < v.scrubFree
          ∨ (∃ a, c.scrubAt = some a ∧ s.ctl.crystalCount < a + s.num 0x2C00 4 * 1600000000) →
          Answers (.scrubChunkRead d chunk x) s (fun t => t = s))
      ∧ (c.drive = d.val → c.live = true → s.hea.level = 0 → 0 < s.bcfg .store 0x2C00 6 → v.scrubFree ≤ s.ctl.crystalCount →
          (∀ a, c.scrubAt = some a → a + s.num 0x2C00 4 * 1600000000 ≤ s.ctl.crystalCount) →
        (s.zoneAged d.val c.zone = false → (v.zone c.zone).cond ≠ 3 → (v.zone c.zone).retry = false → v.st ≠ 3 →
          Answers (.scrubChunkRead d chunk .good) s (fun t =>
            t.drive d.val = { v with scrubFree := s.ctl.crystalCount + c.used * 1600 / s.bcfg .store 0x2C00 6 } ∧ only t
            ∧ t = { s with sto := { s.sto with chunks := t.sto.chunks, drives := t.sto.drives } }
            ∧ (∀ k, k ≠ chunk.toNat → t.chunk? k = s.chunk? k) ∧ t.chunk? chunk.toNat = some { c with scrubAt := some s.ctl.crystalCount }))
        ∧ Answers (.scrubChunkRead d chunk .crcBad) s (fun t => t.sto.lost = s.sto.lost + 1 ∧ t = { s with sto := t.sto })
        ∧ Answers (.scrubChunkRead d chunk .unreadable) s (fun t => t.sto.lost = s.sto.lost + 1 ∧ t.mem = s.mem
          ∧ (t.drive d.val).faults = v.faults + 1)))

/-- Recovery, chunks, the store's journal and replays: a chunk is appended once to the next drive with room, or its stream
stalls; entries gather in blocks, and a durable block commits its chunks; a replay waits for its runner (R541-R550, R552,
R557-R559). Model readings and choices: log entries 41 and 42. -/
def Obligations.StoreChunksAndReplays : Prop :=
  ∀ (s : State) (r : Requester) (tails : List StreamTail) (bad : Bool) (n : Fin 32) (d : Fin 8) (lba : U64) (st : AppendStatus) (i : Fin 8)
    (rd : ScrubResult), Live s →
    let q := s.rstream n.val
    let v := s.drive d.val
    let p := s.replay i.val
    let ix := 0x2C60 + i.val
    (s.sto.st ≠ 2 → Answers (.storeRecoveryComplete tails bad) s (fun t => t = s))
    ∧ (s.sto.st = 2 → Answers (.storeRecoveryComplete tails bad) s (fun t => t.sto.st = 3 ∧ t.mem = s.mem
        ∧ t.sto.result = (if bad = true then 4 else if tails.any StreamTail.lostTail then 3 else if ∃ x ∈ tails, 0 < x.recovered then 2 else 1)))
    ∧ (q.series = [] ∨ s.flushDue n.val = false → Answers (.chunkFlushTimer n) s (fun t => t = s))
    ∧ (q.series ≠ [] → s.flushDue n.val = true → Answers (.chunkFlushTimer n) s (fun t => (t.rstream n.val).series = [] ∧ (t.rstream n.val).next = q.next + 1
        ∧ (∀ m, m ≠ n.val → t.rstream m = s.rstream m) ∧ t.mem = s.mem))
    ∧ (q.waiting = [] → Answers (.chunkAppend n) s (fun t => t = s))
    ∧ (∀ key rest c, q.waiting = key :: rest → s.chunk? key = some c →
      (s.driveOrder n.val = [] → q.st ≠ 0 → Answers (.chunkAppend n) s (fun t => (t.rstream n.val).st = 2
        ∧ (t.rstream n.val).waiting = q.waiting ∧ t = { s with sto := t.sto } ∧ t.sto.drives = s.sto.drives))
      ∧ (∀ e es z, s.driveOrder n.val = e :: es → (s.drive e).openZone n.val = some z →
          ((s.drive e).zone z).written + (c.used + 4095) / 4096 ≤ (s.drive e).zoneLbas → q.st ≠ 0 →
          Answers (.chunkAppend n) s (fun t => (t.rstream n.val).waiting = rest ∧ (t.rstream n.val).st = 1
            ∧ (t.rstream n.val).lastPos = s.positionOf e ∧ (t.drive e).outstanding = (s.drive e).outstanding ++ [key]
            ∧ ((t.drive e).zone z).written = ((s.drive e).zone z).written + (c.used + 4095) / 4096
            ∧ t.out = .drive e 0x7D z (c.image s.sto.storeId) :: s.out
            ∧ (∀ f, f ≠ e → t.drive f = s.drive f) ∧ t = { s with sto := t.sto, out := t.out })))
    ∧ (v.outstanding = [] → Answers (.appendComplete d lba st) s (fun t => t = s))
    ∧ (s.appendOverdue d.val = false → Answers (.appendTimeout d) s (fun t => t = s))
    ∧ (s.appendOverdue d.val = true → Answers (.appendTimeout d) s (fun t => (t.drive d.val).st = 4 ∧ t.mem = s.mem))
    ∧ (∀ key c, s.completes d lba.toNat = some key → s.chunk? key = some c → (∀ m, m < 32 → (s.rstream m).st ≠ 2) →
      Answers (.appendComplete d lba .ok) s (fun t =>
        t.drive d.val = { v with outstanding := v.outstanding.erase key } ∧ (∀ e, e ≠ d.val → t.drive e = s.drive e)
        ∧ t.chunk? key = some { c with st := .appended, lba := lba.toNat, entry := some s.sto.entryNo }
        ∧ t.sto.entryNo = s.sto.entryNo + 1 ∧ t.sto.entries.length = s.sto.entries.length + 1 ∧ t = { s with sto := t.sto }))
    ∧ (s.sto.entries = [] ∨ s.journalDrives = [] → Answers .journalBlockAppend s (fun t => t = s))
    ∧ (s.sto.entries ≠ [] → s.journalDrives ≠ [] → Answers .journalBlockAppend s (fun t => t.sto.entries = s.sto.entries.drop 64
        ∧ (∃ last, t.sto.blocks = s.sto.blocks ++ [(last, padTo 4096 (s.sto.entries.take 64).flatten)])
        ∧ t.sto.entryNo = s.sto.entryNo ∧ t.sto.chunks = s.sto.chunks ∧ t = { s with sto := t.sto, out := t.out }))
    ∧ (s.sto.blocks = [] → Answers .journalBlockDurable s (fun t => t = s))
    ∧ (∀ b rest, s.sto.blocks = b :: rest → Answers .journalBlockDurable s (fun t => t.sto.blocks = rest
        ∧ t.sto.drives = s.sto.drives ∧ t = { s with sto := t.sto, caps := t.caps }))
    ∧ (s.journalDrives = [] ∨ s.catalogueIsDue = false → Answers .catalogueWrite s (fun t => t = s))
    ∧ (s.journalDrives ≠ [] → s.catalogueIsDue = true → Answers .catalogueWrite s (fun t => t.sto.catZone = (if s.sto.catZone = 2 then 3 else 2)
        ∧ t.sto.catalogueDue = false ∧ t.sto.catalogueAt = s.now ∧ t.sto.chunks = s.sto.chunks ∧ t = { s with sto := t.sto, out := t.out }))
    ∧ (MayWrite s r → s.sto.st ≠ 3 → Answers (.replayStart r i) s (fun t => t.num 0x2002 2 = 0x08000020 ∧ t.sto = s.sto))
    ∧ (MayWrite s r → s.sto.st = 3 → s.isRecordRunner (s.num ix 8) = true → s.runnerNamed (s.num ix 8) = false →
        (∀ j, j < 8 → j ≠ i.val → (s.replay j).st = 1 ∨ (s.replay j).st = 2 → (s.replay j).runner ≠ s.num ix 8) → Answers (.replayStart r i) s (fun t =>
          (t.replay i.val).st = 1 ∧ (t.replay i.val).stream = s.num ix 1 ∧ (t.replay i.val).runner = s.num ix 8
          ∧ (t.replay i.val).delivered = 0 ∧ (∀ j, j ≠ i.val → t.replay j = s.replay j) ∧ t = { s with sto := t.sto }))
    ∧ (MayWrite s r → Answers (.replayStop r i) s (fun t => t.replay i.val = { p with st := if p.st = 1 ∨ p.st = 2 then 4 else p.st }
        ∧ (∀ j, j ≠ i.val → t.replay j = s.replay j) ∧ t = { s with sto := t.sto }))
    ∧ (p.st ≠ 1 → p.st ≠ 2 → Answers (.replayRecordDeliver i rd) s (fun t => t = s))
    ∧ (p.st = 1 ∨ p.st = 2 →
      let ends (t : State) := (t.replay i.val).st = 3 ∧ (t.runner p.runner).w = (s.runner p.runner).w + 1
      let waits (t : State) := t.replay i.val = { p with st := 2 } ∧ t = { s with sto := t.sto }
      (p.limit ≠ 0 → p.limit ≤ p.delivered →
        (s.runnerTakes p.runner = true → Answers (.replayRecordDeliver i rd) s ends)
        ∧ (s.runnerTakes p.runner = false → Answers (.replayRecordDeliver i rd) s waits))
      ∧ (p.limit = 0 ∨ p.delivered < p.limit →
        let rate := s.bcfg .store (0x2C60 + i.val) 9
        let busy := (s.chunk? (chunkKey p.stream p.chunk)).map (fun c => decide (2097152 ≤ s.outstandingBytes c.drive))
        ((rate = 0 ∧ busy = some true) ∨ (rate ≠ 0 ∧ s.now.toNat < p.due.toNat) →
          Answers (.replayRecordDeliver i rd) s (fun t => t = s))
        ∧ ((rate = 0 ∧ busy ≠ some true) ∨ (rate ≠ 0 ∧ p.due.toNat ≤ s.now.toNat) →
          (∀ b k off, s.replayNext p = .record b true k off →
            (s.runnerTakes p.runner = false → Answers (.replayRecordDeliver i .good) s waits)
            ∧ (s.runnerTakes p.runner = true → Answers (.replayRecordDeliver i .good) s (fun t =>
              (t.runner p.runner).w = (s.runner p.runner).w + 1 ∧ (t.replay i.val).delivered = p.delivered + 1
              ∧ (t.replay i.val).chunk = k ∧ (t.replay i.val).offset = off ∧ (t.replay i.val).st = 1
              ∧ (∀ j, j ≠ i.val → t.replay j = s.replay j))))
          ∧ (∀ cause first count session time, s.replayNext p = .notice cause first count session time →
              s.runnerTakes p.runner = true → Answers (.replayRecordDeliver i .good) s (fun t =>
                (t.runner p.runner).w = (s.runner p.runner).w + 1 ∧ (t.replay i.val).notices = p.notices + 1
                ∧ (t.replay i.val).delivered = p.delivered ∧ (∀ j, j ≠ i.val → t.replay j = s.replay j)))
          ∧ (s.replayNext p = .finish → s.runnerTakes p.runner = true → Answers (.replayRecordDeliver i .good) s ends))))

/-! ### Ethernet ports, network streams and the host port (chapter 15) -/

/-- Ports: modules, links, frames received, pauses, and addresses resolved (R562-R564, R567, R580). A function-level reset and a
loss of the host link stop what uses host memory and are reported; the link comes up again (R583, R589). Model readings and
choices: log entries 40 and 43. -/
def Obligations.EthernetAndHostPorts : Prop :=
  (∀ (s : State) (p : Fin 2) (temp power : BitVec 16) (rx : EthRx) (bytes : Nat) (fcs : Bool) (mask : Byte) (pfc : Bool) (n : Fin 32) (mac : U64),
    Live s →
    let q := s.port p.val
    let only (t : State) := (∀ o, o ≠ p.val → t.port o = s.port o) ∧ t.net.streams = s.net.streams ∧ t.mem = s.mem ∧ t.dma.runners = s.dma.runners
    let net (t : State) := only t ∧ t = { s with net := { s.net with ports := t.net.ports } }
    let hit := if pfc then mask.toNat &&& s.portCfg p.val 0x0C else if s.portCfg p.val 0x0D = 1 then 0xFF else 0
    Answers (.modulePoll p .good temp power) s (fun t => t.port p.val = { q with
        module' := true, temperature := temp.toNat, power := power.toNat, link := if q.link = 2 ∨ q.link = 3 then 0 else q.link } ∧ net t)
    ∧ Answers (.modulePoll p .absent temp power) s (fun t => (t.port p.val).link = 2 ∧ (t.port p.val).module' = false
        ∧ (t.port p.val).losses = q.losses + (if q.link = 1 then 1 else 0) ∧ only t)
    ∧ Answers (.modulePoll p .unsupported temp power) s (fun t => (t.port p.val).link = 3 ∧ (t.port p.val).module' = true
        ∧ (t.port p.val).losses = q.losses + (if q.link = 1 then 1 else 0) ∧ only t)
    ∧ (s.portCfg p.val 1 ≠ 0 → q.link ≠ 2 → q.link ≠ 3 → Answers (.ethLinkUp p) s (fun t => t.port p.val = { q with link := 1 } ∧ net t))
    ∧ (s.portCfg p.val 1 = 0 ∨ q.link = 2 ∨ q.link = 3 → Answers (.ethLinkUp p) s (fun t => t = s))
    ∧ (q.link = 1 → Answers (.ethLinkLoss p) s (fun t => t.port p.val = { q with link := 0, losses := q.losses + 1 }
        ∧ Journalled t 2 17 9 ∧ only t))
    ∧ (q.link ≠ 1 → Answers (.ethLinkLoss p) s (fun t => t = s))
    ∧ (fcs = true ∨ s.portsApplied = false ∨ rx = .other → Answers (.ethFrameReceived p rx bytes fcs) s (fun t =>
        t.port p.val = { q with discarded := (q.discarded + 1) % 2 ^ 32 } ∧ net t))
    ∧ (s.portsApplied = true → rx ≠ .other → Answers (.ethFrameReceived p rx bytes false) s (fun t =>
        t.port p.val = { q with sent := q.sent + 1, bytes := q.bytes + bytes } ∧ only t ∧ t.out.length = s.out.length + 1
        ∧ t = { s with net := { s.net with ports := t.net.ports }, out := t.out }))
    ∧ (s.portsApplied = false ∨ hit = 0 → Answers (.pauseReceived p pfc mask) s (fun t => t = s))
    ∧ (s.portsApplied = true → hit ≠ 0 → Answers (.pauseReceived p pfc mask) s (fun t => t.port p.val = { q with
        paused := q.paused ||| hit, since := if q.paused = 0 then some s.now else q.since } ∧ net t))
    ∧ Answers (.pauseExpiry p mask) s (fun t => (t.port p.val).paused = q.paused &&& (255 - mask.toNat)
        ∧ (q.paused &&& (255 - mask.toNat) ≠ 0 → (t.port p.val).pausedNs = q.pausedNs ∧ (t.port p.val).since = q.since)
        ∧ (q.paused &&& (255 - mask.toNat) = 0 → (t.port p.val).since = none
            ∧ ∀ x, q.since = some x → (t.port p.val).pausedNs = q.pausedNs + t96ToNs (s.now - x)) ∧ (t.port p.val).link = q.link ∧ net t)
    ∧ (s.portsApplied = true → (s.port (s.netCfg n.val 1)).link = 1 → s.netMac n.val = none →
        (∀ a, (s.nstream n.val).asked = some a → s.elapsed a 1000000000 = true) →
        Answers (.addressResolutionRetry n) s (fun t => t.out = .frame (s.netCfg n.val 1) (s.nextHop n.val) :: s.out
          ∧ (t.port (s.netCfg n.val 1)).sent = (s.port (s.netCfg n.val 1)).sent + 1
          ∧ t.nstream n.val = { s.nstream n.val with asked := some s.now } ∧ (∀ m, m ≠ n.val → t.nstream m = s.nstream m)
          ∧ t = { s with net := { s.net with ports := t.net.ports, streams := t.net.streams }, out := t.out }))
    ∧ (s.portsApplied = false ∨ (s.port (s.netCfg n.val 1)).link ≠ 1 ∨ (s.netMac n.val).isSome = true
        ∨ (∃ a, (s.nstream n.val).asked = some a ∧ s.elapsed a 1000000000 = false) →
        Answers (.addressResolutionRetry n) s (fun t => t = s))
    ∧ Answers (.addressResolved n mac) s (fun t => t.nstream n.val = { s.nstream n.val with mac := some (mac.toNat % 2 ^ 48) }
        ∧ (∀ m, m ≠ n.val → t.nstream m = s.nstream m) ∧ t = { s with net := { s.net with streams := t.net.streams } }))
  ∧ (∀ (s : State) (gen width : Byte) (flit : Bool), Live s →
    let abandons (t : State) := t.dma.atc = [] ∧ t.dma.invalidating = [] ∧ t.dma.inFlight = 0 ∧ t.mem = s.mem ∧ t.sto = s.sto
      ∧ Journalled t 2 18 9
      ∧ (∀ n, ((s.runner n).kind = 2 ∧ isHost (s.runner n).base = true) ∨ ((s.runner n).kind = 1 ∧ (s.runner n).dest = 1) →
          (t.runner n).state = .stopped ∧ (t.runner n).xfer = none ∧ (t.runner n).fwdParked = none
          ∧ (t.runner n).w = (s.runner n).w ∧ (t.runner n).rd = (s.runner n).rd)
    Answers .functionLevelReset s (fun t => abandons t ∧ t.net = { s.net with flrs := s.net.flrs + 1 })
    ∧ Answers .hostLinkLoss s (fun t => abandons t ∧ t.net = { s.net with
        hostLosses := s.net.hostLosses + 1, hostUp := false, hostLink := 0, flit := false })
    ∧ Answers (.hostLinkUp gen width flit) s (fun t => t = { s with net := { s.net with
        hostUp := true, hostLink := (gen.toNat % 16) * 16 + width.toNat % 16, flit := flit } }))

/-- A network stream sends one record as fragments, one VDIF frame, or one data packet with the context packets that precede it;
it sends nothing while its port is down, its queue paused or outranked, its destination unknown or its rate limit reached (R567,
R570-R581). Model readings and choices: log entry 43. -/
def Obligations.NetworkStreams : Prop :=
  ∀ (s : State) (n : Fin 32), Live s →
    let q := s.nstream n.val
    let only (t : State) := (∀ m, m ≠ n.val → t.nstream m = s.nstream m) ∧ (q.next = none → t.ctl = s.ctl)
      ∧ t = { s with ctl := { s.ctl with blockPour := t.ctl.blockPour }
                     net := { s.net with ports := t.net.ports, streams := t.net.streams }, out := t.out }
    let limit := s.netCfg n.val 0x0C
    (q.queue = [] → ∀ c ∈ [Instr.streamPacketSend n, .vitaDataPacket n], Answers c s (fun t => t = s))
    ∧ (s.canSend n.val = false → ∀ c ∈ [Instr.streamPacketSend n, .vdifFrameSend n, .vitaDataPacket n], Answers c s (fun t => t = s))
    ∧ (s.netCfg n.val 2 ≠ 0 → Answers (.streamPacketSend n) s (fun t => t = s))
    ∧ (s.netCfg n.val 2 ≠ 1 → Answers (.vdifFrameSend n) s (fun t => t = s))
    ∧ (s.netCfg n.val 2 ≠ 2 → Answers (.vitaDataPacket n) s (fun t => t = s))
    ∧ (s.canSend n.val = true → s.netCfg n.val 2 = 1 → Answers (.vdifFrameSend n) s (fun t => (t.nstream n.val).queue = [] ∧ only t))
    ∧ (∀ rn b rest, q.queue = (rn, b) :: rest → s.canSend n.val = true →
      (s.netCfg n.val 2 = 0 → limit = 0 → Answers (.streamPacketSend n) s (fun t => (t.nstream n.val).queue = rest
          ∧ (t.nstream n.val).records = q.records + 1 ∧ (t.nstream n.val).fragments = 0 ∧ only t))
      ∧ (s.netCfg n.val 2 = 0 → b.length ≤ (q.fragments + 1) * max 64 (s.fragmentBytes n.val) →
          Answers (.streamPacketSend n) s (fun t => (t.nstream n.val).queue = rest ∧ (t.nstream n.val).records = q.records + 1
            ∧ (t.nstream n.val).packets = q.packets + 1 ∧ (t.nstream n.val).seq = (q.seq + 1) % 2 ^ 32
            ∧ (t.nstream n.val).fragments = 0 ∧ only t))
      ∧ (s.netCfg n.val 2 = 2 → field b 0 1 = 1 → Answers (.vitaDataPacket n) s (fun t => (t.nstream n.val).queue = rest
          ∧ rn ∈ (t.nstream n.val).gapIn ∧ (t.nstream n.val).packets = q.packets ∧ t.out = s.out ∧ only t))
      ∧ (s.netCfg n.val 2 = 2 → field b 0 1 ≠ 1 →
        let due := q.lastSeen ≠ some (field b 16 4, field b 0 1, (VitaRec.of b).geom) ∨ s.netCfg n.val 0x15 ≤ q.sinceCtx
        limit = 0 ∨ ¬ due → Answers (.vitaDataPacket n) s (fun t => (t.nstream n.val).queue = rest
          ∧ (t.nstream n.val).vcount = q.vcount + 1 ∧ (t.nstream n.val).records = q.records + 1 ∧ rn ∉ (t.nstream n.val).gapIn
          ∧ (due → (t.nstream n.val).ccount = q.ccount + 1 ∧ (t.nstream n.val).packets = q.packets + 2
              ∧ (t.nstream n.val).sinceCtx = 1)
          ∧ (¬ due → (t.nstream n.val).ccount = q.ccount ∧ (t.nstream n.val).packets = q.packets + 1
              ∧ (t.nstream n.val).sinceCtx = q.sinceCtx + 1) ∧ only t)))

/-! ### Health, quench, faults and the groups shown on a period (chapter 16) -/

/-- Window monitors and housekeeping converters: the majority of the last samples changes a state, which is counted and latched until
cleared; a group starts its idle converters; a result goes into the converter's buffer (R594-R599, R601-R608). Model readings and choices: log entry 44. -/
def Obligations.MonitorsAndConverters : Prop :=
  ∀ (s : State) (r : Requester) (m : Fin 16) (v : Int) (mask : Byte) (g : Fin 4) (k : Fin 12), Live s →
    let ix := 0x2E00 + m.val
    let w := s.wm m.val
    let hi := s.hcfgInt ix 3
    let lo := s.hcfgInt ix 4
    let x := classify w.st v hi lo (s.hcfg ix 5)
    let others (t : State) := ∀ j, j ≠ m.val → t.wm j = s.wm j
    let q := s.hk k.val
    let a := s.hcfg (0x2E40 + k.val) 6 + (16 * q.written) % max 16 (s.hcfg (0x2E40 + k.val) 7)
    (w.st = 0 → (hi < v → x = 1) ∧ (lo ≤ v → v ≤ hi → x = 0) ∧ (v ≤ hi → v < lo → x = 2))
    ∧ (w.st = 1 → (v < lo → x = 2) ∧ (lo ≤ v → v < hi - s.hcfg ix 5 → x = 0) ∧ (lo ≤ v → hi - s.hcfg ix 5 ≤ v → x = 1))
    ∧ (s.hcfg ix 6 = 1 → majority w.st 1 (pushSample w.hist x) = if x = w.st then none else some x)
    ∧ (s.ctl.crystal = false ∨ s.hcfg ix 1 = 0 → Answers (.monitorStateChange m v) s (fun t => t = s))
    ∧ (s.ctl.crystal = true → s.hcfg ix 1 ≠ 0 → majority w.st (s.hcfg ix 6) (pushSample w.hist x) = none →
        Answers (.monitorStateChange m v) s (fun t => t.wm m.val = { w with hist := pushSample w.hist x } ∧ others t
          ∧ t = { s with hea := { s.hea with wms := t.hea.wms } }))
    ∧ (∀ y, s.ctl.crystal = true → s.hcfg ix 1 ≠ 0 → majority w.st (s.hcfg ix 6) (pushSample w.hist x) = some y →
        s.dieRuns 0 = false → s.dieRuns 1 = false →
        (∀ j, j < 16 → (s.hcfg (0x2E00 + j) 7).testBit 2 = false) → Answers (.monitorStateChange m v) s (fun t =>
          (t.wm m.val).st = y ∧ (t.wm m.val).changes = (w.changes + 1) % 2 ^ 32 ∧ (t.wm m.val).hist = List.replicate 7 y
          ∧ (t.wm m.val).latch = (if w.latch = 0 ∧ w.st = 0 then y else w.latch) ∧ others t
          ∧ ((s.hcfg ix 7).testBit 0 = true → Journalled t (s.hcfg ix 0x0A) 20 5)
          ∧ t.hea.level = s.hea.level ∧ t.mem = s.mem ∧ t.chans = s.chans))
    ∧ (MayWrite s r → Answers (.monitorLatchClear r m) s (fun t => t.wm m.val = { w with latch := 0 } ∧ others t
        ∧ t.num (0x2E10 + m.val) 3 = 0 ∧ t = { s with od := t.od, hea := { s.hea with wms := t.hea.wms } }
        ∧ KeepsBut [keyOf (0x2E10 + m.val) 1, keyOf (0x2E10 + m.val) 3] s t))
    ∧ (MayWrite s r → Answers (.alertAcknowledge r) s (fun t => t.num 0x1001 0 = 0
        ∧ t = { s with od := t.od, flt := { s.flt with acked := s.flt.written } } ∧ KeepsBut [0x100100] s t))
    ∧ (MayWrite s r → Answers (.hkGroupStart r mask) s (fun t => t.mem = s.mem ∧ t.hea.wms = s.hea.wms
        ∧ (s.hcfg (0x2E40 + k.val) 4 = g.val → mask.getLsbD g.val = false → t.hk k.val = q)
        ∧ (s.hcfg (0x2E40 + k.val) 4 = g.val → mask.getLsbD g.val = true →
            (s.hcfg (0x2E40 + k.val) 1 ≠ 2 → s.hcfg (0x2E40 + k.val) 1 ≠ 3 → t.hk k.val = q)
            ∧ (s.hcfg (0x2E40 + k.val) 1 = 2 ∨ s.hcfg (0x2E40 + k.val) 1 = 3 →
              (q.running = true ∨ q.waiting = true → t.hk k.val = { q with missed := (q.missed + 1) % 2 ^ 32 })
              ∧ (q.running = false → q.waiting = false → s.lowPower = false → s.hea.refState = 2 → (t.hk k.val).running = true
                  ∧ (t.hk k.val).left = (if s.hcfg (0x2E40 + k.val) 1 = 2 then 1 else s.hcfg (0x2E40 + k.val) 5))
              ∧ (q.running = false → q.waiting = false → s.lowPower = true ∨ s.hea.refState ≠ 2 → (t.hk k.val).running = false
                  ∧ (t.hk k.val).waiting = true)))))
    ∧ (s.hea.refState ≠ 1 ∨ s.lowPower = true ∨ s.ctl.crystalCount < s.hea.refAt + 320000 →
        Answers .hkReferenceSettled s (fun t => t = s))
    ∧ (s.hea.refState = 1 → s.lowPower = false → s.hea.refAt + 320000 ≤ s.ctl.crystalCount →
        Answers .hkReferenceSettled s (fun t => t.hea.refState = 2 ∧ t.num 0x2E30 3 = 2
        ∧ (t.hk k.val).waiting = false ∧ (q.waiting = true → (t.hk k.val).running = true)
        ∧ (s.hcfg (0x2E40 + k.val) 1 = 1 → (t.hk k.val).running = true ∧ (t.hk k.val).due = s.firstResult k.val)
        ∧ t = { s with od := t.od, hea := { s.hea with hks := t.hea.hks, refState := 2, refAt := s.ctl.crystalCount } }
        ∧ KeepsBut [0x2E3003] s t))
    ∧ (s.lowPower = false ∨ (∀ j, j < 12 → s.hcfg (0x2E40 + j) 4 = g.val → (s.hk j).waiting = false ∨ s.ctl.crystalCount < (s.hk j).due) →
        Answers (.hkLowpowerWake g) s (fun t => t = s))
    ∧ (s.lowPower = true → s.hcfg (0x2E40 + k.val) 4 = g.val → q.waiting = true → q.due ≤ s.ctl.crystalCount →
        Answers (.hkLowpowerWake g) s (fun t => (t.hk k.val).running = true ∧ (t.hk k.val).waiting = false ∧ t.hea.refState = 2
        ∧ (t.hk k.val).due = s.firstResult k.val
        ∧ t = { s with od := t.od, hea := { s.hea with hks := t.hea.hks, refState := 2, refAt := s.ctl.crystalCount } }
        ∧ KeepsBut [0x2E3003] s t))
    ∧ (q.running = false ∨ s.ctl.crystalCount < q.due → Answers (.hkResult k v) s (fun t => t = s))
    ∧ (q.running = true → q.due ≤ s.ctl.crystalCount → Answers (.hkResult k v) s (fun t =>
        t.hk k.val = { q with written := q.written + 1, first := false, left := q.left - 1, due := q.due + s.hkPeriod k.val
                              running := q.mode == 1 || decide (1 < q.left) }
        ∧ field (t.load a 16) 0 12 = s.now.toNat ∧ (∀ i, i < a ∨ a + 16 ≤ i → t.byteAt i = s.byteAt i)
        ∧ (sourceRange (s.hcfg (0x2E40 + k.val) 2)).1 * 1024 ≤ t.int (0x2E50 + k.val) 2
        ∧ t.int (0x2E50 + k.val) 2 ≤ (sourceRange (s.hcfg (0x2E40 + k.val) 2)).2 * 1024))

/-- The quench level: it rises at once to the highest demand or floor, and leaves one level, or one step of Q5 or Q6, at a time
once its exit conditions have held (R612-R616); a sentinel window has 64 rates (R9). Model readings and choices: log entry 45.
-/
def Obligations.QuenchLevels : Prop :=
  ∀ (s : State) (die : Fin 2) (mv : Nat) (rates : List Nat), Live s →
    let k := s.hea.level
    let u : State := { s with hea := { s.hea with vdd := Tab.set (fun _ => none) s.hea.vdd die.val (some mv) } }
    Answers (.supplyComparatorCrossing die mv) s (fun t =>
      t.hea.level = max k (max (max (u.dieDemand 0) (u.dieDemand 1)) u.highestFloor) ∧ t.hea.vdd = u.hea.vdd ∧ t.hea.wms = s.hea.wms)
    ∧ (s.dieRuns die.val = false → s.dieDemand die.val = 0)
    ∧ (s.dieRuns die.val = true → mv < 625 → u.dieDemand die.val = 6)
    ∧ (rates.length ≠ 64 → exec (.sentinelWindowEnd rates) s = .fault .malformedOperands)
    ∧ (rates.length = 64 → s.dieRuns 0 = false → s.dieRuns 1 = false → (∀ j, j < 16 → (s.hcfg (0x2E00 + j) 7).testBit 2 = false) →
        Answers (.sentinelWindowEnd rates) s (fun t => t.hea.level = k ∧ t.mem = s.mem ∧ t.hea.wms = s.hea.wms
          ∧ ∀ i, i < 64 → t.num 0x2E61 (i + 1) = rates.getD i 0 % 2 ^ 32))
    ∧ (s.settled = false ∨ s.mayLeave = false → Answers .quenchSettleExpiry s (fun t => t = s))
    ∧ (s.settled = true → s.mayLeave = true →
      (k ≤ 4 → Answers .quenchSettleExpiry s (fun t => t.hea.level + 1 = k ∧ t.hea.lastExit = some s.ctl.crystalCount
          ∧ t.hea.shedCaps = s.hea.shedCaps))
      ∧ (∀ c rest, k = 5 → s.hea.shedCaps = c :: rest → Answers .quenchSettleExpiry s (fun t => t.hea.shedCaps = rest
          ∧ t.hea.level = (if rest = [] then 4 else 5)))
      ∧ (∀ c rest, k = 6 → s.hea.shedChans = c :: rest → Answers .quenchSettleExpiry s (fun t => t.hea.shedChans = rest
          ∧ t.hea.level = (if rest = [] then 5 else 6) ∧ t.hea.shedCaps = s.hea.shedCaps)))
    ∧ (s.stepDue = false ∨ s.mustStep = false ∨ (k ≠ 5 ∧ k ≠ 6) → Answers .quenchStepInterval s (fun t => t = s))
    ∧ (s.stepDue = true → s.mustStep = true → k = 6 → Answers .quenchStepInterval s (fun t => t.hea.level = 6
        ∧ t.hea.lastStep = some s.ctl.crystalCount ∧ t.hea.shedCaps = s.hea.shedCaps
        ∧ (s.hea.shedChans = t.hea.shedChans ∨ ∃ c, t.hea.shedChans = c :: s.hea.shedChans ∧ c ∉ s.hea.shedChans)))
    ∧ (s.stepDue = true → s.mustStep = true → k = 5 →
        (∀ c, s.nextCapture = some c → Answers .quenchStepInterval s (fun t =>
          t.hea.shedCaps = c :: s.hea.shedCaps ∧ t.hea.level = 5 ∧ t.hea.shedChans = s.hea.shedChans))
        ∧ (s.nextCapture = none → Answers .quenchStepInterval s (fun t => t = s)))

/-- Fault events of an engine, a drive and others: each counts for its class; an element that the part has not has no event; of
several conditions of a controlled reset the one with the lowest cause is kept (R619, R621, R631, R638). Model readings and
choices: log entries 46 and 47. -/
def Obligations.FaultsAndResetConditions : Prop :=
  ∀ (s : State) (e : U64) (cond : ResetCondition), Live s →
    (64 ≤ elementLow e → Answers (.faultEvent .engine e) s (fun t => t = s))
    ∧ (elementLow e < 64 → Tab.get (fun _ => false) s.dma.retired (elementLow e) = false → Answers (.faultEvent .engine e) s (fun t =>
        t.dma.faultEvents = s.dma.faultEvents + 1 ∧ t.num 0x3017 3 = (s.num 0x3017 3 + 1) % 2 ^ 32 ∧ t.mem = s.mem ∧ t.sto = s.sto
        ∧ (∀ m, (t.runner m).w = (s.runner m).w ∧ (t.runner m).xfer = (s.runner m).xfer)))
    ∧ (8 ≤ elementHigh e → Answers (.faultEvent .drive e) s (fun t => t = s))
    ∧ (elementHigh e < 8 → (s.drive (elementHigh e)).st = 2 ∨ (s.drive (elementHigh e)).st = 3 → Answers (.faultEvent .drive e) s (fun t =>
        (t.drive (elementHigh e)).faults = (s.drive (elementHigh e)).faults + 1 ∧ t.num 0x3019 3 = (s.num 0x3019 3 + 1) % 2 ^ 32
        ∧ (∀ d, d ≠ elementHigh e → t.drive d = s.drive d) ∧ t.mem = s.mem))
    ∧ (4 ≤ elementHigh e → ∀ x ∈ [FaultClass.slice, .comparator, .tone, .lane], Answers (.faultEvent x e) s (fun t => t = s))
    ∧ (hbmBytes ≤ e.toNat → Answers (.faultEvent .hbmRow e) s (fun t => t = s))
    ∧ (s.ctl.crystal = false → Answers (.controlledResetCondition cond) s (fun t => t = s))
    ∧ (s.ctl.crystal = true → Answers (.controlledResetCondition cond) s (fun t =>
        (s.flt.resetCond = none → t.flt.resetCond = some cond)
        ∧ (∀ x, s.flt.resetCond = some x → t.flt.resetCond =
            (if ResetCondition.cause x ≤ ResetCondition.cause cond then some x else some cond))
        ∧ t = { s with flt := { s.flt with resetCond := t.flt.resetCond } }))

/-- A group shown on a period takes its contents and counts one update, in one step (R64, R436, R534, R561, R592). Model
readings and choices: log entries 7 and 12. -/
def Obligations.PeriodicGroups : Prop :=
  ∀ (s : State) (g : PeriodicGroup) (k : Fin 16) (d : Fin 8) (n : Fin 32), Live s →
    Answers (.periodicSnapshotUpdate g) s (fun t =>
      t.num (PeriodicGroup.index g) 1 = (s.num (PeriodicGroup.index g) 1 + 1) % 2 ^ 32
      ∧ t = { s with od := t.od, ctl := { s.ctl with drawn := t.ctl.drawn } }
      ∧ (∀ j, j / 256 ≠ PeriodicGroup.index g → Tab.get dictDefault t.od j = Tab.get dictDefault s.od j))
    ∧ Answers (.periodicSnapshotUpdate (.ladleStatus k)) s (fun t => ∀ i, i < 16 →
        t.num (0x2908 + 16 * k.val) (2 + i) = (s.ladle (16 * k.val + i)).run.code)
    ∧ Answers (.periodicSnapshotUpdate (.drive d)) s (fun t => t.num (0x2C08 + d.val) 2 = (s.drive d.val).st % 2 ^ 8
        ∧ t.num (0x2C08 + d.val) 3 = (s.drive d.val).link % 2 ^ 8 ∧ t.num (0x2C08 + d.val) 9 = (s.drive d.val).faults % 2 ^ 32)
    ∧ Answers (.periodicSnapshotUpdate (.replay d)) s (fun t => t.num (0x2C68 + d.val) 2 = (s.replay d.val).st % 2 ^ 8
        ∧ t.num (0x2C68 + d.val) 3 = (s.replay d.val).delivered % 2 ^ 64)
    ∧ Answers (.periodicSnapshotUpdate (.netStream n)) s (fun t => t.num (0x2D30 + n.val) 3 = (s.nstream n.val).packets % 2 ^ 64)
    ∧ Answers (.periodicSnapshotUpdate .hostPort) s (fun t => t.num 0x2D80 2 = s.net.hostLink % 2 ^ 8
        ∧ t.num 0x2D80 4 = s.net.flrs % 2 ^ 32)

/-! ### Words, reset and what every step keeps -/

/-- Every word stands for at most one ladle instruction and every legal instruction for one word, no bit of which is dropped
(R440-R442). -/
def Obligations.LadleWordsRoundTrip : Prop :=
  (∀ (i : Instr) (w : Nat), ladleWord i = some w → Spelled i → w < 2 ^ 32 ∧ ∃ l, ladleInstr l w = some i)
  ∧ (∀ (l : LadleIx) (w : Nat) (i : Instr), w < 2 ^ 32 → ladleInstr l w = some i → ladleWord i = some w ∧ Spelled i)

/-- Words of each format written out from the encodings, and words with a reserved field that is not zero (R440-R442). -/
def Obligations.LadleWordsWrittenOut : Prop :=
  ∀ l : LadleIx,
    ladleInstr l 0x0448C000 = some (.add l 1 2 3)
    ∧ ladleInstr l 0x6143FFFF = some (.movi l 5 0x3FFFF)
    ∧ ladleInstr l 0x80238000 = some (.mac l false 1 1 true true false false)
    ∧ ladleInstr l 0xA09C8004 = some (.ld l { r := 2, a := 3, size := 2, x := false, p := true, m := 4 } .clean)
    ∧ ladleInstr l 0xC4001FFF = some (.call l 0x1FFF)
    ∧ ladleInstr l 0xD0043000 = some (.loop l 33 4096)
    ∧ ladleInstr l 0xFC000007 = some (.trap l 7)
    ∧ ladleInstr l 0x0448C001 = none ∧ ladleInstr l 0x38000000 = none ∧ ladleInstr l 0xE8000012 = none

/-- The machine right after reset: INIT with no owner, no pour, T96 at zero and INVALID, no runner, quench level Q0, every entry
at its default, memory with nothing listed (R639); it is held in reset, in which no command has an effect, until the release
(R636). Model readings and choices: log entries 3 and 4 and 5. -/
def Obligations.ResetState : Prop :=
  State.reset.ctl.dev = .init ∧ State.reset.ctl.owner = none ∧ State.reset.ctl.currentPour = 0 ∧ State.reset.ctl.pours = []
  ∧ State.reset.now = 0 ∧ State.reset.timeState = 0 ∧ (∀ n, (State.reset.runner n).kind = 0) ∧ State.reset.hea.level = 0
  ∧ (∀ k, Tab.get dictDefault State.reset.od k = dictDefault k) ∧ (∀ a, State.reset.byteAt a = 0) ∧ Memory.wf State.reset
  ∧ WithinDepths State.reset ∧ State.reset.pending = [] ∧ ¬ Live State.reset
  ∧ (∀ s : State, s.ctl.held = true → ∀ c ∈ [Instr.pourBecomesCurrent, .commitExecute .host, .trimWrite .ecat 0, .emergencyRead,
      .functionLevelReset, .sm2WatchdogExpiry], exec c s = .next s)

/-- No command issues a command: the queue's rest is what a step leaves waiting. Model readings and choices: log entry 1. -/
def Obligations.StepTakesOneCommand : Prop :=
  ∀ s t : State, step s = .next t → t.pending = s.pending.tail

/-- Every step keeps the canonical form of memory: addresses strictly rising, no byte listed that an unlisted address reads as.
Model readings and choices: log entries 5 and 30. -/
def Obligations.StepKeepsMemoryCanonical : Prop :=
  ∀ s t : State, Memory.wf s → step s = .next t → Memory.wf t

/-- Every step keeps the emergency queues and the journal within their depths (R87, R90, R624). -/
def Obligations.StepKeepsDepths : Prop :=
  ∀ s t : State, WithinDepths s → step s = .next t → WithinDepths t

/-- Every fault element has its own counter: an event with no window open, or at the window's end or later, opens one with count
1, an event inside adds one, and the event that brings the count to N declares the element lasting and clears the counter; with
N = 1 every event is lasting; the fault clock, in sixteenths of a crystal period, runs with the crystal and not with T96 (R620).
-/
def Obligations.FaultCounting : Prop :=
  ∀ (s : State) (cls : FaultClass) (n : Nat),
    let k := faultKey cls n
    let w (t : State) := Tab.get (fun _ => FaultWin.closed) t.flt.windows k
    let inside := (w s).count ≠ 0 ∧ s.ctl.crystalCount < (w s).start + (w s).w
    let limit := if (w s).count ≠ 0 ∧ s.ctl.crystalCount < (w s).start + (w s).w then (w s).n else s.num (0x3010 + cls.code) 1
    let c := s.countFault cls n
    (inside → c.2.1 = (w s).count + 1) ∧ (¬ inside → c.2.1 = 1) ∧ (c.2.2 = true ↔ limit ≤ c.2.1)
    ∧ (c.2.2 = false → (w c.1).count = c.2.1 ∧ (w c.1).n = limit
        ∧ (inside → (w c.1).start = (w s).start ∧ (w c.1).w = (w s).w)
        ∧ (¬ inside → (w c.1).start = s.ctl.crystalCount ∧ (w c.1).w = faultTicks (s.num (0x3010 + cls.code) 2)))
    ∧ (c.2.2 = true → (w c.1).count = 0 ∧ c.1.isLasting cls n = true)
    ∧ (s.num (0x3010 + cls.code) 1 = 1 → ¬ inside → c.2.2 = true)
    ∧ (∀ j, j ≠ k → Tab.get (fun _ => FaultWin.closed) c.1.flt.windows j = Tab.get (fun _ => FaultWin.closed) s.flt.windows j)
    ∧ c.1.num (0x3010 + cls.code) 3 = (s.num (0x3010 + cls.code) 3 + 1) % 2 ^ 32
    ∧ c.1 = { s with od := c.1.od, flt := { s.flt with windows := c.1.flt.windows, lasting := c.1.flt.lasting } }
    ∧ KeepsBut [keyOf (0x3010 + cls.code) 3, keyOf (0x3010 + cls.code) 4] s c.1
    ∧ (Live s → (tick s).ctl.crystalCount = s.ctl.crystalCount + 5)
    ∧ (∀ (r : Requester) (v : T96), Live s → MayWrite s r →
        Answers (.setTimeWrite r v) s (fun t => t.ctl.crystalCount = s.ctl.crystalCount))

/-- A real-time producer that finds its runner full drops the record, counts it, and goes on: nothing is stored and W stands
(R18). -/
def Obligations.FullRunnerDropsTheRecord : Prop :=
  ∀ (s : State) (n : RunnerIx) (rec : Record) (e : T96), Live s → (s.runner n.toNat).kind = 1 → (s.runner n.toNat).full = true →
    Answers (.recordWrite n rec e) s (fun t =>
      (t.runner n.toNat).drops = (s.runner n.toNat).drops + 1 ∧ (t.runner n.toNat).w = (s.runner n.toNat).w ∧ t.mem = s.mem
      ∧ (∀ j, j ≠ n.toNat → t.runner j = s.runner j)
      ∧ t = { s with od := t.od, dma := { s.dma with runners := t.dma.runners } } ∧ KeepsBut [0x2B0401] s t)

/-- Records and gap records of a runner carry one contiguous series of sequence numbers: a record written takes one number for
each slot and one for each drop, and after drops the gap record takes the number that follows the last dropped one (R20). -/
def Obligations.RunnerSequenceNumbers : Prop :=
  ∀ (s : State) (n : RunnerIx) (rec : Record) (e : T96), Live s → (s.runner n.toNat).kind = 1 →
    let q := s.runner n.toNat
    Answers (.recordWrite n rec e) s (fun t =>
      (t.runner n.toNat).nextSeq - q.nextSeq = ((t.runner n.toNat).w - q.w).setWidth 64 + ((t.runner n.toNat).drops - q.drops)
      ∧ (∀ d, q.dropped = some d → q.stopGap = none → (q.w - q.rd).toNat + 1 < q.slots → 6 ≤ q.z → 64 + rec.payload.length ≤ q.slotBytes →
          field (t.load (q.slotAddr q.w) 64) 0 1 = 1 ∧ field (t.load (q.slotAddr q.w) 64) 8 8 = q.nextSeq.toNat
          ∧ field (t.load (q.slotAddr (q.w + 1)) 64) 8 8 = (q.nextSeq + 1).toNat
          ∧ (t.runner n.toNat).nextSeq = q.nextSeq + 2 ∧ (t.runner n.toNat).dropped = none))

/-- The test port reaches nothing of the part: no instruction of it changes the state (R96). -/
def Obligations.JtagReachesNothing : Prop :=
  ∀ (s : State) (ir : JtagInstr), Answers (.jtagBoundaryScan ir) s (fun t => t = { s with
    out := t.out, ctl := { s.ctl with drawn := t.ctl.drawn } })
end

