-- ==== Sys2Proof/Laws/Tab.lean ====
section
/-! SUPPORT. The laws of the finite maps: what a read after an update gives, and that updates keep the canonical form. -/

namespace Sys2Proof.Tab

variable {α : Type}

@[simp] theorem get_nil (d : Nat → α) (k : Nat) : get d [] k = d k := rfl

@[simp] theorem get_erase_same (d : Nat → α) (t : Tab α) (k : Nat) : get d (erase t k) k = d k := by
  induction t with
  | nil => rfl
  | cons p t ih =>
    obtain ⟨j, v⟩ := p
    by_cases h : k = j
    · simp [erase, h]; subst h; exact ih
    · simp [erase, get, h, ih]

theorem get_erase_other (d : Nat → α) (t : Tab α) {k j : Nat} (h : j ≠ k) : get d (erase t k) j = get d t j := by
  induction t with
  | nil => rfl
  | cons p t ih =>
    obtain ⟨i, v⟩ := p
    by_cases hk : k = i
    · subst hk; simp [erase, get, h, ih]
    · by_cases hj : j = i <;> simp [erase, get, hk, hj, ih]

@[simp] theorem get_put_same (d : Nat → α) (t : Tab α) (k : Nat) (v : α) : get d (put t k v) k = v := by
  induction t with
  | nil => simp [put, get]
  | cons p t ih =>
    obtain ⟨i, w⟩ := p
    by_cases h : k = i
    · simp [put, get, h]
    · by_cases h' : k < i <;> simp [put, get, h, h', ih]

theorem get_put_other (d : Nat → α) (t : Tab α) {k j : Nat} (v : α) (h : j ≠ k) : get d (put t k v) j = get d t j := by
  induction t with
  | nil => simp [put, get, h]
  | cons p t ih =>
    obtain ⟨i, w⟩ := p
    by_cases hk : k = i
    · subst hk; simp [put, get, h]
    · by_cases h' : k < i
      · simp [put, get, hk, h', h]
      · by_cases hj : j = i <;> simp [put, get, hk, h', hj, ih]

/-! ### Sorted lists -/

theorem sorted_none_of_some {lo : Nat} {t : Tab α} (h : sorted (some lo) t = true) : sorted none t = true := by
  cases t with
  | nil => rfl
  | cons p t => obtain ⟨j, v⟩ := p; simp [sorted] at h ⊢; exact h.2

theorem sorted_weaken {lo lo' : Nat} {t : Tab α} (hl : lo' ≤ lo) (h : sorted (some lo) t = true) :
    sorted (some lo') t = true := by
  cases t with
  | nil => rfl
  | cons p t => obtain ⟨j, v⟩ := p; simp [sorted] at h ⊢; exact ⟨by omega, h.2⟩

theorem sorted_erase {lo : Nat} {t : Tab α} (k : Nat) (h : sorted (some lo) t = true) :
    sorted (some lo) (erase t k) = true := by
  induction t generalizing lo with
  | nil => rfl
  | cons p t ih =>
    obtain ⟨j, v⟩ := p
    simp [sorted] at h
    by_cases hk : k = j
    · simp [erase, hk]; exact hk ▸ ih (sorted_weaken (by omega) h.2)
    · simp [erase, hk, sorted]; exact ⟨h.1, ih h.2⟩

theorem sorted_put {lo : Nat} {t : Tab α} (k : Nat) (v : α) (hk : lo < k) (h : sorted (some lo) t = true) :
    sorted (some lo) (put t k v) = true := by
  induction t generalizing lo with
  | nil => simp [put, sorted, hk]
  | cons p t ih =>
    obtain ⟨j, w⟩ := p
    simp [sorted] at h
    by_cases hj : k = j
    · simp [put, hj, sorted, h]
    · by_cases hl : k < j
      · simp [put, hj, hl, sorted, hk]; exact h.2
      · simp [put, hj, hl, sorted, h.1]; exact ih (by omega) h.2

theorem mem_erase {t : Tab α} {k : Nat} {p : Nat × α} (h : p ∈ erase t k) : p ∈ t := by
  induction t with
  | nil => simp [erase] at h
  | cons q t ih =>
    obtain ⟨j, v⟩ := q
    by_cases hk : k = j
    · simp [erase, hk] at h; exact List.mem_cons_of_mem _ (ih (hk ▸ h))
    · simp [erase, hk] at h
      rcases h with h | h
      · simp [h]
      · exact List.mem_cons_of_mem _ (ih h)

theorem mem_put {t : Tab α} {k : Nat} {v : α} {p : Nat × α} (h : p ∈ put t k v) : p = (k, v) ∨ p ∈ t := by
  induction t with
  | nil => simpa [put] using h
  | cons q t ih =>
    obtain ⟨j, w⟩ := q
    by_cases hk : k = j
    · subst hk; simp [put] at h; rcases h with h | h <;> simp [h]
    · by_cases hl : k < j
      · simp [put, hk, hl] at h; rcases h with h | h | h <;> simp [h]
      · simp [put, hk, hl] at h
        rcases h with h | h
        · simp [h]
        · rcases ih h with h | h <;> simp [h]

variable [DecidableEq α]

/-- A read after a write of the same key gives the value written. -/
@[simp] theorem get_set_same (d : Nat → α) (t : Tab α) (k : Nat) (v : α) : get d (set d t k v) k = v := by
  unfold set; split
  · rename_i h; simp [h]
  · simp

/-- A write leaves every other key alone. -/
theorem get_set_other (d : Nat → α) (t : Tab α) {k j : Nat} (v : α) (h : j ≠ k) : get d (set d t k v) j = get d t j := by
  unfold set; split
  · exact get_erase_other d t h
  · exact get_put_other d t v h

@[simp] theorem get_modify_same (d : Nat → α) (t : Tab α) (k : Nat) (f : α → α) :
    get d (modify d t k f) k = f (get d t k) := get_set_same _ _ _ _

theorem get_modify_other (d : Nat → α) (t : Tab α) {k j : Nat} (f : α → α) (h : j ≠ k) :
    get d (modify d t k f) j = get d t j := get_set_other _ _ _ h

theorem get_set (d : Nat → α) (t : Tab α) (k j : Nat) (v : α) :
    get d (set d t k v) j = if j = k then v else get d t j := by
  by_cases h : j = k
  · subst h; simp
  · simp [h, get_set_other d t v h]

/-! ### The canonical form -/

/-- A write keeps the canonical form. -/
theorem wf_set (d : Nat → α) {t : Tab α} (k : Nat) (v : α) (h : wf d t = true) : wf d (set d t k v) = true := by
  simp only [wf, Bool.and_eq_true, List.all_eq_true, decide_eq_true_eq] at h ⊢
  unfold set
  split
  · refine ⟨?_, fun p hp => h.2 p (mem_erase hp)⟩
    have hs := h.1
    cases t with
    | nil => rfl
    | cons q t =>
      obtain ⟨j, w⟩ := q
      simp [sorted] at hs
      by_cases hk : k = j
      · simp [erase, hk]; exact sorted_none_of_some (hk ▸ sorted_erase k (hk ▸ hs))
      · simp [erase, hk, sorted]; exact sorted_erase k hs
  · rename_i hv
    refine ⟨?_, fun p hp => ?_⟩
    · have hs := h.1
      cases t with
      | nil => rfl
      | cons q t =>
        obtain ⟨j, w⟩ := q
        simp [sorted] at hs
        by_cases hk : k = j
        · simp [put, hk, sorted, hs]
        · by_cases hl : k < j
          · simp [put, hk, hl, sorted, hs]
          · simp [put, hk, hl, sorted]; exact sorted_put k v (by omega) hs
    · rcases mem_put hp with rfl | hp
      · exact hv
      · exact h.2 p hp

end Sys2Proof.Tab
end

