-- ==== Sys2Proof/Laws/State.lean ====
section
/-! SUPPORT. What each shared operation leaves alone and what it changes: one lemma per operation for the parts of the state that
it does not touch, and the reads of what it does. -/

namespace Sys2Proof.Machine

variable (s : State)

/-! ### What the operations leave alone -/

@[simp] theorem State.putVal_frame (i : Nat) (b : Nat) (v : Val) :
    (s.putVal i b v).pending = s.pending ∧ (s.putVal i b v).live = s.live ∧ (s.putVal i b v).mem = s.mem ∧
    (s.putVal i b v).out = s.out ∧ (s.putVal i b v).ctl = s.ctl ∧ (s.putVal i b v).flt = s.flt ∧
    (s.putVal i b v).clk = s.clk ∧ (s.putVal i b v).dma = s.dma ∧ (s.putVal i b v).chans = s.chans ∧
    (s.putVal i b v).ddcs = s.ddcs ∧ (s.putVal i b v).xfs = s.xfs ∧ (s.putVal i b v).trigs = s.trigs ∧
    (s.putVal i b v).mons = s.mons ∧ (s.putVal i b v).dens = s.dens ∧ (s.putVal i b v).reds = s.reds ∧
    (s.putVal i b v).envs = s.envs ∧ (s.putVal i b v).caps = s.caps ∧ (s.putVal i b v).hbm = s.hbm ∧
    (s.putVal i b v).ladles = s.ladles ∧ (s.putVal i b v).clusters = s.clusters ∧ (s.putVal i b v).tapSeq = s.tapSeq ∧
    (s.putVal i b v).tiu = s.tiu ∧ (s.putVal i b v).sto = s.sto ∧ (s.putVal i b v).net = s.net ∧
    (s.putVal i b v).hea = s.hea :=
  ⟨rfl, rfl, rfl, rfl, rfl, rfl, rfl, rfl, rfl, rfl, rfl, rfl, rfl, rfl, rfl, rfl, rfl, rfl, rfl, rfl, rfl, rfl, rfl, rfl, rfl⟩

@[simp] theorem State.put_frame (i : Nat) (b : Nat) (n : Nat) :
    (s.put i b n).pending = s.pending ∧ (s.put i b n).live = s.live ∧ (s.put i b n).mem = s.mem ∧
    (s.put i b n).out = s.out ∧ (s.put i b n).ctl = s.ctl ∧ (s.put i b n).flt = s.flt ∧
    (s.put i b n).clk = s.clk ∧ (s.put i b n).dma = s.dma ∧ (s.put i b n).chans = s.chans ∧
    (s.put i b n).ddcs = s.ddcs ∧ (s.put i b n).xfs = s.xfs ∧ (s.put i b n).trigs = s.trigs ∧
    (s.put i b n).mons = s.mons ∧ (s.put i b n).dens = s.dens ∧ (s.put i b n).reds = s.reds ∧
    (s.put i b n).envs = s.envs ∧ (s.put i b n).caps = s.caps ∧ (s.put i b n).hbm = s.hbm ∧
    (s.put i b n).ladles = s.ladles ∧ (s.put i b n).clusters = s.clusters ∧ (s.put i b n).tapSeq = s.tapSeq ∧
    (s.put i b n).tiu = s.tiu ∧ (s.put i b n).sto = s.sto ∧ (s.put i b n).net = s.net ∧
    (s.put i b n).hea = s.hea :=
  ⟨rfl, rfl, rfl, rfl, rfl, rfl, rfl, rfl, rfl, rfl, rfl, rfl, rfl, rfl, rfl, rfl, rfl, rfl, rfl, rfl, rfl, rfl, rfl, rfl, rfl⟩

@[simp] theorem State.putInt_frame (i : Nat) (b : Nat) (n : Int) :
    (s.putInt i b n).pending = s.pending ∧ (s.putInt i b n).live = s.live ∧ (s.putInt i b n).mem = s.mem ∧
    (s.putInt i b n).out = s.out ∧ (s.putInt i b n).ctl = s.ctl ∧ (s.putInt i b n).flt = s.flt ∧
    (s.putInt i b n).clk = s.clk ∧ (s.putInt i b n).dma = s.dma ∧ (s.putInt i b n).chans = s.chans ∧
    (s.putInt i b n).ddcs = s.ddcs ∧ (s.putInt i b n).xfs = s.xfs ∧ (s.putInt i b n).trigs = s.trigs ∧
    (s.putInt i b n).mons = s.mons ∧ (s.putInt i b n).dens = s.dens ∧ (s.putInt i b n).reds = s.reds ∧
    (s.putInt i b n).envs = s.envs ∧ (s.putInt i b n).caps = s.caps ∧ (s.putInt i b n).hbm = s.hbm ∧
    (s.putInt i b n).ladles = s.ladles ∧ (s.putInt i b n).clusters = s.clusters ∧ (s.putInt i b n).tapSeq = s.tapSeq ∧
    (s.putInt i b n).tiu = s.tiu ∧ (s.putInt i b n).sto = s.sto ∧ (s.putInt i b n).net = s.net ∧
    (s.putInt i b n).hea = s.hea :=
  ⟨rfl, rfl, rfl, rfl, rfl, rfl, rfl, rfl, rfl, rfl, rfl, rfl, rfl, rfl, rfl, rfl, rfl, rfl, rfl, rfl, rfl, rfl, rfl, rfl, rfl⟩

@[simp] theorem State.bump_frame (i : Nat) (b : Nat) (n : Nat) :
    (s.bump i b n).pending = s.pending ∧ (s.bump i b n).live = s.live ∧ (s.bump i b n).mem = s.mem ∧
    (s.bump i b n).out = s.out ∧ (s.bump i b n).ctl = s.ctl ∧ (s.bump i b n).flt = s.flt ∧
    (s.bump i b n).clk = s.clk ∧ (s.bump i b n).dma = s.dma ∧ (s.bump i b n).chans = s.chans ∧
    (s.bump i b n).ddcs = s.ddcs ∧ (s.bump i b n).xfs = s.xfs ∧ (s.bump i b n).trigs = s.trigs ∧
    (s.bump i b n).mons = s.mons ∧ (s.bump i b n).dens = s.dens ∧ (s.bump i b n).reds = s.reds ∧
    (s.bump i b n).envs = s.envs ∧ (s.bump i b n).caps = s.caps ∧ (s.bump i b n).hbm = s.hbm ∧
    (s.bump i b n).ladles = s.ladles ∧ (s.bump i b n).clusters = s.clusters ∧ (s.bump i b n).tapSeq = s.tapSeq ∧
    (s.bump i b n).tiu = s.tiu ∧ (s.bump i b n).sto = s.sto ∧ (s.bump i b n).net = s.net ∧
    (s.bump i b n).hea = s.hea :=
  ⟨rfl, rfl, rfl, rfl, rfl, rfl, rfl, rfl, rfl, rfl, rfl, rfl, rfl, rfl, rfl, rfl, rfl, rfl, rfl, rfl, rfl, rfl, rfl, rfl, rfl⟩

@[simp] theorem State.emit_frame (o : Output) :
    (s.emit o).pending = s.pending ∧ (s.emit o).od = s.od ∧ (s.emit o).live = s.live ∧
    (s.emit o).mem = s.mem ∧ (s.emit o).ctl = s.ctl ∧ (s.emit o).flt = s.flt ∧
    (s.emit o).clk = s.clk ∧ (s.emit o).dma = s.dma ∧ (s.emit o).chans = s.chans ∧
    (s.emit o).ddcs = s.ddcs ∧ (s.emit o).xfs = s.xfs ∧ (s.emit o).trigs = s.trigs ∧
    (s.emit o).mons = s.mons ∧ (s.emit o).dens = s.dens ∧ (s.emit o).reds = s.reds ∧
    (s.emit o).envs = s.envs ∧ (s.emit o).caps = s.caps ∧ (s.emit o).hbm = s.hbm ∧
    (s.emit o).ladles = s.ladles ∧ (s.emit o).clusters = s.clusters ∧ (s.emit o).tapSeq = s.tapSeq ∧
    (s.emit o).tiu = s.tiu ∧ (s.emit o).sto = s.sto ∧ (s.emit o).net = s.net ∧
    (s.emit o).hea = s.hea :=
  ⟨rfl, rfl, rfl, rfl, rfl, rfl, rfl, rfl, rfl, rfl, rfl, rfl, rfl, rfl, rfl, rfl, rfl, rfl, rfl, rfl, rfl, rfl, rfl, rfl, rfl⟩

@[simp] theorem State.drew_frame  :
    s.drew.pending = s.pending ∧ s.drew.od = s.od ∧ s.drew.live = s.live ∧
    s.drew.mem = s.mem ∧ s.drew.out = s.out ∧ s.drew.flt = s.flt ∧
    s.drew.clk = s.clk ∧ s.drew.dma = s.dma ∧ s.drew.chans = s.chans ∧
    s.drew.ddcs = s.ddcs ∧ s.drew.xfs = s.xfs ∧ s.drew.trigs = s.trigs ∧
    s.drew.mons = s.mons ∧ s.drew.dens = s.dens ∧ s.drew.reds = s.reds ∧
    s.drew.envs = s.envs ∧ s.drew.caps = s.caps ∧ s.drew.hbm = s.hbm ∧
    s.drew.ladles = s.ladles ∧ s.drew.clusters = s.clusters ∧ s.drew.tapSeq = s.tapSeq ∧
    s.drew.tiu = s.tiu ∧ s.drew.sto = s.sto ∧ s.drew.net = s.net ∧
    s.drew.hea = s.hea :=
  ⟨rfl, rfl, rfl, rfl, rfl, rfl, rfl, rfl, rfl, rfl, rfl, rfl, rfl, rfl, rfl, rfl, rfl, rfl, rfl, rfl, rfl, rfl, rfl, rfl, rfl⟩

@[simp] theorem State.signal_frame (v : Nat) :
    (s.signal v).pending = s.pending ∧ (s.signal v).od = s.od ∧ (s.signal v).live = s.live ∧
    (s.signal v).mem = s.mem ∧ (s.signal v).ctl = s.ctl ∧ (s.signal v).flt = s.flt ∧
    (s.signal v).clk = s.clk ∧ (s.signal v).chans = s.chans ∧ (s.signal v).ddcs = s.ddcs ∧
    (s.signal v).xfs = s.xfs ∧ (s.signal v).trigs = s.trigs ∧ (s.signal v).mons = s.mons ∧
    (s.signal v).dens = s.dens ∧ (s.signal v).reds = s.reds ∧ (s.signal v).envs = s.envs ∧
    (s.signal v).caps = s.caps ∧ (s.signal v).hbm = s.hbm ∧ (s.signal v).ladles = s.ladles ∧
    (s.signal v).clusters = s.clusters ∧ (s.signal v).tapSeq = s.tapSeq ∧ (s.signal v).tiu = s.tiu ∧
    (s.signal v).sto = s.sto ∧ (s.signal v).net = s.net ∧ (s.signal v).hea = s.hea :=
  by
  unfold State.signal; split
  · simp
  · split <;> simp

@[simp] theorem State.store_frame (a : Nat) (bs : List Byte) :
    (s.store a bs).pending = s.pending ∧ (s.store a bs).od = s.od ∧ (s.store a bs).live = s.live ∧
    (s.store a bs).out = s.out ∧ (s.store a bs).ctl = s.ctl ∧ (s.store a bs).flt = s.flt ∧
    (s.store a bs).clk = s.clk ∧ (s.store a bs).dma = s.dma ∧ (s.store a bs).chans = s.chans ∧
    (s.store a bs).ddcs = s.ddcs ∧ (s.store a bs).xfs = s.xfs ∧ (s.store a bs).trigs = s.trigs ∧
    (s.store a bs).mons = s.mons ∧ (s.store a bs).dens = s.dens ∧ (s.store a bs).reds = s.reds ∧
    (s.store a bs).envs = s.envs ∧ (s.store a bs).caps = s.caps ∧ (s.store a bs).hbm = s.hbm ∧
    (s.store a bs).ladles = s.ladles ∧ (s.store a bs).clusters = s.clusters ∧ (s.store a bs).tapSeq = s.tapSeq ∧
    (s.store a bs).tiu = s.tiu ∧ (s.store a bs).sto = s.sto ∧ (s.store a bs).net = s.net ∧
    (s.store a bs).hea = s.hea :=
  ⟨rfl, rfl, rfl, rfl, rfl, rfl, rfl, rfl, rfl, rfl, rfl, rfl, rfl, rfl, rfl, rfl, rfl, rfl, rfl, rfl, rfl, rfl, rfl, rfl, rfl⟩

@[simp] theorem State.accessError_frame (r : Requester) (c : Nat) (k : Nat) :
    (s.accessError r c k).pending = s.pending ∧ (s.accessError r c k).live = s.live ∧ (s.accessError r c k).mem = s.mem ∧
    (s.accessError r c k).out = s.out ∧ (s.accessError r c k).ctl = s.ctl ∧ (s.accessError r c k).flt = s.flt ∧
    (s.accessError r c k).clk = s.clk ∧ (s.accessError r c k).dma = s.dma ∧ (s.accessError r c k).chans = s.chans ∧
    (s.accessError r c k).ddcs = s.ddcs ∧ (s.accessError r c k).xfs = s.xfs ∧ (s.accessError r c k).trigs = s.trigs ∧
    (s.accessError r c k).mons = s.mons ∧ (s.accessError r c k).dens = s.dens ∧ (s.accessError r c k).reds = s.reds ∧
    (s.accessError r c k).envs = s.envs ∧ (s.accessError r c k).caps = s.caps ∧ (s.accessError r c k).hbm = s.hbm ∧
    (s.accessError r c k).ladles = s.ladles ∧ (s.accessError r c k).clusters = s.clusters ∧ (s.accessError r c k).tapSeq = s.tapSeq ∧
    (s.accessError r c k).tiu = s.tiu ∧ (s.accessError r c k).sto = s.sto ∧ (s.accessError r c k).net = s.net ∧
    (s.accessError r c k).hea = s.hea :=
  ⟨rfl, rfl, rfl, rfl, rfl, rfl, rfl, rfl, rfl, rfl, rfl, rfl, rfl, rfl, rfl, rfl, rfl, rfl, rfl, rfl, rfl, rfl, rfl, rfl, rfl⟩

@[simp] theorem State.refuse_frame (r : Requester) (c : Nat) (k : Nat) :
    (s.refuse r c k).pending = s.pending ∧ (s.refuse r c k).live = s.live ∧ (s.refuse r c k).mem = s.mem ∧
    (s.refuse r c k).ctl = s.ctl ∧ (s.refuse r c k).flt = s.flt ∧ (s.refuse r c k).clk = s.clk ∧
    (s.refuse r c k).dma = s.dma ∧ (s.refuse r c k).chans = s.chans ∧ (s.refuse r c k).ddcs = s.ddcs ∧
    (s.refuse r c k).xfs = s.xfs ∧ (s.refuse r c k).trigs = s.trigs ∧ (s.refuse r c k).mons = s.mons ∧
    (s.refuse r c k).dens = s.dens ∧ (s.refuse r c k).reds = s.reds ∧ (s.refuse r c k).envs = s.envs ∧
    (s.refuse r c k).caps = s.caps ∧ (s.refuse r c k).hbm = s.hbm ∧ (s.refuse r c k).ladles = s.ladles ∧
    (s.refuse r c k).clusters = s.clusters ∧ (s.refuse r c k).tapSeq = s.tapSeq ∧ (s.refuse r c k).tiu = s.tiu ∧
    (s.refuse r c k).sto = s.sto ∧ (s.refuse r c k).net = s.net ∧ (s.refuse r c k).hea = s.hea :=
  by
  unfold State.refuse; cases r <;> simp

@[simp] theorem State.emergency_frame (c : Nat) (b : Nat) (e : Nat) :
    (s.emergency c b e).pending = s.pending ∧ (s.emergency c b e).live = s.live ∧ (s.emergency c b e).mem = s.mem ∧
    (s.emergency c b e).flt = s.flt ∧ (s.emergency c b e).clk = s.clk ∧ (s.emergency c b e).chans = s.chans ∧
    (s.emergency c b e).ddcs = s.ddcs ∧ (s.emergency c b e).xfs = s.xfs ∧ (s.emergency c b e).trigs = s.trigs ∧
    (s.emergency c b e).mons = s.mons ∧ (s.emergency c b e).dens = s.dens ∧ (s.emergency c b e).reds = s.reds ∧
    (s.emergency c b e).envs = s.envs ∧ (s.emergency c b e).caps = s.caps ∧ (s.emergency c b e).hbm = s.hbm ∧
    (s.emergency c b e).ladles = s.ladles ∧ (s.emergency c b e).clusters = s.clusters ∧ (s.emergency c b e).tapSeq = s.tapSeq ∧
    (s.emergency c b e).tiu = s.tiu ∧ (s.emergency c b e).sto = s.sto ∧ (s.emergency c b e).net = s.net ∧
    (s.emergency c b e).hea = s.hea :=
  by
  unfold State.emergency; dsimp only; split <;> split <;> (try split) <;> simp

@[simp] theorem State.journalEntry_frame (e : JEntry) (c : Nat) :
    (s.journalEntry e c).pending = s.pending ∧ (s.journalEntry e c).live = s.live ∧ (s.journalEntry e c).mem = s.mem ∧
    (s.journalEntry e c).clk = s.clk ∧ (s.journalEntry e c).chans = s.chans ∧ (s.journalEntry e c).ddcs = s.ddcs ∧
    (s.journalEntry e c).xfs = s.xfs ∧ (s.journalEntry e c).trigs = s.trigs ∧ (s.journalEntry e c).mons = s.mons ∧
    (s.journalEntry e c).dens = s.dens ∧ (s.journalEntry e c).reds = s.reds ∧ (s.journalEntry e c).envs = s.envs ∧
    (s.journalEntry e c).caps = s.caps ∧ (s.journalEntry e c).hbm = s.hbm ∧ (s.journalEntry e c).ladles = s.ladles ∧
    (s.journalEntry e c).clusters = s.clusters ∧ (s.journalEntry e c).tapSeq = s.tapSeq ∧ (s.journalEntry e c).tiu = s.tiu ∧
    (s.journalEntry e c).sto = s.sto ∧ (s.journalEntry e c).net = s.net ∧ (s.journalEntry e c).hea = s.hea :=
  by
  unfold State.journalEntry; dsimp only; split <;> simp

/-- A property that a function of a list keeps at each item. -/
theorem foldl_keeps {α β : Type} (f : State → β) (g : State → α → State) (h : ∀ t a, f (g t a) = f t) (l : List α) (t : State) :
    f (l.foldl g t) = f t := by
  induction l generalizing t with
  | nil => rfl
  | cons a l ih => simp [List.foldl, ih, h]

@[simp] theorem State.report_frame (r : Report) :
    (s.report r).pending = s.pending ∧ (s.report r).live = s.live ∧ (s.report r).mem = s.mem ∧
    (s.report r).clk = s.clk ∧ (s.report r).chans = s.chans ∧ (s.report r).ddcs = s.ddcs ∧
    (s.report r).xfs = s.xfs ∧ (s.report r).trigs = s.trigs ∧ (s.report r).mons = s.mons ∧
    (s.report r).dens = s.dens ∧ (s.report r).reds = s.reds ∧ (s.report r).envs = s.envs ∧
    (s.report r).caps = s.caps ∧ (s.report r).hbm = s.hbm ∧ (s.report r).ladles = s.ladles ∧
    (s.report r).clusters = s.clusters ∧ (s.report r).tapSeq = s.tapSeq ∧ (s.report r).tiu = s.tiu ∧
    (s.report r).sto = s.sto ∧ (s.report r).net = s.net ∧ (s.report r).hea = s.hea :=
  by
  unfold State.report; dsimp only
  refine ⟨?_, ?_, ?_, ?_, ?_, ?_, ?_, ?_, ?_, ?_, ?_, ?_, ?_, ?_, ?_, ?_, ?_, ?_, ?_, ?_, ?_⟩ <;>
    exact (foldl_keeps _ _ (fun t a => by simp) _ _)

@[simp] theorem State.modClk_frame (f : Clk → Clk) :
    (s.modClk f).pending = s.pending ∧ (s.modClk f).od = s.od ∧ (s.modClk f).live = s.live ∧
    (s.modClk f).mem = s.mem ∧ (s.modClk f).out = s.out ∧ (s.modClk f).ctl = s.ctl ∧
    (s.modClk f).flt = s.flt ∧ (s.modClk f).dma = s.dma ∧ (s.modClk f).chans = s.chans ∧
    (s.modClk f).ddcs = s.ddcs ∧ (s.modClk f).xfs = s.xfs ∧ (s.modClk f).trigs = s.trigs ∧
    (s.modClk f).mons = s.mons ∧ (s.modClk f).dens = s.dens ∧ (s.modClk f).reds = s.reds ∧
    (s.modClk f).envs = s.envs ∧ (s.modClk f).caps = s.caps ∧ (s.modClk f).hbm = s.hbm ∧
    (s.modClk f).ladles = s.ladles ∧ (s.modClk f).clusters = s.clusters ∧ (s.modClk f).tapSeq = s.tapSeq ∧
    (s.modClk f).tiu = s.tiu ∧ (s.modClk f).sto = s.sto ∧ (s.modClk f).net = s.net ∧
    (s.modClk f).hea = s.hea :=
  ⟨rfl, rfl, rfl, rfl, rfl, rfl, rfl, rfl, rfl, rfl, rfl, rfl, rfl, rfl, rfl, rfl, rfl, rfl, rfl, rfl, rfl, rfl, rfl, rfl, rfl⟩

@[simp] theorem State.modChan_frame (c : Nat) (f : Chan → Chan) :
    (s.modChan c f).pending = s.pending ∧ (s.modChan c f).od = s.od ∧ (s.modChan c f).live = s.live ∧
    (s.modChan c f).mem = s.mem ∧ (s.modChan c f).out = s.out ∧ (s.modChan c f).ctl = s.ctl ∧
    (s.modChan c f).flt = s.flt ∧ (s.modChan c f).clk = s.clk ∧ (s.modChan c f).dma = s.dma ∧
    (s.modChan c f).ddcs = s.ddcs ∧ (s.modChan c f).xfs = s.xfs ∧ (s.modChan c f).trigs = s.trigs ∧
    (s.modChan c f).mons = s.mons ∧ (s.modChan c f).dens = s.dens ∧ (s.modChan c f).reds = s.reds ∧
    (s.modChan c f).envs = s.envs ∧ (s.modChan c f).caps = s.caps ∧ (s.modChan c f).hbm = s.hbm ∧
    (s.modChan c f).ladles = s.ladles ∧ (s.modChan c f).clusters = s.clusters ∧ (s.modChan c f).tapSeq = s.tapSeq ∧
    (s.modChan c f).tiu = s.tiu ∧ (s.modChan c f).sto = s.sto ∧ (s.modChan c f).net = s.net ∧
    (s.modChan c f).hea = s.hea :=
  ⟨rfl, rfl, rfl, rfl, rfl, rfl, rfl, rfl, rfl, rfl, rfl, rfl, rfl, rfl, rfl, rfl, rfl, rfl, rfl, rfl, rfl, rfl, rfl, rfl, rfl⟩

@[simp] theorem State.modDdc_frame (c : Nat) (k : Nat) (f : Ddc → Ddc) :
    (s.modDdc c k f).pending = s.pending ∧ (s.modDdc c k f).od = s.od ∧ (s.modDdc c k f).live = s.live ∧
    (s.modDdc c k f).mem = s.mem ∧ (s.modDdc c k f).out = s.out ∧ (s.modDdc c k f).ctl = s.ctl ∧
    (s.modDdc c k f).flt = s.flt ∧ (s.modDdc c k f).clk = s.clk ∧ (s.modDdc c k f).dma = s.dma ∧
    (s.modDdc c k f).chans = s.chans ∧ (s.modDdc c k f).xfs = s.xfs ∧ (s.modDdc c k f).trigs = s.trigs ∧
    (s.modDdc c k f).mons = s.mons ∧ (s.modDdc c k f).dens = s.dens ∧ (s.modDdc c k f).reds = s.reds ∧
    (s.modDdc c k f).envs = s.envs ∧ (s.modDdc c k f).caps = s.caps ∧ (s.modDdc c k f).hbm = s.hbm ∧
    (s.modDdc c k f).ladles = s.ladles ∧ (s.modDdc c k f).clusters = s.clusters ∧ (s.modDdc c k f).tapSeq = s.tapSeq ∧
    (s.modDdc c k f).tiu = s.tiu ∧ (s.modDdc c k f).sto = s.sto ∧ (s.modDdc c k f).net = s.net ∧
    (s.modDdc c k f).hea = s.hea :=
  ⟨rfl, rfl, rfl, rfl, rfl, rfl, rfl, rfl, rfl, rfl, rfl, rfl, rfl, rfl, rfl, rfl, rfl, rfl, rfl, rfl, rfl, rfl, rfl, rfl, rfl⟩

@[simp] theorem State.modXf_frame (c : Nat) (f : Xf → Xf) :
    (s.modXf c f).pending = s.pending ∧ (s.modXf c f).od = s.od ∧ (s.modXf c f).live = s.live ∧
    (s.modXf c f).mem = s.mem ∧ (s.modXf c f).out = s.out ∧ (s.modXf c f).ctl = s.ctl ∧
    (s.modXf c f).flt = s.flt ∧ (s.modXf c f).clk = s.clk ∧ (s.modXf c f).dma = s.dma ∧
    (s.modXf c f).chans = s.chans ∧ (s.modXf c f).ddcs = s.ddcs ∧ (s.modXf c f).trigs = s.trigs ∧
    (s.modXf c f).mons = s.mons ∧ (s.modXf c f).dens = s.dens ∧ (s.modXf c f).reds = s.reds ∧
    (s.modXf c f).envs = s.envs ∧ (s.modXf c f).caps = s.caps ∧ (s.modXf c f).hbm = s.hbm ∧
    (s.modXf c f).ladles = s.ladles ∧ (s.modXf c f).clusters = s.clusters ∧ (s.modXf c f).tapSeq = s.tapSeq ∧
    (s.modXf c f).tiu = s.tiu ∧ (s.modXf c f).sto = s.sto ∧ (s.modXf c f).net = s.net ∧
    (s.modXf c f).hea = s.hea :=
  ⟨rfl, rfl, rfl, rfl, rfl, rfl, rfl, rfl, rfl, rfl, rfl, rfl, rfl, rfl, rfl, rfl, rfl, rfl, rfl, rfl, rfl, rfl, rfl, rfl, rfl⟩

@[simp] theorem State.modTrig_frame (u : Nat) (f : Trig → Trig) :
    (s.modTrig u f).pending = s.pending ∧ (s.modTrig u f).od = s.od ∧ (s.modTrig u f).live = s.live ∧
    (s.modTrig u f).mem = s.mem ∧ (s.modTrig u f).out = s.out ∧ (s.modTrig u f).ctl = s.ctl ∧
    (s.modTrig u f).flt = s.flt ∧ (s.modTrig u f).clk = s.clk ∧ (s.modTrig u f).dma = s.dma ∧
    (s.modTrig u f).chans = s.chans ∧ (s.modTrig u f).ddcs = s.ddcs ∧ (s.modTrig u f).xfs = s.xfs ∧
    (s.modTrig u f).mons = s.mons ∧ (s.modTrig u f).dens = s.dens ∧ (s.modTrig u f).reds = s.reds ∧
    (s.modTrig u f).envs = s.envs ∧ (s.modTrig u f).caps = s.caps ∧ (s.modTrig u f).hbm = s.hbm ∧
    (s.modTrig u f).ladles = s.ladles ∧ (s.modTrig u f).clusters = s.clusters ∧ (s.modTrig u f).tapSeq = s.tapSeq ∧
    (s.modTrig u f).tiu = s.tiu ∧ (s.modTrig u f).sto = s.sto ∧ (s.modTrig u f).net = s.net ∧
    (s.modTrig u f).hea = s.hea :=
  ⟨rfl, rfl, rfl, rfl, rfl, rfl, rfl, rfl, rfl, rfl, rfl, rfl, rfl, rfl, rfl, rfl, rfl, rfl, rfl, rfl, rfl, rfl, rfl, rfl, rfl⟩

@[simp] theorem State.modDensity_frame (c : Nat) (f : Dens → Dens) :
    (s.modDensity c f).pending = s.pending ∧ (s.modDensity c f).od = s.od ∧ (s.modDensity c f).live = s.live ∧
    (s.modDensity c f).mem = s.mem ∧ (s.modDensity c f).out = s.out ∧ (s.modDensity c f).ctl = s.ctl ∧
    (s.modDensity c f).flt = s.flt ∧ (s.modDensity c f).clk = s.clk ∧ (s.modDensity c f).dma = s.dma ∧
    (s.modDensity c f).chans = s.chans ∧ (s.modDensity c f).ddcs = s.ddcs ∧ (s.modDensity c f).xfs = s.xfs ∧
    (s.modDensity c f).trigs = s.trigs ∧ (s.modDensity c f).mons = s.mons ∧ (s.modDensity c f).reds = s.reds ∧
    (s.modDensity c f).envs = s.envs ∧ (s.modDensity c f).caps = s.caps ∧ (s.modDensity c f).hbm = s.hbm ∧
    (s.modDensity c f).ladles = s.ladles ∧ (s.modDensity c f).clusters = s.clusters ∧ (s.modDensity c f).tapSeq = s.tapSeq ∧
    (s.modDensity c f).tiu = s.tiu ∧ (s.modDensity c f).sto = s.sto ∧ (s.modDensity c f).net = s.net ∧
    (s.modDensity c f).hea = s.hea :=
  ⟨rfl, rfl, rfl, rfl, rfl, rfl, rfl, rfl, rfl, rfl, rfl, rfl, rfl, rfl, rfl, rfl, rfl, rfl, rfl, rfl, rfl, rfl, rfl, rfl, rfl⟩

@[simp] theorem State.modRed_frame (c : Nat) (r : Nat) (f : Red → Red) :
    (s.modRed c r f).pending = s.pending ∧ (s.modRed c r f).od = s.od ∧ (s.modRed c r f).live = s.live ∧
    (s.modRed c r f).mem = s.mem ∧ (s.modRed c r f).out = s.out ∧ (s.modRed c r f).ctl = s.ctl ∧
    (s.modRed c r f).flt = s.flt ∧ (s.modRed c r f).clk = s.clk ∧ (s.modRed c r f).dma = s.dma ∧
    (s.modRed c r f).chans = s.chans ∧ (s.modRed c r f).ddcs = s.ddcs ∧ (s.modRed c r f).xfs = s.xfs ∧
    (s.modRed c r f).trigs = s.trigs ∧ (s.modRed c r f).mons = s.mons ∧ (s.modRed c r f).dens = s.dens ∧
    (s.modRed c r f).envs = s.envs ∧ (s.modRed c r f).caps = s.caps ∧ (s.modRed c r f).hbm = s.hbm ∧
    (s.modRed c r f).ladles = s.ladles ∧ (s.modRed c r f).clusters = s.clusters ∧ (s.modRed c r f).tapSeq = s.tapSeq ∧
    (s.modRed c r f).tiu = s.tiu ∧ (s.modRed c r f).sto = s.sto ∧ (s.modRed c r f).net = s.net ∧
    (s.modRed c r f).hea = s.hea :=
  ⟨rfl, rfl, rfl, rfl, rfl, rfl, rfl, rfl, rfl, rfl, rfl, rfl, rfl, rfl, rfl, rfl, rfl, rfl, rfl, rfl, rfl, rfl, rfl, rfl, rfl⟩

@[simp] theorem State.modEnv_frame (c : Nat) (g : Nat) (f : Env → Env) :
    (s.modEnv c g f).pending = s.pending ∧ (s.modEnv c g f).od = s.od ∧ (s.modEnv c g f).live = s.live ∧
    (s.modEnv c g f).mem = s.mem ∧ (s.modEnv c g f).out = s.out ∧ (s.modEnv c g f).ctl = s.ctl ∧
    (s.modEnv c g f).flt = s.flt ∧ (s.modEnv c g f).clk = s.clk ∧ (s.modEnv c g f).dma = s.dma ∧
    (s.modEnv c g f).chans = s.chans ∧ (s.modEnv c g f).ddcs = s.ddcs ∧ (s.modEnv c g f).xfs = s.xfs ∧
    (s.modEnv c g f).trigs = s.trigs ∧ (s.modEnv c g f).mons = s.mons ∧ (s.modEnv c g f).dens = s.dens ∧
    (s.modEnv c g f).reds = s.reds ∧ (s.modEnv c g f).caps = s.caps ∧ (s.modEnv c g f).hbm = s.hbm ∧
    (s.modEnv c g f).ladles = s.ladles ∧ (s.modEnv c g f).clusters = s.clusters ∧ (s.modEnv c g f).tapSeq = s.tapSeq ∧
    (s.modEnv c g f).tiu = s.tiu ∧ (s.modEnv c g f).sto = s.sto ∧ (s.modEnv c g f).net = s.net ∧
    (s.modEnv c g f).hea = s.hea :=
  ⟨rfl, rfl, rfl, rfl, rfl, rfl, rfl, rfl, rfl, rfl, rfl, rfl, rfl, rfl, rfl, rfl, rfl, rfl, rfl, rfl, rfl, rfl, rfl, rfl, rfl⟩

@[simp] theorem State.modCap_frame (c : Nat) (f : Cap → Cap) :
    (s.modCap c f).pending = s.pending ∧ (s.modCap c f).od = s.od ∧ (s.modCap c f).live = s.live ∧
    (s.modCap c f).mem = s.mem ∧ (s.modCap c f).out = s.out ∧ (s.modCap c f).ctl = s.ctl ∧
    (s.modCap c f).flt = s.flt ∧ (s.modCap c f).clk = s.clk ∧ (s.modCap c f).dma = s.dma ∧
    (s.modCap c f).chans = s.chans ∧ (s.modCap c f).ddcs = s.ddcs ∧ (s.modCap c f).xfs = s.xfs ∧
    (s.modCap c f).trigs = s.trigs ∧ (s.modCap c f).mons = s.mons ∧ (s.modCap c f).dens = s.dens ∧
    (s.modCap c f).reds = s.reds ∧ (s.modCap c f).envs = s.envs ∧ (s.modCap c f).hbm = s.hbm ∧
    (s.modCap c f).ladles = s.ladles ∧ (s.modCap c f).clusters = s.clusters ∧ (s.modCap c f).tapSeq = s.tapSeq ∧
    (s.modCap c f).tiu = s.tiu ∧ (s.modCap c f).sto = s.sto ∧ (s.modCap c f).net = s.net ∧
    (s.modCap c f).hea = s.hea :=
  ⟨rfl, rfl, rfl, rfl, rfl, rfl, rfl, rfl, rfl, rfl, rfl, rfl, rfl, rfl, rfl, rfl, rfl, rfl, rfl, rfl, rfl, rfl, rfl, rfl, rfl⟩

@[simp] theorem State.setLadle_frame (l : Nat) (q : Ladle) :
    (s.setLadle l q).pending = s.pending ∧ (s.setLadle l q).od = s.od ∧ (s.setLadle l q).live = s.live ∧
    (s.setLadle l q).mem = s.mem ∧ (s.setLadle l q).out = s.out ∧ (s.setLadle l q).ctl = s.ctl ∧
    (s.setLadle l q).flt = s.flt ∧ (s.setLadle l q).clk = s.clk ∧ (s.setLadle l q).dma = s.dma ∧
    (s.setLadle l q).chans = s.chans ∧ (s.setLadle l q).ddcs = s.ddcs ∧ (s.setLadle l q).xfs = s.xfs ∧
    (s.setLadle l q).trigs = s.trigs ∧ (s.setLadle l q).mons = s.mons ∧ (s.setLadle l q).dens = s.dens ∧
    (s.setLadle l q).reds = s.reds ∧ (s.setLadle l q).envs = s.envs ∧ (s.setLadle l q).caps = s.caps ∧
    (s.setLadle l q).hbm = s.hbm ∧ (s.setLadle l q).clusters = s.clusters ∧ (s.setLadle l q).tapSeq = s.tapSeq ∧
    (s.setLadle l q).tiu = s.tiu ∧ (s.setLadle l q).sto = s.sto ∧ (s.setLadle l q).net = s.net ∧
    (s.setLadle l q).hea = s.hea :=
  ⟨rfl, rfl, rfl, rfl, rfl, rfl, rfl, rfl, rfl, rfl, rfl, rfl, rfl, rfl, rfl, rfl, rfl, rfl, rfl, rfl, rfl, rfl, rfl, rfl, rfl⟩

@[simp] theorem State.modLadle_frame (l : Nat) (f : Ladle → Ladle) :
    (s.modLadle l f).pending = s.pending ∧ (s.modLadle l f).od = s.od ∧ (s.modLadle l f).live = s.live ∧
    (s.modLadle l f).mem = s.mem ∧ (s.modLadle l f).out = s.out ∧ (s.modLadle l f).ctl = s.ctl ∧
    (s.modLadle l f).flt = s.flt ∧ (s.modLadle l f).clk = s.clk ∧ (s.modLadle l f).dma = s.dma ∧
    (s.modLadle l f).chans = s.chans ∧ (s.modLadle l f).ddcs = s.ddcs ∧ (s.modLadle l f).xfs = s.xfs ∧
    (s.modLadle l f).trigs = s.trigs ∧ (s.modLadle l f).mons = s.mons ∧ (s.modLadle l f).dens = s.dens ∧
    (s.modLadle l f).reds = s.reds ∧ (s.modLadle l f).envs = s.envs ∧ (s.modLadle l f).caps = s.caps ∧
    (s.modLadle l f).hbm = s.hbm ∧ (s.modLadle l f).clusters = s.clusters ∧ (s.modLadle l f).tapSeq = s.tapSeq ∧
    (s.modLadle l f).tiu = s.tiu ∧ (s.modLadle l f).sto = s.sto ∧ (s.modLadle l f).net = s.net ∧
    (s.modLadle l f).hea = s.hea :=
  ⟨rfl, rfl, rfl, rfl, rfl, rfl, rfl, rfl, rfl, rfl, rfl, rfl, rfl, rfl, rfl, rfl, rfl, rfl, rfl, rfl, rfl, rfl, rfl, rfl, rfl⟩

@[simp] theorem State.setCluster_frame (g : Nat) (q : Cluster) :
    (s.setCluster g q).pending = s.pending ∧ (s.setCluster g q).od = s.od ∧ (s.setCluster g q).live = s.live ∧
    (s.setCluster g q).mem = s.mem ∧ (s.setCluster g q).out = s.out ∧ (s.setCluster g q).ctl = s.ctl ∧
    (s.setCluster g q).flt = s.flt ∧ (s.setCluster g q).clk = s.clk ∧ (s.setCluster g q).dma = s.dma ∧
    (s.setCluster g q).chans = s.chans ∧ (s.setCluster g q).ddcs = s.ddcs ∧ (s.setCluster g q).xfs = s.xfs ∧
    (s.setCluster g q).trigs = s.trigs ∧ (s.setCluster g q).mons = s.mons ∧ (s.setCluster g q).dens = s.dens ∧
    (s.setCluster g q).reds = s.reds ∧ (s.setCluster g q).envs = s.envs ∧ (s.setCluster g q).caps = s.caps ∧
    (s.setCluster g q).hbm = s.hbm ∧ (s.setCluster g q).ladles = s.ladles ∧ (s.setCluster g q).tapSeq = s.tapSeq ∧
    (s.setCluster g q).tiu = s.tiu ∧ (s.setCluster g q).sto = s.sto ∧ (s.setCluster g q).net = s.net ∧
    (s.setCluster g q).hea = s.hea :=
  ⟨rfl, rfl, rfl, rfl, rfl, rfl, rfl, rfl, rfl, rfl, rfl, rfl, rfl, rfl, rfl, rfl, rfl, rfl, rfl, rfl, rfl, rfl, rfl, rfl, rfl⟩

@[simp] theorem State.modHea_frame (f : Hea → Hea) :
    (s.modHea f).pending = s.pending ∧ (s.modHea f).od = s.od ∧ (s.modHea f).live = s.live ∧
    (s.modHea f).mem = s.mem ∧ (s.modHea f).out = s.out ∧ (s.modHea f).ctl = s.ctl ∧
    (s.modHea f).flt = s.flt ∧ (s.modHea f).clk = s.clk ∧ (s.modHea f).dma = s.dma ∧
    (s.modHea f).chans = s.chans ∧ (s.modHea f).ddcs = s.ddcs ∧ (s.modHea f).xfs = s.xfs ∧
    (s.modHea f).trigs = s.trigs ∧ (s.modHea f).mons = s.mons ∧ (s.modHea f).dens = s.dens ∧
    (s.modHea f).reds = s.reds ∧ (s.modHea f).envs = s.envs ∧ (s.modHea f).caps = s.caps ∧
    (s.modHea f).hbm = s.hbm ∧ (s.modHea f).ladles = s.ladles ∧ (s.modHea f).clusters = s.clusters ∧
    (s.modHea f).tapSeq = s.tapSeq ∧ (s.modHea f).tiu = s.tiu ∧ (s.modHea f).sto = s.sto ∧
    (s.modHea f).net = s.net :=
  ⟨rfl, rfl, rfl, rfl, rfl, rfl, rfl, rfl, rfl, rfl, rfl, rfl, rfl, rfl, rfl, rfl, rfl, rfl, rfl, rfl, rfl, rfl, rfl, rfl, rfl⟩

@[simp] theorem State.modWm_frame (m : Nat) (f : Wm → Wm) :
    (s.modWm m f).pending = s.pending ∧ (s.modWm m f).od = s.od ∧ (s.modWm m f).live = s.live ∧
    (s.modWm m f).mem = s.mem ∧ (s.modWm m f).out = s.out ∧ (s.modWm m f).ctl = s.ctl ∧
    (s.modWm m f).flt = s.flt ∧ (s.modWm m f).clk = s.clk ∧ (s.modWm m f).dma = s.dma ∧
    (s.modWm m f).chans = s.chans ∧ (s.modWm m f).ddcs = s.ddcs ∧ (s.modWm m f).xfs = s.xfs ∧
    (s.modWm m f).trigs = s.trigs ∧ (s.modWm m f).mons = s.mons ∧ (s.modWm m f).dens = s.dens ∧
    (s.modWm m f).reds = s.reds ∧ (s.modWm m f).envs = s.envs ∧ (s.modWm m f).caps = s.caps ∧
    (s.modWm m f).hbm = s.hbm ∧ (s.modWm m f).ladles = s.ladles ∧ (s.modWm m f).clusters = s.clusters ∧
    (s.modWm m f).tapSeq = s.tapSeq ∧ (s.modWm m f).tiu = s.tiu ∧ (s.modWm m f).sto = s.sto ∧
    (s.modWm m f).net = s.net :=
  ⟨rfl, rfl, rfl, rfl, rfl, rfl, rfl, rfl, rfl, rfl, rfl, rfl, rfl, rfl, rfl, rfl, rfl, rfl, rfl, rfl, rfl, rfl, rfl, rfl, rfl⟩

@[simp] theorem State.modHk_frame (k : Nat) (f : Hk → Hk) :
    (s.modHk k f).pending = s.pending ∧ (s.modHk k f).od = s.od ∧ (s.modHk k f).live = s.live ∧
    (s.modHk k f).mem = s.mem ∧ (s.modHk k f).out = s.out ∧ (s.modHk k f).ctl = s.ctl ∧
    (s.modHk k f).flt = s.flt ∧ (s.modHk k f).clk = s.clk ∧ (s.modHk k f).dma = s.dma ∧
    (s.modHk k f).chans = s.chans ∧ (s.modHk k f).ddcs = s.ddcs ∧ (s.modHk k f).xfs = s.xfs ∧
    (s.modHk k f).trigs = s.trigs ∧ (s.modHk k f).mons = s.mons ∧ (s.modHk k f).dens = s.dens ∧
    (s.modHk k f).reds = s.reds ∧ (s.modHk k f).envs = s.envs ∧ (s.modHk k f).caps = s.caps ∧
    (s.modHk k f).hbm = s.hbm ∧ (s.modHk k f).ladles = s.ladles ∧ (s.modHk k f).clusters = s.clusters ∧
    (s.modHk k f).tapSeq = s.tapSeq ∧ (s.modHk k f).tiu = s.tiu ∧ (s.modHk k f).sto = s.sto ∧
    (s.modHk k f).net = s.net :=
  ⟨rfl, rfl, rfl, rfl, rfl, rfl, rfl, rfl, rfl, rfl, rfl, rfl, rfl, rfl, rfl, rfl, rfl, rfl, rfl, rfl, rfl, rfl, rfl, rfl, rfl⟩

@[simp] theorem State.modTiu_frame (f : Tiu → Tiu) :
    (s.modTiu f).pending = s.pending ∧ (s.modTiu f).od = s.od ∧ (s.modTiu f).live = s.live ∧
    (s.modTiu f).mem = s.mem ∧ (s.modTiu f).out = s.out ∧ (s.modTiu f).ctl = s.ctl ∧
    (s.modTiu f).flt = s.flt ∧ (s.modTiu f).clk = s.clk ∧ (s.modTiu f).dma = s.dma ∧
    (s.modTiu f).chans = s.chans ∧ (s.modTiu f).ddcs = s.ddcs ∧ (s.modTiu f).xfs = s.xfs ∧
    (s.modTiu f).trigs = s.trigs ∧ (s.modTiu f).mons = s.mons ∧ (s.modTiu f).dens = s.dens ∧
    (s.modTiu f).reds = s.reds ∧ (s.modTiu f).envs = s.envs ∧ (s.modTiu f).caps = s.caps ∧
    (s.modTiu f).hbm = s.hbm ∧ (s.modTiu f).ladles = s.ladles ∧ (s.modTiu f).clusters = s.clusters ∧
    (s.modTiu f).tapSeq = s.tapSeq ∧ (s.modTiu f).sto = s.sto ∧ (s.modTiu f).net = s.net ∧
    (s.modTiu f).hea = s.hea :=
  ⟨rfl, rfl, rfl, rfl, rfl, rfl, rfl, rfl, rfl, rfl, rfl, rfl, rfl, rfl, rfl, rfl, rfl, rfl, rfl, rfl, rfl, rfl, rfl, rfl, rfl⟩

@[simp] theorem State.modEvt_frame (n : Nat) (f : EvtIn → EvtIn) :
    (s.modEvt n f).pending = s.pending ∧ (s.modEvt n f).od = s.od ∧ (s.modEvt n f).live = s.live ∧
    (s.modEvt n f).mem = s.mem ∧ (s.modEvt n f).out = s.out ∧ (s.modEvt n f).ctl = s.ctl ∧
    (s.modEvt n f).flt = s.flt ∧ (s.modEvt n f).clk = s.clk ∧ (s.modEvt n f).dma = s.dma ∧
    (s.modEvt n f).chans = s.chans ∧ (s.modEvt n f).ddcs = s.ddcs ∧ (s.modEvt n f).xfs = s.xfs ∧
    (s.modEvt n f).trigs = s.trigs ∧ (s.modEvt n f).mons = s.mons ∧ (s.modEvt n f).dens = s.dens ∧
    (s.modEvt n f).reds = s.reds ∧ (s.modEvt n f).envs = s.envs ∧ (s.modEvt n f).caps = s.caps ∧
    (s.modEvt n f).hbm = s.hbm ∧ (s.modEvt n f).ladles = s.ladles ∧ (s.modEvt n f).clusters = s.clusters ∧
    (s.modEvt n f).tapSeq = s.tapSeq ∧ (s.modEvt n f).sto = s.sto ∧ (s.modEvt n f).net = s.net ∧
    (s.modEvt n f).hea = s.hea :=
  ⟨rfl, rfl, rfl, rfl, rfl, rfl, rfl, rfl, rfl, rfl, rfl, rfl, rfl, rfl, rfl, rfl, rfl, rfl, rfl, rfl, rfl, rfl, rfl, rfl, rfl⟩

@[simp] theorem State.modInterp_frame (n : Nat) (f : Interp → Interp) :
    (s.modInterp n f).pending = s.pending ∧ (s.modInterp n f).od = s.od ∧ (s.modInterp n f).live = s.live ∧
    (s.modInterp n f).mem = s.mem ∧ (s.modInterp n f).out = s.out ∧ (s.modInterp n f).ctl = s.ctl ∧
    (s.modInterp n f).flt = s.flt ∧ (s.modInterp n f).clk = s.clk ∧ (s.modInterp n f).dma = s.dma ∧
    (s.modInterp n f).chans = s.chans ∧ (s.modInterp n f).ddcs = s.ddcs ∧ (s.modInterp n f).xfs = s.xfs ∧
    (s.modInterp n f).trigs = s.trigs ∧ (s.modInterp n f).mons = s.mons ∧ (s.modInterp n f).dens = s.dens ∧
    (s.modInterp n f).reds = s.reds ∧ (s.modInterp n f).envs = s.envs ∧ (s.modInterp n f).caps = s.caps ∧
    (s.modInterp n f).hbm = s.hbm ∧ (s.modInterp n f).ladles = s.ladles ∧ (s.modInterp n f).clusters = s.clusters ∧
    (s.modInterp n f).tapSeq = s.tapSeq ∧ (s.modInterp n f).sto = s.sto ∧ (s.modInterp n f).net = s.net ∧
    (s.modInterp n f).hea = s.hea :=
  ⟨rfl, rfl, rfl, rfl, rfl, rfl, rfl, rfl, rfl, rfl, rfl, rfl, rfl, rfl, rfl, rfl, rfl, rfl, rfl, rfl, rfl, rfl, rfl, rfl, rfl⟩

@[simp] theorem State.modMu_frame (u : Nat) (f : Mu → Mu) :
    (s.modMu u f).pending = s.pending ∧ (s.modMu u f).od = s.od ∧ (s.modMu u f).live = s.live ∧
    (s.modMu u f).mem = s.mem ∧ (s.modMu u f).out = s.out ∧ (s.modMu u f).ctl = s.ctl ∧
    (s.modMu u f).flt = s.flt ∧ (s.modMu u f).clk = s.clk ∧ (s.modMu u f).dma = s.dma ∧
    (s.modMu u f).chans = s.chans ∧ (s.modMu u f).ddcs = s.ddcs ∧ (s.modMu u f).xfs = s.xfs ∧
    (s.modMu u f).trigs = s.trigs ∧ (s.modMu u f).mons = s.mons ∧ (s.modMu u f).dens = s.dens ∧
    (s.modMu u f).reds = s.reds ∧ (s.modMu u f).envs = s.envs ∧ (s.modMu u f).caps = s.caps ∧
    (s.modMu u f).hbm = s.hbm ∧ (s.modMu u f).ladles = s.ladles ∧ (s.modMu u f).clusters = s.clusters ∧
    (s.modMu u f).tapSeq = s.tapSeq ∧ (s.modMu u f).sto = s.sto ∧ (s.modMu u f).net = s.net ∧
    (s.modMu u f).hea = s.hea :=
  ⟨rfl, rfl, rfl, rfl, rfl, rfl, rfl, rfl, rfl, rfl, rfl, rfl, rfl, rfl, rfl, rfl, rfl, rfl, rfl, rfl, rfl, rfl, rfl, rfl, rfl⟩

@[simp] theorem State.modSto_frame (f : Sto → Sto) :
    (s.modSto f).pending = s.pending ∧ (s.modSto f).od = s.od ∧ (s.modSto f).live = s.live ∧
    (s.modSto f).mem = s.mem ∧ (s.modSto f).out = s.out ∧ (s.modSto f).ctl = s.ctl ∧
    (s.modSto f).flt = s.flt ∧ (s.modSto f).clk = s.clk ∧ (s.modSto f).dma = s.dma ∧
    (s.modSto f).chans = s.chans ∧ (s.modSto f).ddcs = s.ddcs ∧ (s.modSto f).xfs = s.xfs ∧
    (s.modSto f).trigs = s.trigs ∧ (s.modSto f).mons = s.mons ∧ (s.modSto f).dens = s.dens ∧
    (s.modSto f).reds = s.reds ∧ (s.modSto f).envs = s.envs ∧ (s.modSto f).caps = s.caps ∧
    (s.modSto f).hbm = s.hbm ∧ (s.modSto f).ladles = s.ladles ∧ (s.modSto f).clusters = s.clusters ∧
    (s.modSto f).tapSeq = s.tapSeq ∧ (s.modSto f).tiu = s.tiu ∧ (s.modSto f).net = s.net ∧
    (s.modSto f).hea = s.hea :=
  ⟨rfl, rfl, rfl, rfl, rfl, rfl, rfl, rfl, rfl, rfl, rfl, rfl, rfl, rfl, rfl, rfl, rfl, rfl, rfl, rfl, rfl, rfl, rfl, rfl, rfl⟩

@[simp] theorem State.modDrive_frame (d : Nat) (f : Drive → Drive) :
    (s.modDrive d f).pending = s.pending ∧ (s.modDrive d f).od = s.od ∧ (s.modDrive d f).live = s.live ∧
    (s.modDrive d f).mem = s.mem ∧ (s.modDrive d f).out = s.out ∧ (s.modDrive d f).ctl = s.ctl ∧
    (s.modDrive d f).flt = s.flt ∧ (s.modDrive d f).clk = s.clk ∧ (s.modDrive d f).dma = s.dma ∧
    (s.modDrive d f).chans = s.chans ∧ (s.modDrive d f).ddcs = s.ddcs ∧ (s.modDrive d f).xfs = s.xfs ∧
    (s.modDrive d f).trigs = s.trigs ∧ (s.modDrive d f).mons = s.mons ∧ (s.modDrive d f).dens = s.dens ∧
    (s.modDrive d f).reds = s.reds ∧ (s.modDrive d f).envs = s.envs ∧ (s.modDrive d f).caps = s.caps ∧
    (s.modDrive d f).hbm = s.hbm ∧ (s.modDrive d f).ladles = s.ladles ∧ (s.modDrive d f).clusters = s.clusters ∧
    (s.modDrive d f).tapSeq = s.tapSeq ∧ (s.modDrive d f).tiu = s.tiu ∧ (s.modDrive d f).net = s.net ∧
    (s.modDrive d f).hea = s.hea :=
  ⟨rfl, rfl, rfl, rfl, rfl, rfl, rfl, rfl, rfl, rfl, rfl, rfl, rfl, rfl, rfl, rfl, rfl, rfl, rfl, rfl, rfl, rfl, rfl, rfl, rfl⟩

@[simp] theorem State.modStream_frame (n : Nat) (f : RStream → RStream) :
    (s.modStream n f).pending = s.pending ∧ (s.modStream n f).od = s.od ∧ (s.modStream n f).live = s.live ∧
    (s.modStream n f).mem = s.mem ∧ (s.modStream n f).out = s.out ∧ (s.modStream n f).ctl = s.ctl ∧
    (s.modStream n f).flt = s.flt ∧ (s.modStream n f).clk = s.clk ∧ (s.modStream n f).dma = s.dma ∧
    (s.modStream n f).chans = s.chans ∧ (s.modStream n f).ddcs = s.ddcs ∧ (s.modStream n f).xfs = s.xfs ∧
    (s.modStream n f).trigs = s.trigs ∧ (s.modStream n f).mons = s.mons ∧ (s.modStream n f).dens = s.dens ∧
    (s.modStream n f).reds = s.reds ∧ (s.modStream n f).envs = s.envs ∧ (s.modStream n f).caps = s.caps ∧
    (s.modStream n f).hbm = s.hbm ∧ (s.modStream n f).ladles = s.ladles ∧ (s.modStream n f).clusters = s.clusters ∧
    (s.modStream n f).tapSeq = s.tapSeq ∧ (s.modStream n f).tiu = s.tiu ∧ (s.modStream n f).net = s.net ∧
    (s.modStream n f).hea = s.hea :=
  ⟨rfl, rfl, rfl, rfl, rfl, rfl, rfl, rfl, rfl, rfl, rfl, rfl, rfl, rfl, rfl, rfl, rfl, rfl, rfl, rfl, rfl, rfl, rfl, rfl, rfl⟩

@[simp] theorem State.modNstream_frame (t : Nat) (f : NStream → NStream) :
    (s.modNstream t f).pending = s.pending ∧ (s.modNstream t f).od = s.od ∧ (s.modNstream t f).live = s.live ∧
    (s.modNstream t f).mem = s.mem ∧ (s.modNstream t f).out = s.out ∧ (s.modNstream t f).ctl = s.ctl ∧
    (s.modNstream t f).flt = s.flt ∧ (s.modNstream t f).clk = s.clk ∧ (s.modNstream t f).dma = s.dma ∧
    (s.modNstream t f).chans = s.chans ∧ (s.modNstream t f).ddcs = s.ddcs ∧ (s.modNstream t f).xfs = s.xfs ∧
    (s.modNstream t f).trigs = s.trigs ∧ (s.modNstream t f).mons = s.mons ∧ (s.modNstream t f).dens = s.dens ∧
    (s.modNstream t f).reds = s.reds ∧ (s.modNstream t f).envs = s.envs ∧ (s.modNstream t f).caps = s.caps ∧
    (s.modNstream t f).hbm = s.hbm ∧ (s.modNstream t f).ladles = s.ladles ∧ (s.modNstream t f).clusters = s.clusters ∧
    (s.modNstream t f).tapSeq = s.tapSeq ∧ (s.modNstream t f).tiu = s.tiu ∧ (s.modNstream t f).sto = s.sto ∧
    (s.modNstream t f).hea = s.hea :=
  ⟨rfl, rfl, rfl, rfl, rfl, rfl, rfl, rfl, rfl, rfl, rfl, rfl, rfl, rfl, rfl, rfl, rfl, rfl, rfl, rfl, rfl, rfl, rfl, rfl, rfl⟩

@[simp] theorem State.modPort_frame (p : Nat) (f : EthPort → EthPort) :
    (s.modPort p f).pending = s.pending ∧ (s.modPort p f).od = s.od ∧ (s.modPort p f).live = s.live ∧
    (s.modPort p f).mem = s.mem ∧ (s.modPort p f).out = s.out ∧ (s.modPort p f).ctl = s.ctl ∧
    (s.modPort p f).flt = s.flt ∧ (s.modPort p f).clk = s.clk ∧ (s.modPort p f).dma = s.dma ∧
    (s.modPort p f).chans = s.chans ∧ (s.modPort p f).ddcs = s.ddcs ∧ (s.modPort p f).xfs = s.xfs ∧
    (s.modPort p f).trigs = s.trigs ∧ (s.modPort p f).mons = s.mons ∧ (s.modPort p f).dens = s.dens ∧
    (s.modPort p f).reds = s.reds ∧ (s.modPort p f).envs = s.envs ∧ (s.modPort p f).caps = s.caps ∧
    (s.modPort p f).hbm = s.hbm ∧ (s.modPort p f).ladles = s.ladles ∧ (s.modPort p f).clusters = s.clusters ∧
    (s.modPort p f).tapSeq = s.tapSeq ∧ (s.modPort p f).tiu = s.tiu ∧ (s.modPort p f).sto = s.sto ∧
    (s.modPort p f).hea = s.hea :=
  ⟨rfl, rfl, rfl, rfl, rfl, rfl, rfl, rfl, rfl, rfl, rfl, rfl, rfl, rfl, rfl, rfl, rfl, rfl, rfl, rfl, rfl, rfl, rfl, rfl, rfl⟩

@[simp] theorem State.setPour_frame (b : BlockId) (p : U32) :
    (s.setPour b p).pending = s.pending ∧ (s.setPour b p).od = s.od ∧ (s.setPour b p).live = s.live ∧
    (s.setPour b p).mem = s.mem ∧ (s.setPour b p).out = s.out ∧ (s.setPour b p).flt = s.flt ∧
    (s.setPour b p).clk = s.clk ∧ (s.setPour b p).dma = s.dma ∧ (s.setPour b p).chans = s.chans ∧
    (s.setPour b p).ddcs = s.ddcs ∧ (s.setPour b p).xfs = s.xfs ∧ (s.setPour b p).trigs = s.trigs ∧
    (s.setPour b p).mons = s.mons ∧ (s.setPour b p).dens = s.dens ∧ (s.setPour b p).reds = s.reds ∧
    (s.setPour b p).envs = s.envs ∧ (s.setPour b p).caps = s.caps ∧ (s.setPour b p).hbm = s.hbm ∧
    (s.setPour b p).ladles = s.ladles ∧ (s.setPour b p).clusters = s.clusters ∧ (s.setPour b p).tapSeq = s.tapSeq ∧
    (s.setPour b p).tiu = s.tiu ∧ (s.setPour b p).sto = s.sto ∧ (s.setPour b p).net = s.net ∧
    (s.setPour b p).hea = s.hea :=
  ⟨rfl, rfl, rfl, rfl, rfl, rfl, rfl, rfl, rfl, rfl, rfl, rfl, rfl, rfl, rfl, rfl, rfl, rfl, rfl, rfl, rfl, rfl, rfl, rfl, rfl⟩

@[simp] theorem State.setRunner_frame (n : Nat) (r : Runner) :
    (s.setRunner n r).pending = s.pending ∧ (s.setRunner n r).live = s.live ∧ (s.setRunner n r).mem = s.mem ∧
    (s.setRunner n r).out = s.out ∧ (s.setRunner n r).ctl = s.ctl ∧ (s.setRunner n r).flt = s.flt ∧
    (s.setRunner n r).clk = s.clk ∧ (s.setRunner n r).chans = s.chans ∧ (s.setRunner n r).ddcs = s.ddcs ∧
    (s.setRunner n r).xfs = s.xfs ∧ (s.setRunner n r).trigs = s.trigs ∧ (s.setRunner n r).mons = s.mons ∧
    (s.setRunner n r).dens = s.dens ∧ (s.setRunner n r).reds = s.reds ∧ (s.setRunner n r).envs = s.envs ∧
    (s.setRunner n r).caps = s.caps ∧ (s.setRunner n r).hbm = s.hbm ∧ (s.setRunner n r).ladles = s.ladles ∧
    (s.setRunner n r).clusters = s.clusters ∧ (s.setRunner n r).tapSeq = s.tapSeq ∧ (s.setRunner n r).tiu = s.tiu ∧
    (s.setRunner n r).sto = s.sto ∧ (s.setRunner n r).net = s.net ∧ (s.setRunner n r).hea = s.hea :=
  by
  unfold State.setRunner; dsimp only; split <;> simp

@[simp] theorem State.modRunner_frame (n : Nat) (f : Runner → Runner) :
    (s.modRunner n f).pending = s.pending ∧ (s.modRunner n f).live = s.live ∧ (s.modRunner n f).mem = s.mem ∧
    (s.modRunner n f).out = s.out ∧ (s.modRunner n f).ctl = s.ctl ∧ (s.modRunner n f).flt = s.flt ∧
    (s.modRunner n f).clk = s.clk ∧ (s.modRunner n f).chans = s.chans ∧ (s.modRunner n f).ddcs = s.ddcs ∧
    (s.modRunner n f).xfs = s.xfs ∧ (s.modRunner n f).trigs = s.trigs ∧ (s.modRunner n f).mons = s.mons ∧
    (s.modRunner n f).dens = s.dens ∧ (s.modRunner n f).reds = s.reds ∧ (s.modRunner n f).envs = s.envs ∧
    (s.modRunner n f).caps = s.caps ∧ (s.modRunner n f).hbm = s.hbm ∧ (s.modRunner n f).ladles = s.ladles ∧
    (s.modRunner n f).clusters = s.clusters ∧ (s.modRunner n f).tapSeq = s.tapSeq ∧ (s.modRunner n f).tiu = s.tiu ∧
    (s.modRunner n f).sto = s.sto ∧ (s.modRunner n f).net = s.net ∧ (s.modRunner n f).hea = s.hea :=
  by
  unfold State.modRunner; simp

/-! ### What the operations change -/

theorem entryWidth_le (i b : Nat) : entryWidth i b ≤ 96 := by
  unfold entryWidth; split
  · rename_i r _; cases r.ty <;> decide
  · decide

theorem nat_ofNat_lt {n : Nat} (h : n < 2 ^ 96) : (Val.ofNat n).nat = n := by
  simp only [Val.ofNat, Val.nat, BitVec.toNat_ofNat]; exact Nat.mod_eq_of_lt h

@[simp] theorem State.val_putVal_same (i b : Nat) (v : Val) : (s.putVal i b v).val i b = v := Tab.get_set_same _ _ _ _

theorem State.val_putVal_other {i b j c : Nat} (v : Val) (h : keyOf j c ≠ keyOf i b) : (s.putVal i b v).val j c = s.val j c :=
  Tab.get_set_other _ _ _ h

/-- An entry reads as the number put into it, modulo its width. -/
@[simp] theorem State.num_put_same (i b n : Nat) : (s.put i b n).num i b = n % 2 ^ entryWidth i b := by
  simp only [State.num, State.put, State.val_putVal_same]
  exact nat_ofNat_lt (Nat.lt_of_lt_of_le (Nat.mod_lt _ (Nat.two_pow_pos _)) (Nat.pow_le_pow_right (by decide) (entryWidth_le i b)))

theorem State.val_put_other {i b j c : Nat} (n : Nat) (h : keyOf j c ≠ keyOf i b) : (s.put i b n).val j c = s.val j c :=
  State.val_putVal_other s _ h

/-- A write of one entry leaves every other one alone. -/
theorem State.num_put_other {i b j c : Nat} (n : Nat) (h : keyOf j c ≠ keyOf i b) : (s.put i b n).num j c = s.num j c := by
  simp only [State.num, State.val_put_other s n h]

/-- What a write of one entry does to any other one. -/
theorem State.num_put_if (i b j c n : Nat) :
    (s.put i b n).num j c = if keyOf j c = keyOf i b then n % 2 ^ entryWidth i b else s.num j c := by
  split
  · rename_i h
    have := State.num_put_same s i b n
    simp only [State.num, State.val] at this ⊢; rw [h]; exact this
  · rename_i h; exact State.num_put_other s n h

theorem State.num_bump_if (i b j c n : Nat) :
    (s.bump i b n).num j c = if keyOf j c = keyOf i b then (s.num i b + n) % 2 ^ entryWidth i b else s.num j c :=
  State.num_put_if ..

@[simp] theorem State.num_bump_same (i b n : Nat) : (s.bump i b n).num i b = (s.num i b + n) % 2 ^ entryWidth i b :=
  State.num_put_same _ _ _ _

theorem State.num_bump_other {i b j c : Nat} (n : Nat) (h : keyOf j c ≠ keyOf i b) : (s.bump i b n).num j c = s.num j c :=
  State.num_put_other _ _ h

@[simp] theorem State.out_emit (o : Output) : (s.emit o).out = o :: s.out := rfl

/-- The store alone decides what `val` reads. -/
theorem State.val_congr {s t : State} (h : t.od = s.od) (i b : Nat) : t.val i b = s.val i b := by
  simp only [State.val, h]

theorem State.num_congr {s t : State} (h : t.od = s.od) (i b : Nat) : t.num i b = s.num i b := by
  simp only [State.num, State.val_congr h]

@[simp] theorem State.chan_modChan_same (c : Nat) (f : Chan → Chan) : (s.modChan c f).chan c = f (s.chan c) :=
  Tab.get_modify_same _ _ _ _

theorem State.chan_modChan_other {c d : Nat} (f : Chan → Chan) (h : d ≠ c) : (s.modChan c f).chan d = s.chan d :=
  Tab.get_modify_other _ _ _ h

@[simp] theorem State.xf_modXf_same (c : Nat) (f : Xf → Xf) : (s.modXf c f).xf c = f (s.xf c) :=
  Tab.get_modify_same _ _ _ _

theorem State.xf_modXf_other {c d : Nat} (f : Xf → Xf) (h : d ≠ c) : (s.modXf c f).xf d = s.xf d :=
  Tab.get_modify_other _ _ _ h

@[simp] theorem State.trig_modTrig_same (c : Nat) (f : Trig → Trig) : (s.modTrig c f).trig c = f (s.trig c) :=
  Tab.get_modify_same _ _ _ _

theorem State.trig_modTrig_other {c d : Nat} (f : Trig → Trig) (h : d ≠ c) : (s.modTrig c f).trig d = s.trig d :=
  Tab.get_modify_other _ _ _ h

@[simp] theorem State.density_modDensity_same (c : Nat) (f : Dens → Dens) : (s.modDensity c f).density c = f (s.density c) :=
  Tab.get_modify_same _ _ _ _

theorem State.density_modDensity_other {c d : Nat} (f : Dens → Dens) (h : d ≠ c) : (s.modDensity c f).density d = s.density d :=
  Tab.get_modify_other _ _ _ h

@[simp] theorem State.cap_modCap_same (c : Nat) (f : Cap → Cap) : (s.modCap c f).cap c = f (s.cap c) :=
  Tab.get_modify_same _ _ _ _

theorem State.cap_modCap_other {c d : Nat} (f : Cap → Cap) (h : d ≠ c) : (s.modCap c f).cap d = s.cap d :=
  Tab.get_modify_other _ _ _ h

@[simp] theorem State.ladle_modLadle_same (c : Nat) (f : Ladle → Ladle) : (s.modLadle c f).ladle c = f (s.ladle c) :=
  Tab.get_modify_same _ _ _ _

theorem State.ladle_modLadle_other {c d : Nat} (f : Ladle → Ladle) (h : d ≠ c) : (s.modLadle c f).ladle d = s.ladle d :=
  Tab.get_modify_other _ _ _ h

@[simp] theorem State.wm_modWm_same (c : Nat) (f : Wm → Wm) : (s.modWm c f).wm c = f (s.wm c) :=
  Tab.get_modify_same _ _ _ _

theorem State.wm_modWm_other {c d : Nat} (f : Wm → Wm) (h : d ≠ c) : (s.modWm c f).wm d = s.wm d :=
  Tab.get_modify_other _ _ _ h

@[simp] theorem State.hk_modHk_same (c : Nat) (f : Hk → Hk) : (s.modHk c f).hk c = f (s.hk c) :=
  Tab.get_modify_same _ _ _ _

theorem State.hk_modHk_other {c d : Nat} (f : Hk → Hk) (h : d ≠ c) : (s.modHk c f).hk d = s.hk d :=
  Tab.get_modify_other _ _ _ h

@[simp] theorem State.interp_modInterp_same (c : Nat) (f : Interp → Interp) : (s.modInterp c f).interp c = f (s.interp c) :=
  Tab.get_modify_same _ _ _ _

theorem State.interp_modInterp_other {c d : Nat} (f : Interp → Interp) (h : d ≠ c) : (s.modInterp c f).interp d = s.interp d :=
  Tab.get_modify_other _ _ _ h

@[simp] theorem State.mu_modMu_same (c : Nat) (f : Mu → Mu) : (s.modMu c f).mu c = f (s.mu c) :=
  Tab.get_modify_same _ _ _ _

theorem State.mu_modMu_other {c d : Nat} (f : Mu → Mu) (h : d ≠ c) : (s.modMu c f).mu d = s.mu d :=
  Tab.get_modify_other _ _ _ h

@[simp] theorem State.drive_modDrive_same (c : Nat) (f : Drive → Drive) : (s.modDrive c f).drive c = f (s.drive c) :=
  Tab.get_modify_same _ _ _ _

theorem State.drive_modDrive_other {c d : Nat} (f : Drive → Drive) (h : d ≠ c) : (s.modDrive c f).drive d = s.drive d :=
  Tab.get_modify_other _ _ _ h

@[simp] theorem State.rstream_modStream_same (c : Nat) (f : RStream → RStream) : (s.modStream c f).rstream c = f (s.rstream c) :=
  Tab.get_modify_same _ _ _ _

theorem State.rstream_modStream_other {c d : Nat} (f : RStream → RStream) (h : d ≠ c) : (s.modStream c f).rstream d = s.rstream d :=
  Tab.get_modify_other _ _ _ h

@[simp] theorem State.port_modPort_same (c : Nat) (f : EthPort → EthPort) : (s.modPort c f).port c = f (s.port c) :=
  Tab.get_modify_same _ _ _ _

theorem State.port_modPort_other {c d : Nat} (f : EthPort → EthPort) (h : d ≠ c) : (s.modPort c f).port d = s.port d :=
  Tab.get_modify_other _ _ _ h

end Sys2Proof.Machine
end

