-- ==== Sys2Proof/Laws/Memory.lean ====
section
/-! SUPPORT. HBM: a write keeps the canonical form, gives its bytes back and leaves every other byte alone; the memory after
reset. -/

namespace Sys2Proof.Machine

theorem storeBytes_wf {m : Tab Byte} (a : Nat) (bs : List Byte) (h : Tab.wf memDefault m = true) :
    Tab.wf memDefault (storeBytes m a bs) = true := by
  induction bs generalizing m a with
  | nil => exact h
  | cons b bs ih => exact ih _ (Tab.wf_set memDefault a b h)

/-- A write to HBM keeps the canonical form. -/
theorem State.store_wf {s : State} (a : Nat) (bs : List Byte) (h : Memory.wf s) : Memory.wf (s.store a bs) :=
  storeBytes_wf a bs h

theorem get_storeBytes_other (m : Tab Byte) (a : Nat) (bs : List Byte) {b : Nat} (h : b < a ∨ a + bs.length ≤ b) :
    Tab.get memDefault (storeBytes m a bs) b = Tab.get memDefault m b := by
  induction bs generalizing m a with
  | nil => rfl
  | cons x bs ih =>
    simp only [List.length_cons] at h
    rw [storeBytes, ih _ _ (by omega), Tab.get_set_other _ _ _ (by omega)]

/-- Every byte outside the written ones reads as before. -/
theorem State.byteAt_store_other (s : State) (a : Nat) (bs : List Byte) {b : Nat} (h : b < a ∨ a + bs.length ≤ b) :
    (s.store a bs).byteAt b = s.byteAt b := get_storeBytes_other _ _ _ h

theorem get_storeBytes_same (m : Tab Byte) (a : Nat) (bs : List Byte) (i : Nat) (h : i < bs.length) :
    Tab.get memDefault (storeBytes m a bs) (a + i) = bs[i] := by
  induction bs generalizing m a i with
  | nil => simp at h
  | cons x bs ih =>
    cases i with
    | zero => rw [storeBytes, get_storeBytes_other _ _ _ (by omega)]; simp
    | succ i =>
      have := ih (Tab.set memDefault m a x) (a + 1) i (by simpa using h)
      rw [storeBytes, show a + (i + 1) = a + 1 + i by omega, this]; simp

/-- A written byte reads as it was written. -/
theorem State.byteAt_store_same (s : State) (a : Nat) (bs : List Byte) (i : Nat) (h : i < bs.length) :
    (s.store a bs).byteAt (a + i) = bs[i] := get_storeBytes_same _ _ _ _ h

theorem reset_wf : Memory.wf State.reset := by decide

end Sys2Proof.Machine
end

