-- ==== Sys2Proof/Laws/PerInstr.lean ====
section
/-! SUPPORT. Per command: the word of a ladle instruction fits in 32 bits, and a command that is no ladle instruction has no word. -/

namespace Sys2Proof.Laws.WordFits

/-- Whatever word a command has, it has 32 bits. -/
def Statement (i : Instr) : Prop := ∀ w, ladleWord i = some w → w < 2 ^ 32

theorem bit (b : Bool) : b.toNat ≤ 1 := by cases b <;> decide


theorem powerOnReset (widthNs : Nat) : Statement (.powerOnReset widthNs) := fun _ h => nomatch h

theorem pinReset (widthNs : Nat) : Statement (.pinReset widthNs) := fun _ h => nomatch h

theorem resetRelease  : Statement .resetRelease := fun _ h => nomatch h

theorem crystalStable  : Statement .crystalStable := fun _ h => nomatch h

theorem firmwareRunning  : Statement .firmwareRunning := fun _ h => nomatch h

theorem synthInitialLock  : Statement .synthInitialLock := fun _ h => nomatch h

theorem hbmInitComplete (repaired : List Nat) : Statement (.hbmInitComplete repaired) := fun _ h => nomatch h

theorem dictionaryReady  : Statement .dictionaryReady := fun _ h => nomatch h

theorem pcieConfigRequest  : Statement .pcieConfigRequest := fun _ h => nomatch h

theorem bootRestart (m : Master) : Statement (.bootRestart m) := fun _ h => nomatch h

theorem requestInit (m : Master) : Statement (.requestInit m) := fun _ h => nomatch h

theorem requestPreop (m : Master) : Statement (.requestPreop m) := fun _ h => nomatch h

theorem requestBoot (m : Master) : Statement (.requestBoot m) := fun _ h => nomatch h

theorem requestSafeop (m : Master) : Statement (.requestSafeop m) := fun _ h => nomatch h

theorem dataPathStart  : Statement .dataPathStart := fun _ h => nomatch h

theorem requestOp (m : Master) : Statement (.requestOp m) := fun _ h => nomatch h

theorem blockStateStop (b : BlockId) : Statement (.blockStateStop b) := fun _ h => nomatch h

theorem sm2WatchdogExpiry  : Statement .sm2WatchdogExpiry := fun _ h => nomatch h

theorem rxpdoCycle (data : List Byte) : Statement (.rxpdoCycle data) := fun _ h => nomatch h

theorem txpdoCycle  : Statement .txpdoCycle := fun _ h => nomatch h

theorem dcSync0 (dcTimeNs : U64) : Statement (.dcSync0 dcTimeNs) := fun _ h => nomatch h

theorem siiRead (addr : U16) : Statement (.siiRead addr) := fun _ h => nomatch h

theorem sdoUpload (m : Master) (key : Key) (complete : Bool) : Statement (.sdoUpload m key complete) := fun _ h => nomatch h

theorem sdoDownload (m : Master) (key : Key) (v : Val) (complete : Bool) : Statement (.sdoDownload m key v complete) := fun _ h => nomatch h

theorem sdoInformation (m : Master) (q : InfoQuery) : Statement (.sdoInformation m q) := fun _ h => nomatch h

theorem foeFirmwareDownload (img : FwImage) : Statement (.foeFirmwareDownload img) := fun _ h => nomatch h

theorem registerWrite (r : Requester) (key : Key) (v : Val) : Statement (.registerWrite r key v) := fun _ h => nomatch h

theorem widePartStage (r : Requester) (key : Key) (upperSlot : Bool) (h : Half) (v : U64) : Statement (.widePartStage r key upperSlot h v) := fun _ h => nomatch h

theorem wideLowestWrite (r : Requester) (key : Key) (h : Half) (v : U64) : Statement (.wideLowestWrite r key h v) := fun _ h => nomatch h

theorem snapshotLatchRead (r : Requester) (key : Key) (h : Half) : Statement (.snapshotLatchRead r key h) := fun _ h => nomatch h

theorem snapshotPartRead (r : Requester) (key : Key) (upperSlot : Bool) (h : Half) : Statement (.snapshotPartRead r key upperSlot h) := fun _ h => nomatch h

theorem bar0UnmappedAccess (write : Bool) (offset size : Nat) : Statement (.bar0UnmappedAccess write offset size) := fun _ h => nomatch h

theorem bar0MalformedAccess (write : Bool) (offset size : Nat) : Statement (.bar0MalformedAccess write offset size) := fun _ h => nomatch h

theorem bar0MultislotTlp (offset : Nat) (op : TlpOp) : Statement (.bar0MultislotTlp offset op) := fun _ h => nomatch h

theorem clearAccessErrors (r : Requester) : Statement (.clearAccessErrors r) := fun _ h => nomatch h

theorem mailboxDoorbell  : Statement .mailboxDoorbell := fun _ h => nomatch h

theorem mailboxResponseComplete  : Statement .mailboxResponseComplete := fun _ h => nomatch h

theorem commitExecute (r : Requester) : Statement (.commitExecute r) := fun _ h => nomatch h

theorem commitToggle (r : Requester) (v : Byte) : Statement (.commitToggle r v) := fun _ h => nomatch h

theorem commitValidationEnd  : Statement .commitValidationEnd := fun _ h => nomatch h

theorem pourBecomesCurrent  : Statement .pourBecomesCurrent := fun _ h => nomatch h

theorem blockPourSwitch (b : BlockId) (boundary : T96) (inputPour : U32) : Statement (.blockPourSwitch b boundary inputPour) := fun _ h => nomatch h

theorem discardPending (r : Requester) : Statement (.discardPending r) := fun _ h => nomatch h

theorem pendingQuery (r : Requester) (v : U32) : Statement (.pendingQuery r v) := fun _ h => nomatch h

theorem emergencyRead  : Statement .emergencyRead := fun _ h => nomatch h

theorem emergencyMailboxRead  : Statement .emergencyMailboxRead := fun _ h => nomatch h

theorem firmwareImageWrite (img : FwImage) : Statement (.firmwareImageWrite img) := fun _ h => nomatch h

theorem firmwareVerifyComplete  : Statement .firmwareVerifyComplete := fun _ h => nomatch h

theorem jtagBoundaryScan (ir : JtagInstr) : Statement (.jtagBoundaryScan ir) := fun _ h => nomatch h

theorem refinQualified (freq : Fin 3) (offset : Int) : Statement (.refinQualified freq offset) := fun _ h => nomatch h

theorem refinLoss  : Statement .refinLoss := fun _ h => nomatch h

theorem returnToRefin (r : Requester) : Statement (.returnToRefin r) := fun _ h => nomatch h

theorem returnModeWrite (r : Requester) (v : Byte) : Statement (.returnModeWrite r v) := fun _ h => nomatch h

theorem synthLossOfLock (syn : Synth) : Statement (.synthLossOfLock syn) := fun _ h => nomatch h

theorem referenceEventRestart  : Statement .referenceEventRestart := fun _ h => nomatch h

theorem trimWrite (r : Requester) (v : U32) : Statement (.trimWrite r v) := fun _ h => nomatch h

theorem retuneStart  : Statement .retuneStart := fun _ h => nomatch h

theorem retuneAcquired  : Statement .retuneAcquired := fun _ h => nomatch h

theorem alignRampStep (loop : Fin 9) : Statement (.alignRampStep loop) := fun _ h => nomatch h

theorem clkoutEnable (r : Requester) (n : Fin 4) : Statement (.clkoutEnable r n) := fun _ h => nomatch h

theorem clkoutDisable (r : Requester) (n : Fin 4) : Statement (.clkoutDisable r n) := fun _ h => nomatch h

theorem ppsinEdge (t : T96) (falling : Bool) : Statement (.ppsinEdge t falling) := fun _ h => nomatch h

theorem ppsinLoss  : Statement .ppsinLoss := fun _ h => nomatch h

theorem timeSourceLoss  : Statement .timeSourceLoss := fun _ h => nomatch h

theorem holdoverLimitExpiry  : Statement .holdoverLimitExpiry := fun _ h => nomatch h

theorem ppsSecondWrite (r : Requester) (v : U64) : Statement (.ppsSecondWrite r v) := fun _ h => nomatch h

theorem setTimeWrite (r : Requester) (v : T96) : Statement (.setTimeWrite r v) := fun _ h => nomatch h

theorem ptpSyncReceived (port : Fin 2) (hdr : PtpHeader) (t1 t2 : T96) (correction : Int) : Statement (.ptpSyncReceived port hdr t1 t2 correction) := fun _ h => nomatch h

theorem ptpAnnounceReceived (port : Fin 2) (hdr : PtpHeader) (ann : Announce) : Statement (.ptpAnnounceReceived port hdr ann) := fun _ h => nomatch h

theorem ptpDelayResponse (port : Fin 2) (hdr : PtpHeader) (peer : Bool) (t1 t2 t3 t4 : T96) : Statement (.ptpDelayResponse port hdr peer t1 t2 t3 t4) := fun _ h => nomatch h

theorem syncAlign (r : Requester) : Statement (.syncAlign r) := fun _ h => nomatch h

theorem syncAlignComplete (stamps : List T96) : Statement (.syncAlignComplete stamps) := fun _ h => nomatch h

theorem syncinEdge (t : T96) : Statement (.syncinEdge t) := fun _ h => nomatch h

theorem syncoutPulse (index : U64) : Statement (.syncoutPulse index) := fun _ h => nomatch h

theorem overloadExcursion (c : Ch) (negative : Bool) (peak : Int) (first last : U64) (full : Option U64) (durationPs : Nat) : Statement (.overloadExcursion c negative peak first last full durationPs) := fun _ h => nomatch h

theorem conditionerFrame (c : Ch) (samples : List RawSample) : Statement (.conditionerFrame c samples) := fun _ h => nomatch h

theorem converterRiserWarning (c : Ch) : Statement (.converterRiserWarning c) := fun _ h => nomatch h

theorem converterRiserOverflow (c : Ch) : Statement (.converterRiserOverflow c) := fun _ h => nomatch h

theorem converterRiserResume (c : Ch) (slow : Option (Fin 17)) : Statement (.converterRiserResume c slow) := fun _ h => nomatch h

theorem bgCalWindowStart (c : Ch) : Statement (.bgCalWindowStart c) := fun _ h => nomatch h

theorem bgCalWindowEnd (c : Ch) (pairs : List GatherPair) (level : Int) : Statement (.bgCalWindowEnd c pairs level) := fun _ h => nomatch h

theorem bgCalEstimateApply (c : Ch) : Statement (.bgCalEstimateApply c) := fun _ h => nomatch h

theorem fgCalStart (c : Ch) : Statement (.fgCalStart c) := fun _ h => nomatch h

theorem fgCalSettled (c : Ch) (level : Int) : Statement (.fgCalSettled c level) := fun _ h => nomatch h

theorem fgCalWindowEnd (c : Ch) (level : Int) : Statement (.fgCalWindowEnd c level) := fun _ h => nomatch h

theorem fgCalComplete (c : Ch) (cal : CalData) : Statement (.fgCalComplete c cal) := fun _ h => nomatch h

theorem fgCalResume (c : Ch) : Statement (.fgCalResume c) := fun _ h => nomatch h

theorem calSetImport (r : Requester) (c : Ch) (image : List Byte) : Statement (.calSetImport r c image) := fun _ h => nomatch h

theorem sliceSpareTakeover (c : Ch) : Statement (.sliceSpareTakeover c) := fun _ h => nomatch h

theorem comparatorSpareTakeover (c : Ch) : Statement (.comparatorSpareTakeover c) := fun _ h => nomatch h

theorem ddcOutput (c : Ch) (k : DdcIx) : Statement (.ddcOutput c k) := fun _ h => nomatch h

theorem ddcSyncReset (c : Ch) (k : DdcIx) : Statement (.ddcSyncReset c k) := fun _ h => nomatch h

theorem ddcFadeStart (c : Ch) (k : DdcIx) : Statement (.ddcFadeStart c k) := fun _ h => nomatch h

theorem ddcFadeEnd (c : Ch) (k : DdcIx) : Statement (.ddcFadeEnd c k) := fun _ h => nomatch h

theorem ddcBankWrite (r : Requester) (c : Ch) (k : DdcIx) (bank : Bool) (image : List Byte) : Statement (.ddcBankWrite r c k bank image) := fun _ h => nomatch h

theorem mainFrame (c : Ch) (laneError : Option LaneError) (ecc : Ecc) : Statement (.mainFrame c laneError ecc) := fun _ h => nomatch h

theorem pass2Start (c : Ch) (laneError : Option LaneError) : Statement (.pass2Start c laneError) := fun _ h => nomatch h

theorem twoPassFrameComplete (c : Ch) (laneError : Option LaneError) : Statement (.twoPassFrameComplete c laneError) := fun _ h => nomatch h

theorem sideFrame (c : Ch) (side : Side) (laneError : Option LaneError) : Statement (.sideFrame c side laneError) := fun _ h => nomatch h

theorem laneSpareTakeover (c : Ch) : Statement (.laneSpareTakeover c) := fun _ h => nomatch h

theorem twoPassStopped (c : Ch) : Statement (.twoPassStopped c) := fun _ h => nomatch h

theorem twoPassResume (c : Ch) : Statement (.twoPassResume c) := fun _ h => nomatch h

theorem transformBankWrite (r : Requester) (bank : Bool) (image : List Byte) : Statement (.transformBankWrite r bank image) := fun _ h => nomatch h

theorem triggerEvaluation (u : UnitIx) : Statement (.triggerEvaluation u) := fun _ h => nomatch h

theorem triggerQualifierResolved (u : UnitIx) : Statement (.triggerQualifierResolved u) := fun _ h => nomatch h

theorem triggerSequenceResolved (u : UnitIx) : Statement (.triggerSequenceResolved u) := fun _ h => nomatch h

theorem monPulseStart (n : Fin 4) : Statement (.monPulseStart n) := fun _ h => nomatch h

theorem monPulseEnd (n : Fin 4) : Statement (.monPulseEnd n) := fun _ h => nomatch h

theorem densityAccumulate (c : Ch) : Statement (.densityAccumulate c) := fun _ h => nomatch h

theorem densityPeriodBoundary (c : Ch) : Statement (.densityPeriodBoundary c) := fun _ h => nomatch h

theorem densityDrainComplete (c : Ch) : Statement (.densityDrainComplete c) := fun _ h => nomatch h

theorem densityClear (r : Requester) (c : Ch) : Statement (.densityClear r c) := fun _ h => nomatch h

theorem densityRestart (c : Ch) : Statement (.densityRestart c) := fun _ h => nomatch h

theorem reductionFrame (c : Ch) (slot : Fin 6) : Statement (.reductionFrame c slot) := fun _ h => nomatch h

theorem captureArm (r : Requester) (c : Ch) : Statement (.captureArm r c) := fun _ h => nomatch h

theorem captureStop (r : Requester) (c : Ch) : Statement (.captureStop r c) := fun _ h => nomatch h

theorem captureAbort (r : Requester) (c : Ch) : Statement (.captureAbort r c) := fun _ h => nomatch h

theorem captureForceTrigger (r : Requester) (c : Ch) : Statement (.captureForceTrigger r c) := fun _ h => nomatch h

theorem captureRelease (r : Requester) (c : Ch) (seg : U32) : Statement (.captureRelease r c seg) := fun _ h => nomatch h

theorem captureDecision (c : Ch) : Statement (.captureDecision c) := fun _ h => nomatch h

theorem segmentClose (c : Ch) : Statement (.segmentClose c) := fun _ h => nomatch h

theorem tableCycleStart  : Statement .tableCycleStart := fun _ h => nomatch h

theorem hbmBurst (slot : Nat) (chan : Fin 64) (ecc : Ecc) : Statement (.hbmBurst slot chan ecc) := fun _ h => nomatch h

theorem hbmWriteRiserOverflow (q : Fin 4) (owner : Byte) : Statement (.hbmWriteRiserOverflow q owner) := fun _ h => nomatch h

theorem refreshDue (chan : Fin 64) (busy : Bool) : Statement (.refreshDue chan busy) := fun _ h => nomatch h

theorem refreshReserveSlot  : Statement .refreshReserveSlot := fun _ h => nomatch h

theorem trainingWindowStart (d : Fin 16) (tempMoved : Bool) : Statement (.trainingWindowStart d tempMoved) := fun _ h => nomatch h

theorem trainingWindowEnd (d : Fin 16) : Statement (.trainingWindowEnd d) := fun _ h => nomatch h

theorem patrolScrubRead (addr : BitVec 37) (ecc : Ecc) : Statement (.patrolScrubRead addr ecc) := fun _ h => nomatch h

theorem hbmFreqStepRequest (up : Bool) : Statement (.hbmFreqStepRequest up) := fun _ h => nomatch h

theorem hbmFreqSwitch  : Statement .hbmFreqSwitch := fun _ h => nomatch h

theorem hbmFreqStepComplete  : Statement .hbmFreqStepComplete := fun _ h => nomatch h

theorem sramWake (group : SramGroup) : Statement (.sramWake group) := fun _ h => nomatch h

theorem arbiterGrant (g : Fin 16) (res : Fin 18) (moved : Nat) (collision : Bool) : Statement (.arbiterGrant g res moved collision) := fun _ h => nomatch h

theorem ladleRequestWithdraw (l : LadleIx) (res : Fin 18) : Statement (.ladleRequestWithdraw l res) := fun _ h => nomatch h

theorem freezeMaskWrite (r : Requester) (g : Fin 16) (mask : U32) : Statement (.freezeMaskWrite r g mask) := fun _ h => nomatch h

theorem lockWatchdogExpiry (l : LadleIx) : Statement (.lockWatchdogExpiry l) := fun _ h => nomatch h

theorem tapEntryDelivery (l : LadleIx) (port : Fin 4) : Statement (.tapEntryDelivery l port) := fun _ h => nomatch h

theorem ladleImageWrite (r : Requester) (l : LadleIx) (image : List Byte) : Statement (.ladleImageWrite r l image) := fun _ h => nomatch h

theorem ladleWatchdogExpiry (l : LadleIx) : Statement (.ladleWatchdogExpiry l) := fun _ h => nomatch h

theorem ladleRestartComplete (l : LadleIx) : Statement (.ladleRestartComplete l) := fun _ h => nomatch h

theorem ladlePause (l : LadleIx) : Statement (.ladlePause l) := fun _ h => nomatch h

theorem nop (l : LadleIx) : Statement (.nop l) := by
  intro w h; cases h
  omega

theorem add (l : LadleIx) (d s t : DReg) : Statement (.add l d s t) := by
  intro w h; cases h
  have := d.isLt
  have := s.isLt
  have := t.isLt
  simp only [wordR]; omega

theorem sub (l : LadleIx) (d s t : DReg) : Statement (.sub l d s t) := by
  intro w h; cases h
  have := d.isLt
  have := s.isLt
  have := t.isLt
  simp only [wordR]; omega

theorem and (l : LadleIx) (d s t : DReg) : Statement (.and l d s t) := by
  intro w h; cases h
  have := d.isLt
  have := s.isLt
  have := t.isLt
  simp only [wordR]; omega

theorem or (l : LadleIx) (d s t : DReg) : Statement (.or l d s t) := by
  intro w h; cases h
  have := d.isLt
  have := s.isLt
  have := t.isLt
  simp only [wordR]; omega

theorem xor (l : LadleIx) (d s t : DReg) : Statement (.xor l d s t) := by
  intro w h; cases h
  have := d.isLt
  have := s.isLt
  have := t.isLt
  simp only [wordR]; omega

theorem shl (l : LadleIx) (d s t : DReg) : Statement (.shl l d s t) := by
  intro w h; cases h
  have := d.isLt
  have := s.isLt
  have := t.isLt
  simp only [wordR]; omega

theorem shr (l : LadleIx) (d s t : DReg) : Statement (.shr l d s t) := by
  intro w h; cases h
  have := d.isLt
  have := s.isLt
  have := t.isLt
  simp only [wordR]; omega

theorem sra (l : LadleIx) (d s t : DReg) : Statement (.sra l d s t) := by
  intro w h; cases h
  have := d.isLt
  have := s.isLt
  have := t.isLt
  simp only [wordR]; omega

theorem adds (l : LadleIx) (d s t : DReg) : Statement (.adds l d s t) := by
  intro w h; cases h
  have := d.isLt
  have := s.isLt
  have := t.isLt
  simp only [wordR]; omega

theorem subs (l : LadleIx) (d s t : DReg) : Statement (.subs l d s t) := by
  intro w h; cases h
  have := d.isLt
  have := s.isLt
  have := t.isLt
  simp only [wordR]; omega

theorem cmp (l : LadleIx) (s t : DReg) : Statement (.cmp l s t) := by
  intro w h; cases h
  have := s.isLt
  have := t.isLt
  simp only [wordR]; omega

theorem mul (l : LadleIx) (d s t : DReg) (u hs ht : Bool) : Statement (.mul l d s t u hs ht) := by
  intro w h; cases h
  have := d.isLt
  have := s.isLt
  have := t.isLt
  have := bit u
  have := bit hs
  have := bit ht
  simp only [wordR]; omega

theorem addi (l : LadleIx) (d s : DReg) (imm : BitVec 18) : Statement (.addi l d s imm) := by
  intro w h; cases h
  have := d.isLt
  have := s.isLt
  have := imm.isLt
  simp only [wordI]; omega

theorem andi (l : LadleIx) (d s : DReg) (imm : BitVec 18) : Statement (.andi l d s imm) := by
  intro w h; cases h
  have := d.isLt
  have := s.isLt
  have := imm.isLt
  simp only [wordI]; omega

theorem ori (l : LadleIx) (d s : DReg) (imm : BitVec 18) : Statement (.ori l d s imm) := by
  intro w h; cases h
  have := d.isLt
  have := s.isLt
  have := imm.isLt
  simp only [wordI]; omega

theorem xori (l : LadleIx) (d s : DReg) (imm : BitVec 18) : Statement (.xori l d s imm) := by
  intro w h; cases h
  have := d.isLt
  have := s.isLt
  have := imm.isLt
  simp only [wordI]; omega

theorem shli (l : LadleIx) (d s : DReg) (imm : BitVec 5) : Statement (.shli l d s imm) := by
  intro w h; cases h
  have := d.isLt
  have := s.isLt
  have := imm.isLt
  simp only [wordI]; omega

theorem shri (l : LadleIx) (d s : DReg) (imm : BitVec 5) : Statement (.shri l d s imm) := by
  intro w h; cases h
  have := d.isLt
  have := s.isLt
  have := imm.isLt
  simp only [wordI]; omega

theorem srai (l : LadleIx) (d s : DReg) (imm : BitVec 5) : Statement (.srai l d s imm) := by
  intro w h; cases h
  have := d.isLt
  have := s.isLt
  have := imm.isLt
  simp only [wordI]; omega

theorem cmpi (l : LadleIx) (s : DReg) (imm : BitVec 18) : Statement (.cmpi l s imm) := by
  intro w h; cases h
  have := s.isLt
  have := imm.isLt
  simp only [wordI]; omega

theorem movi (l : LadleIx) (d : DReg) (imm : BitVec 18) : Statement (.movi l d imm) := by
  intro w h; cases h
  have := d.isLt
  have := imm.isLt
  simp only [wordI]; omega

theorem lih (l : LadleIx) (d : DReg) (imm : BitVec 16) : Statement (.lih l d imm) := by
  intro w h; cases h
  have := d.isLt
  have := imm.isLt
  simp only [wordI]; omega

theorem mova (l : LadleIx) (a : AReg) (s : DReg) : Statement (.mova l a s) := by
  intro w h; cases h
  have := a.isLt
  have := s.isLt
  simp only [wordI]; omega

theorem adda (l : LadleIx) (a : AReg) (imm : BitVec 18) : Statement (.adda l a imm) := by
  intro w h; cases h
  have := a.isLt
  have := imm.isLt
  simp only [wordI]; omega

theorem movd (l : LadleIx) (d : DReg) (a : AReg) : Statement (.movd l d a) := by
  intro w h; cases h
  have := d.isLt
  have := a.isLt
  simp only [wordI]; omega

theorem mfs (l : LadleIx) (d : DReg) (code : BitVec 6) : Statement (.mfs l d code) := by
  intro w h; cases h
  have := d.isLt
  have := code.isLt
  simp only [wordI]; omega

theorem mts (l : LadleIx) (code : BitVec 6) (s : DReg) : Statement (.mts l code s) := by
  intro w h; cases h
  have := code.isLt
  have := s.isLt
  simp only [wordI]; omega

theorem mac (l : LadleIx) (k : Bool) (s t : DReg) (hs ht u f : Bool) : Statement (.mac l k s t hs ht u f) := by
  intro w h; cases h
  have := bit k
  have := s.isLt
  have := t.isLt
  have := bit hs
  have := bit ht
  have := bit u
  have := bit f
  simp only [wordA]; omega

theorem msu (l : LadleIx) (k : Bool) (s t : DReg) (hs ht u f : Bool) : Statement (.msu l k s t hs ht u f) := by
  intro w h; cases h
  have := bit k
  have := s.isLt
  have := t.isLt
  have := bit hs
  have := bit ht
  have := bit u
  have := bit f
  simp only [wordA]; omega

theorem mpa (l : LadleIx) (k : Bool) (s t : DReg) (hs ht u f : Bool) : Statement (.mpa l k s t hs ht u f) := by
  intro w h; cases h
  have := bit k
  have := s.isLt
  have := t.isLt
  have := bit hs
  have := bit ht
  have := bit u
  have := bit f
  simp only [wordA]; omega

theorem clra (l : LadleIx) (k : Bool) : Statement (.clra l k) := by
  intro w h; cases h
  have := bit k
  omega

theorem ext (l : LadleIx) (k : Bool) (d : DReg) (sh : BitVec 6) (r : Bool) : Statement (.ext l k d sh r) := by
  intro w h; cases h
  have := bit k
  have := d.isLt
  have := sh.isLt
  have := bit r
  omega

theorem ld (l : LadleIx) (m : MemForm) (ecc : Ecc) : Statement (.ld l m ecc) := by
  intro w h; cases h
  have := m.r.isLt
  have := m.a.isLt
  have := m.size.isLt
  have := bit m.x
  have := bit m.p
  have := m.m.isLt
  simp only [wordM]; omega

theorem sd (l : LadleIx) (m : MemForm) : Statement (.sd l m) := by
  intro w h; cases h
  have := m.r.isLt
  have := m.a.isLt
  have := m.size.isLt
  have := bit m.x
  have := bit m.p
  have := m.m.isLt
  simp only [wordM]; omega

theorem xf (l : LadleIx) (dir : Bool) (ad ac : AReg) (n : BitVec 6) (p : Bool) (ecc : List Ecc) : Statement (.xf l dir ad ac n p ecc) := by
  intro w h; cases h
  have := bit dir
  have := ad.isLt
  have := ac.isLt
  have := n.isLt
  have := bit p
  omega

theorem max (l : LadleIx) (s t : DReg) (u e : Bool) : Statement (.max l s t u e) := by
  intro w h; cases h
  have := s.isLt
  have := t.isLt
  have := bit u
  have := bit e
  simp only [wordR]; omega

theorem min (l : LadleIx) (s t : DReg) (u e : Bool) : Statement (.min l s t u e) := by
  intro w h; cases h
  have := s.isLt
  have := t.isLt
  have := bit u
  have := bit e
  simp only [wordR]; omega

theorem b (l : LadleIx) (cond : BitVec 4) (target : BitVec 13) : Statement (.b l cond target) := by
  intro w h; cases h
  have := cond.isLt
  have := target.isLt
  omega

theorem call (l : LadleIx) (target : BitVec 13) : Statement (.call l target) := by
  intro w h; cases h
  have := target.isLt
  omega

theorem jr (l : LadleIx) (s : DReg) : Statement (.jr l s) := by
  intro w h; cases h
  have := s.isLt
  simp only [wordR]; omega

theorem reti (l : LadleIx) : Statement (.reti l) := by
  intro w h; cases h
  omega

theorem loop (l : LadleIx) (endIx count : BitVec 13) : Statement (.loop l endIx count) := by
  intro w h; cases h
  have := endIx.isLt
  have := count.isLt
  omega

theorem loopr (l : LadleIx) (endIx : BitVec 13) (s : DReg) : Statement (.loopr l endIx s) := by
  intro w h; cases h
  have := endIx.isLt
  have := s.isLt
  omega

theorem endl (l : LadleIx) : Statement (.endl l) := by
  intro w h; cases h
  omega

theorem wait (l : LadleIx) (d : DReg) (mask : BitVec 4) : Statement (.wait l d mask) := by
  intro w h; cases h
  have := d.isLt
  have := mask.isLt
  omega

theorem waitWake (l : LadleIx) : Statement (.waitWake l) := fun _ h => nomatch h

theorem kick (l : LadleIx) : Statement (.kick l) := by
  intro w h; cases h
  omega

theorem lock (l : LadleIx) (r : BitVec 5) : Statement (.lock l r) := by
  intro w h; cases h
  have := r.isLt
  omega

theorem unlk (l : LadleIx) : Statement (.unlk l) := by
  intro w h; cases h
  omega

theorem pub (l : LadleIx) (slot ap at' : Fin 8) (s : DReg) : Statement (.pub l slot ap at' s) := by
  intro w h; cases h
  have := slot.isLt
  have := ap.isLt
  have := at'.isLt
  have := s.isLt
  omega

theorem mvh (l : LadleIx) (dir : Bool) (al : AReg) (sh sn : DReg) : Statement (.mvh l dir al sh sn) := by
  intro w h; cases h
  have := bit dir
  have := al.isLt
  have := sh.isLt
  have := sn.isLt
  omega

theorem mvwait (l : LadleIx) : Statement (.mvwait l) := by
  intro w h; cases h
  omega

theorem trap (l : LadleIx) (imm : BitVec 16) : Statement (.trap l imm) := by
  intro w h; cases h
  have := imm.isLt
  omega

theorem illegalInstruction (l : LadleIx) : Statement (.illegalInstruction l) := fun _ h => nomatch h

theorem inputInterrupt (l : LadleIx) : Statement (.inputInterrupt l) := fun _ h => nomatch h

theorem moverTransferComplete (l : LadleIx) (bad : Option Nat) : Statement (.moverTransferComplete l bad) := fun _ h => nomatch h

theorem eventEdge (n : Fin 8) (falling : Bool) (coarse : U64) (fine : Fin 384) : Statement (.eventEdge n falling coarse fine) := fun _ h => nomatch h

theorem gateEdge (rising : Bool) (coarse : U64) (fine : Fin 384) : Statement (.gateEdge rising coarse fine) := fun _ h => nomatch h

theorem gateWindowTimer (opening : Bool) : Statement (.gateWindowTimer opening) := fun _ h => nomatch h

theorem eventRiserOverflow (n : Fin 8) : Statement (.eventRiserOverflow n) := fun _ h => nomatch h

theorem stampRecordFlush (n : Fin 8) : Statement (.stampRecordFlush n) := fun _ h => nomatch h

theorem muEventDecide (u : Fin 4) : Statement (.muEventDecide u) := fun _ h => nomatch h

theorem interpCalStart (input : Fin 9) : Statement (.interpCalStart input) := fun _ h => nomatch h

theorem interpCalComplete (input : Fin 9) (hits : List Nat) : Statement (.interpCalComplete input hits) := fun _ h => nomatch h

theorem calibrateNow (r : Requester) (mask : U16) : Statement (.calibrateNow r mask) := fun _ h => nomatch h

theorem runnerCreateRecord (r : Requester) (image : List Byte) : Statement (.runnerCreateRecord r image) := fun _ h => nomatch h

theorem runnerCreateDescriptor (r : Requester) (image : List Byte) : Statement (.runnerCreateDescriptor r image) := fun _ h => nomatch h

theorem runnerDestroy (r : Requester) (image : List Byte) : Statement (.runnerDestroy r image) := fun _ h => nomatch h

theorem runnerEnable (r : Requester) (runner : RunnerIx) : Statement (.runnerEnable r runner) := fun _ h => nomatch h

theorem runnerStop (r : Requester) (runner : RunnerIx) : Statement (.runnerStop r runner) := fun _ h => nomatch h

theorem runnerAbort (r : Requester) (runner : RunnerIx) : Statement (.runnerAbort r runner) := fun _ h => nomatch h

theorem recordWrite (runner : RunnerIx) (rec : Record) (spanEnd : T96) : Statement (.recordWrite runner rec spanEnd) := fun _ h => nomatch h

theorem recordForwarded (runner : RunnerIx) (bad : Bool) : Statement (.recordForwarded runner bad) := fun _ h => nomatch h

theorem hostRingRelease (runner : RunnerIx) (v : U32) : Statement (.hostRingRelease runner v) := fun _ h => nomatch h

theorem descriptorDoorbell (runner : RunnerIx) (v : U32) : Statement (.descriptorDoorbell runner v) := fun _ h => nomatch h

theorem descriptorFetch (runner : RunnerIx) (hostBytes : List Byte) : Statement (.descriptorFetch runner hostBytes) := fun _ h => nomatch h

theorem dmaBurst (runner : RunnerIx) (failed : List (Fin 32)) (residueError : Bool) : Statement (.dmaBurst runner failed residueError) := fun _ h => nomatch h

theorem dmaReadCompletion (runner : RunnerIx) (data : List Byte) (status : BeatStatus) (failed : List (Fin 32)) : Statement (.dmaReadCompletion runner data status failed) := fun _ h => nomatch h

theorem descriptorComplete (runner : RunnerIx) : Statement (.descriptorComplete runner) := fun _ h => nomatch h

theorem atsTranslationCompletion (runner : RunnerIx) (page : U64) (answer : AtsAnswer) : Statement (.atsTranslationCompletion runner page answer) := fun _ h => nomatch h

theorem atsInvalidation (page : U64) : Statement (.atsInvalidation page) := fun _ h => nomatch h

theorem priPageResponse (runner : RunnerIx) (answer : PageResponse) : Statement (.priPageResponse runner answer) := fun _ h => nomatch h

theorem pageRequestTimeout (runner : RunnerIx) : Statement (.pageRequestTimeout runner) := fun _ h => nomatch h

theorem msixModerationTimer (runner : RunnerIx) : Statement (.msixModerationTimer runner) := fun _ h => nomatch h

theorem msixUnmask (vector : BitVec 11) : Statement (.msixUnmask vector) := fun _ h => nomatch h

theorem storeFormat (r : Requester) (mask : Byte) : Statement (.storeFormat r mask) := fun _ h => nomatch h

theorem storLinkUp (d : Fin 8) (gen width : Byte) : Statement (.storLinkUp d gen width) := fun _ h => nomatch h

theorem driveEnumerated (d : Fin 8) (info : DriveInfo) : Statement (.driveEnumerated d info) := fun _ h => nomatch h

theorem driveReadyTimeout (d : Fin 8) : Statement (.driveReadyTimeout d) := fun _ h => nomatch h

theorem storeRecoveryComplete (tails : List StreamTail) (badCatalogue : Bool) : Statement (.storeRecoveryComplete tails badCatalogue) := fun _ h => nomatch h

theorem chunkFlushTimer (s : Fin 32) : Statement (.chunkFlushTimer s) := fun _ h => nomatch h

theorem chunkAppend (s : Fin 32) : Statement (.chunkAppend s) := fun _ h => nomatch h

theorem appendComplete (d : Fin 8) (lba : U64) (status : AppendStatus) : Statement (.appendComplete d lba status) := fun _ h => nomatch h

theorem appendTimeout (d : Fin 8) : Statement (.appendTimeout d) := fun _ h => nomatch h

theorem journalBlockAppend  : Statement .journalBlockAppend := fun _ h => nomatch h

theorem journalBlockDurable  : Statement .journalBlockDurable := fun _ h => nomatch h

theorem catalogueWrite  : Statement .catalogueWrite := fun _ h => nomatch h

theorem zoneStateReport (d : Fin 8) (zone : Nat) (rep : ZoneReport) : Statement (.zoneStateReport d zone rep) := fun _ h => nomatch h

theorem storLinkLoss (d : Fin 8) : Statement (.storLinkLoss d) := fun _ h => nomatch h

theorem wearPoll (d : Fin 8) (used spare spareThreshold : Byte) (mediaErrors : U64) : Statement (.wearPoll d used spare spareThreshold mediaErrors) := fun _ h => nomatch h

theorem scrubChunkRead (d : Fin 8) (chunk : U64) (result : ScrubResult) : Statement (.scrubChunkRead d chunk result) := fun _ h => nomatch h

theorem replayStart (r : Requester) (i : Fin 8) : Statement (.replayStart r i) := fun _ h => nomatch h

theorem replayStop (r : Requester) (i : Fin 8) : Statement (.replayStop r i) := fun _ h => nomatch h

theorem replayRecordDeliver (i : Fin 8) (read : ScrubResult) : Statement (.replayRecordDeliver i read) := fun _ h => nomatch h

theorem modulePoll (p : Fin 2) (module' : ModuleState) (temperature power : BitVec 16) : Statement (.modulePoll p module' temperature power) := fun _ h => nomatch h

theorem ethLinkUp (p : Fin 2) : Statement (.ethLinkUp p) := fun _ h => nomatch h

theorem ethLinkLoss (p : Fin 2) : Statement (.ethLinkLoss p) := fun _ h => nomatch h

theorem ethFrameReceived (p : Fin 2) (rx : EthRx) (bytes : Nat) (fcsBad : Bool) : Statement (.ethFrameReceived p rx bytes fcsBad) := fun _ h => nomatch h

theorem pauseReceived (p : Fin 2) (pfc : Bool) (mask : Byte) : Statement (.pauseReceived p pfc mask) := fun _ h => nomatch h

theorem pauseExpiry (p : Fin 2) (mask : Byte) : Statement (.pauseExpiry p mask) := fun _ h => nomatch h

theorem addressResolutionRetry (t : Fin 32) : Statement (.addressResolutionRetry t) := fun _ h => nomatch h

theorem addressResolved (t : Fin 32) (mac : U64) : Statement (.addressResolved t mac) := fun _ h => nomatch h

theorem streamPacketSend (t : Fin 32) : Statement (.streamPacketSend t) := fun _ h => nomatch h

theorem vdifFrameSend (t : Fin 32) : Statement (.vdifFrameSend t) := fun _ h => nomatch h

theorem vitaDataPacket (t : Fin 32) : Statement (.vitaDataPacket t) := fun _ h => nomatch h

theorem functionLevelReset  : Statement .functionLevelReset := fun _ h => nomatch h

theorem hostLinkLoss  : Statement .hostLinkLoss := fun _ h => nomatch h

theorem monitorStateChange (m : Fin 16) (v : Int) : Statement (.monitorStateChange m v) := fun _ h => nomatch h

theorem monitorLatchClear (r : Requester) (m : Fin 16) : Statement (.monitorLatchClear r m) := fun _ h => nomatch h

theorem alertAcknowledge (r : Requester) : Statement (.alertAcknowledge r) := fun _ h => nomatch h

theorem hkGroupStart (r : Requester) (mask : Byte) : Statement (.hkGroupStart r mask) := fun _ h => nomatch h

theorem hkReferenceSettled  : Statement .hkReferenceSettled := fun _ h => nomatch h

theorem hkLowpowerWake (group : Fin 4) : Statement (.hkLowpowerWake group) := fun _ h => nomatch h

theorem hkResult (k : Fin 12) (v : Int) : Statement (.hkResult k v) := fun _ h => nomatch h

theorem sentinelWindowEnd (rates : List Nat) : Statement (.sentinelWindowEnd rates) := fun _ h => nomatch h

theorem supplyComparatorCrossing (die : Fin 2) (mv : Nat) : Statement (.supplyComparatorCrossing die mv) := fun _ h => nomatch h

theorem quenchSettleExpiry  : Statement .quenchSettleExpiry := fun _ h => nomatch h

theorem quenchStepInterval  : Statement .quenchStepInterval := fun _ h => nomatch h

theorem controlledResetCondition (cond : ResetCondition) : Statement (.controlledResetCondition cond) := fun _ h => nomatch h

theorem controlledResetAssert (committed : Bool) : Statement (.controlledResetAssert committed) := fun _ h => nomatch h

theorem faultEvent (cls : FaultClass) (element : U64) : Statement (.faultEvent cls element) := fun _ h => nomatch h

theorem trimSlewStep (dt : T96) : Statement (.trimSlewStep dt) := fun _ h => nomatch h

theorem interpolatorSwitchover (input : Fin 9) : Statement (.interpolatorSwitchover input) := fun _ h => nomatch h

theorem lockfPwmPeriod  : Statement .lockfPwmPeriod := fun _ h => nomatch h

theorem hostLinkUp (gen log2width : Byte) (flit : Bool) : Statement (.hostLinkUp gen log2width flit) := fun _ h => nomatch h

theorem completionTimeout (runner : RunnerIx) : Statement (.completionTimeout runner) := fun _ h => nomatch h

theorem absentEntryRead (r : Requester) (key : Key) : Statement (.absentEntryRead r key) := fun _ h => nomatch h

theorem bar2InvalidAccess (write : Bool) (offset size : Nat) (v : U64) : Statement (.bar2InvalidAccess write offset size v) := fun _ h => nomatch h

theorem periodicSnapshotUpdate (group : PeriodicGroup) : Statement (.periodicSnapshotUpdate group) := fun _ h => nomatch h

end Sys2Proof.Laws.WordFits
end

