-- ==== Sys2Proof/Laws/Runners.lean ====
section
/-! SUPPORT. What the operations over runners, and what producers do through them, leave alone; HBM keeps its canonical form through
each of them. -/

namespace Sys2Proof.Machine

variable (s : State)

/-! ### What the operations leave alone -/

@[simp] theorem State.queueBursts_frame (o c a n : Nat) (w : Bool) :
    (s.queueBursts o c a n w).pending = s.pending ∧ (s.queueBursts o c a n w).od = s.od ∧ (s.queueBursts o c a n w).live = s.live ∧
    (s.queueBursts o c a n w).mem = s.mem ∧ (s.queueBursts o c a n w).out = s.out ∧ (s.queueBursts o c a n w).ctl = s.ctl ∧
    (s.queueBursts o c a n w).flt = s.flt ∧ (s.queueBursts o c a n w).clk = s.clk ∧ (s.queueBursts o c a n w).dma = s.dma ∧
    (s.queueBursts o c a n w).chans = s.chans ∧ (s.queueBursts o c a n w).ddcs = s.ddcs ∧ (s.queueBursts o c a n w).xfs = s.xfs ∧
    (s.queueBursts o c a n w).trigs = s.trigs ∧ (s.queueBursts o c a n w).mons = s.mons ∧ (s.queueBursts o c a n w).dens = s.dens ∧
    (s.queueBursts o c a n w).reds = s.reds ∧ (s.queueBursts o c a n w).envs = s.envs ∧ (s.queueBursts o c a n w).caps = s.caps ∧
    (s.queueBursts o c a n w).ladles = s.ladles ∧ (s.queueBursts o c a n w).clusters = s.clusters ∧ (s.queueBursts o c a n w).tapSeq = s.tapSeq ∧
    (s.queueBursts o c a n w).tiu = s.tiu ∧ (s.queueBursts o c a n w).sto = s.sto ∧ (s.queueBursts o c a n w).net = s.net ∧
    (s.queueBursts o c a n w).hea = s.hea :=
  ⟨rfl, rfl, rfl, rfl, rfl, rfl, rfl, rfl, rfl, rfl, rfl, rfl, rfl, rfl, rfl, rfl, rfl, rfl, rfl, rfl, rfl, rfl, rfl, rfl, rfl⟩

@[simp] theorem State.writeSlot_frame (n : Nat) (b : List Byte) :
    (s.writeSlot n b).pending = s.pending ∧ (s.writeSlot n b).live = s.live ∧ (s.writeSlot n b).out = s.out ∧
    (s.writeSlot n b).ctl = s.ctl ∧ (s.writeSlot n b).flt = s.flt ∧ (s.writeSlot n b).clk = s.clk ∧
    (s.writeSlot n b).chans = s.chans ∧ (s.writeSlot n b).ddcs = s.ddcs ∧ (s.writeSlot n b).xfs = s.xfs ∧
    (s.writeSlot n b).trigs = s.trigs ∧ (s.writeSlot n b).mons = s.mons ∧ (s.writeSlot n b).dens = s.dens ∧
    (s.writeSlot n b).reds = s.reds ∧ (s.writeSlot n b).envs = s.envs ∧ (s.writeSlot n b).caps = s.caps ∧
    (s.writeSlot n b).ladles = s.ladles ∧ (s.writeSlot n b).clusters = s.clusters ∧ (s.writeSlot n b).tapSeq = s.tapSeq ∧
    (s.writeSlot n b).tiu = s.tiu ∧ (s.writeSlot n b).sto = s.sto ∧ (s.writeSlot n b).net = s.net ∧
    (s.writeSlot n b).hea = s.hea :=
  by unfold State.writeSlot; simp

@[simp] theorem State.flushDropped_frame (n : Nat) :
    (s.flushDropped n).pending = s.pending ∧ (s.flushDropped n).live = s.live ∧ (s.flushDropped n).out = s.out ∧
    (s.flushDropped n).ctl = s.ctl ∧ (s.flushDropped n).flt = s.flt ∧ (s.flushDropped n).clk = s.clk ∧
    (s.flushDropped n).chans = s.chans ∧ (s.flushDropped n).ddcs = s.ddcs ∧ (s.flushDropped n).xfs = s.xfs ∧
    (s.flushDropped n).trigs = s.trigs ∧ (s.flushDropped n).mons = s.mons ∧ (s.flushDropped n).dens = s.dens ∧
    (s.flushDropped n).reds = s.reds ∧ (s.flushDropped n).envs = s.envs ∧ (s.flushDropped n).caps = s.caps ∧
    (s.flushDropped n).ladles = s.ladles ∧ (s.flushDropped n).clusters = s.clusters ∧ (s.flushDropped n).tapSeq = s.tapSeq ∧
    (s.flushDropped n).tiu = s.tiu ∧ (s.flushDropped n).sto = s.sto ∧ (s.flushDropped n).net = s.net ∧
    (s.flushDropped n).hea = s.hea :=
  by
  unfold State.flushDropped; dsimp only; split
  · simp
  · split <;> simp

@[simp] theorem State.flushStop_frame (n : Nat) :
    (s.flushStop n).pending = s.pending ∧ (s.flushStop n).live = s.live ∧ (s.flushStop n).out = s.out ∧
    (s.flushStop n).ctl = s.ctl ∧ (s.flushStop n).flt = s.flt ∧ (s.flushStop n).clk = s.clk ∧
    (s.flushStop n).chans = s.chans ∧ (s.flushStop n).ddcs = s.ddcs ∧ (s.flushStop n).xfs = s.xfs ∧
    (s.flushStop n).trigs = s.trigs ∧ (s.flushStop n).mons = s.mons ∧ (s.flushStop n).dens = s.dens ∧
    (s.flushStop n).reds = s.reds ∧ (s.flushStop n).envs = s.envs ∧ (s.flushStop n).caps = s.caps ∧
    (s.flushStop n).ladles = s.ladles ∧ (s.flushStop n).clusters = s.clusters ∧ (s.flushStop n).tapSeq = s.tapSeq ∧
    (s.flushStop n).tiu = s.tiu ∧ (s.flushStop n).sto = s.sto ∧ (s.flushStop n).net = s.net ∧
    (s.flushStop n).hea = s.hea :=
  by
  unfold State.flushStop; dsimp only; split
  · simp
  · split <;> simp

@[simp] theorem State.publish_frame (n : Nat) (r : Rec) :
    (s.publish n r).pending = s.pending ∧ (s.publish n r).live = s.live ∧ (s.publish n r).out = s.out ∧
    (s.publish n r).ctl = s.ctl ∧ (s.publish n r).flt = s.flt ∧ (s.publish n r).clk = s.clk ∧
    (s.publish n r).chans = s.chans ∧ (s.publish n r).ddcs = s.ddcs ∧ (s.publish n r).xfs = s.xfs ∧
    (s.publish n r).trigs = s.trigs ∧ (s.publish n r).mons = s.mons ∧ (s.publish n r).dens = s.dens ∧
    (s.publish n r).reds = s.reds ∧ (s.publish n r).envs = s.envs ∧ (s.publish n r).caps = s.caps ∧
    (s.publish n r).ladles = s.ladles ∧ (s.publish n r).clusters = s.clusters ∧ (s.publish n r).tapSeq = s.tapSeq ∧
    (s.publish n r).tiu = s.tiu ∧ (s.publish n r).sto = s.sto ∧ (s.publish n r).net = s.net ∧
    (s.publish n r).hea = s.hea :=
  by
  unfold State.publish; split
  · have hu := s.modRunner_frame n (fun q => { q with chanByte := if 0x80 ≤ r.typ then 255 else r.chan, cfgPour := r.cfgPour })
    generalize s.modRunner n _ = u at hu ⊢
    dsimp only; split <;> simp [hu]
  · simp

@[simp] theorem State.freeSlot_frame (n : Nat) :
    (s.freeSlot n).pending = s.pending ∧ (s.freeSlot n).live = s.live ∧ (s.freeSlot n).out = s.out ∧
    (s.freeSlot n).ctl = s.ctl ∧ (s.freeSlot n).flt = s.flt ∧ (s.freeSlot n).clk = s.clk ∧
    (s.freeSlot n).chans = s.chans ∧ (s.freeSlot n).ddcs = s.ddcs ∧ (s.freeSlot n).xfs = s.xfs ∧
    (s.freeSlot n).trigs = s.trigs ∧ (s.freeSlot n).mons = s.mons ∧ (s.freeSlot n).dens = s.dens ∧
    (s.freeSlot n).reds = s.reds ∧ (s.freeSlot n).envs = s.envs ∧ (s.freeSlot n).caps = s.caps ∧
    (s.freeSlot n).ladles = s.ladles ∧ (s.freeSlot n).clusters = s.clusters ∧ (s.freeSlot n).tapSeq = s.tapSeq ∧
    (s.freeSlot n).tiu = s.tiu ∧ (s.freeSlot n).sto = s.sto ∧ (s.freeSlot n).net = s.net ∧
    (s.freeSlot n).hea = s.hea :=
  by unfold State.freeSlot; simp

@[simp] theorem State.missRecord_frame (n : Nat) (a b : T96) (c : Nat) :
    (s.missRecord n a b c).pending = s.pending ∧ (s.missRecord n a b c).live = s.live ∧ (s.missRecord n a b c).out = s.out ∧
    (s.missRecord n a b c).ctl = s.ctl ∧ (s.missRecord n a b c).flt = s.flt ∧ (s.missRecord n a b c).clk = s.clk ∧
    (s.missRecord n a b c).chans = s.chans ∧ (s.missRecord n a b c).ddcs = s.ddcs ∧ (s.missRecord n a b c).xfs = s.xfs ∧
    (s.missRecord n a b c).trigs = s.trigs ∧ (s.missRecord n a b c).mons = s.mons ∧ (s.missRecord n a b c).dens = s.dens ∧
    (s.missRecord n a b c).reds = s.reds ∧ (s.missRecord n a b c).envs = s.envs ∧ (s.missRecord n a b c).caps = s.caps ∧
    (s.missRecord n a b c).ladles = s.ladles ∧ (s.missRecord n a b c).clusters = s.clusters ∧ (s.missRecord n a b c).tapSeq = s.tapSeq ∧
    (s.missRecord n a b c).tiu = s.tiu ∧ (s.missRecord n a b c).sto = s.sto ∧ (s.missRecord n a b c).net = s.net ∧
    (s.missRecord n a b c).hea = s.hea :=
  by
  unfold State.missRecord; split <;> simp

@[simp] theorem State.stopRunners_frame (ns : List Nat) (t : T96) (c : Nat) (f : Bool) :
    (s.stopRunners ns t c f).pending = s.pending ∧ (s.stopRunners ns t c f).live = s.live ∧ (s.stopRunners ns t c f).mem = s.mem ∧
    (s.stopRunners ns t c f).out = s.out ∧ (s.stopRunners ns t c f).ctl = s.ctl ∧ (s.stopRunners ns t c f).flt = s.flt ∧
    (s.stopRunners ns t c f).clk = s.clk ∧ (s.stopRunners ns t c f).chans = s.chans ∧ (s.stopRunners ns t c f).ddcs = s.ddcs ∧
    (s.stopRunners ns t c f).xfs = s.xfs ∧ (s.stopRunners ns t c f).trigs = s.trigs ∧ (s.stopRunners ns t c f).mons = s.mons ∧
    (s.stopRunners ns t c f).dens = s.dens ∧ (s.stopRunners ns t c f).reds = s.reds ∧ (s.stopRunners ns t c f).envs = s.envs ∧
    (s.stopRunners ns t c f).caps = s.caps ∧ (s.stopRunners ns t c f).hbm = s.hbm ∧ (s.stopRunners ns t c f).ladles = s.ladles ∧
    (s.stopRunners ns t c f).clusters = s.clusters ∧ (s.stopRunners ns t c f).tapSeq = s.tapSeq ∧ (s.stopRunners ns t c f).tiu = s.tiu ∧
    (s.stopRunners ns t c f).sto = s.sto ∧ (s.stopRunners ns t c f).net = s.net ∧ (s.stopRunners ns t c f).hea = s.hea :=
  by
  unfold State.stopRunners
  refine ⟨?_, ?_, ?_, ?_, ?_, ?_, ?_, ?_, ?_, ?_, ?_, ?_, ?_, ?_, ?_, ?_, ?_, ?_, ?_, ?_, ?_, ?_, ?_, ?_⟩ <;>
    exact foldl_keeps _ _ (fun t a => by split <;> simp) _ _

@[simp] theorem State.restartRunners_frame (ns : List Nat) (t : T96) :
    (s.restartRunners ns t).pending = s.pending ∧ (s.restartRunners ns t).live = s.live ∧ (s.restartRunners ns t).mem = s.mem ∧
    (s.restartRunners ns t).out = s.out ∧ (s.restartRunners ns t).ctl = s.ctl ∧ (s.restartRunners ns t).flt = s.flt ∧
    (s.restartRunners ns t).clk = s.clk ∧ (s.restartRunners ns t).chans = s.chans ∧ (s.restartRunners ns t).ddcs = s.ddcs ∧
    (s.restartRunners ns t).xfs = s.xfs ∧ (s.restartRunners ns t).trigs = s.trigs ∧ (s.restartRunners ns t).mons = s.mons ∧
    (s.restartRunners ns t).dens = s.dens ∧ (s.restartRunners ns t).reds = s.reds ∧ (s.restartRunners ns t).envs = s.envs ∧
    (s.restartRunners ns t).caps = s.caps ∧ (s.restartRunners ns t).hbm = s.hbm ∧ (s.restartRunners ns t).ladles = s.ladles ∧
    (s.restartRunners ns t).clusters = s.clusters ∧ (s.restartRunners ns t).tapSeq = s.tapSeq ∧ (s.restartRunners ns t).tiu = s.tiu ∧
    (s.restartRunners ns t).sto = s.sto ∧ (s.restartRunners ns t).net = s.net ∧ (s.restartRunners ns t).hea = s.hea :=
  by
  unfold State.restartRunners
  refine ⟨?_, ?_, ?_, ?_, ?_, ?_, ?_, ?_, ?_, ?_, ?_, ?_, ?_, ?_, ?_, ?_, ?_, ?_, ?_, ?_, ?_, ?_, ?_, ?_⟩ <;>
    exact foldl_keeps _ _ (fun t a => by split <;> simp) _ _

@[simp] theorem State.absorbStops_frame (ns : List Nat) :
    (s.absorbStops ns).pending = s.pending ∧ (s.absorbStops ns).live = s.live ∧ (s.absorbStops ns).mem = s.mem ∧
    (s.absorbStops ns).out = s.out ∧ (s.absorbStops ns).ctl = s.ctl ∧ (s.absorbStops ns).flt = s.flt ∧
    (s.absorbStops ns).clk = s.clk ∧ (s.absorbStops ns).chans = s.chans ∧ (s.absorbStops ns).ddcs = s.ddcs ∧
    (s.absorbStops ns).xfs = s.xfs ∧ (s.absorbStops ns).trigs = s.trigs ∧ (s.absorbStops ns).mons = s.mons ∧
    (s.absorbStops ns).dens = s.dens ∧ (s.absorbStops ns).reds = s.reds ∧ (s.absorbStops ns).envs = s.envs ∧
    (s.absorbStops ns).caps = s.caps ∧ (s.absorbStops ns).hbm = s.hbm ∧ (s.absorbStops ns).ladles = s.ladles ∧
    (s.absorbStops ns).clusters = s.clusters ∧ (s.absorbStops ns).tapSeq = s.tapSeq ∧ (s.absorbStops ns).tiu = s.tiu ∧
    (s.absorbStops ns).sto = s.sto ∧ (s.absorbStops ns).net = s.net ∧ (s.absorbStops ns).hea = s.hea :=
  by
  unfold State.absorbStops
  refine ⟨?_, ?_, ?_, ?_, ?_, ?_, ?_, ?_, ?_, ?_, ?_, ?_, ?_, ?_, ?_, ?_, ?_, ?_, ?_, ?_, ?_, ?_, ?_, ?_⟩ <;>
    exact foldl_keeps _ _ (fun t a => by split <;> simp) _ _

@[simp] theorem State.markResumed_frame (ns : List Nat) :
    (s.markResumed ns).pending = s.pending ∧ (s.markResumed ns).live = s.live ∧ (s.markResumed ns).mem = s.mem ∧
    (s.markResumed ns).out = s.out ∧ (s.markResumed ns).ctl = s.ctl ∧ (s.markResumed ns).flt = s.flt ∧
    (s.markResumed ns).clk = s.clk ∧ (s.markResumed ns).chans = s.chans ∧ (s.markResumed ns).ddcs = s.ddcs ∧
    (s.markResumed ns).xfs = s.xfs ∧ (s.markResumed ns).trigs = s.trigs ∧ (s.markResumed ns).mons = s.mons ∧
    (s.markResumed ns).dens = s.dens ∧ (s.markResumed ns).reds = s.reds ∧ (s.markResumed ns).envs = s.envs ∧
    (s.markResumed ns).caps = s.caps ∧ (s.markResumed ns).hbm = s.hbm ∧ (s.markResumed ns).ladles = s.ladles ∧
    (s.markResumed ns).clusters = s.clusters ∧ (s.markResumed ns).tapSeq = s.tapSeq ∧ (s.markResumed ns).tiu = s.tiu ∧
    (s.markResumed ns).sto = s.sto ∧ (s.markResumed ns).net = s.net ∧ (s.markResumed ns).hea = s.hea :=
  by
  unfold State.markResumed
  refine ⟨?_, ?_, ?_, ?_, ?_, ?_, ?_, ?_, ?_, ?_, ?_, ?_, ?_, ?_, ?_, ?_, ?_, ?_, ?_, ?_, ?_, ?_, ?_, ?_⟩ <;>
    exact foldl_keeps _ _ (fun t a => by split <;> simp) _ _

@[simp] theorem State.gapRunners_frame (ns : List Nat) (a b : T96) (c : Nat) (f : Bool) :
    (s.gapRunners ns a b c f).pending = s.pending ∧ (s.gapRunners ns a b c f).live = s.live ∧ (s.gapRunners ns a b c f).mem = s.mem ∧
    (s.gapRunners ns a b c f).out = s.out ∧ (s.gapRunners ns a b c f).ctl = s.ctl ∧ (s.gapRunners ns a b c f).flt = s.flt ∧
    (s.gapRunners ns a b c f).clk = s.clk ∧ (s.gapRunners ns a b c f).chans = s.chans ∧ (s.gapRunners ns a b c f).ddcs = s.ddcs ∧
    (s.gapRunners ns a b c f).xfs = s.xfs ∧ (s.gapRunners ns a b c f).trigs = s.trigs ∧ (s.gapRunners ns a b c f).mons = s.mons ∧
    (s.gapRunners ns a b c f).dens = s.dens ∧ (s.gapRunners ns a b c f).reds = s.reds ∧ (s.gapRunners ns a b c f).envs = s.envs ∧
    (s.gapRunners ns a b c f).caps = s.caps ∧ (s.gapRunners ns a b c f).hbm = s.hbm ∧ (s.gapRunners ns a b c f).ladles = s.ladles ∧
    (s.gapRunners ns a b c f).clusters = s.clusters ∧ (s.gapRunners ns a b c f).tapSeq = s.tapSeq ∧ (s.gapRunners ns a b c f).tiu = s.tiu ∧
    (s.gapRunners ns a b c f).sto = s.sto ∧ (s.gapRunners ns a b c f).net = s.net ∧ (s.gapRunners ns a b c f).hea = s.hea :=
  by unfold State.gapRunners; simp

@[simp] theorem State.offer_frame (k : TapKind) (c i : Nat) (r : Rec) :
    (s.offer k c i r).pending = s.pending ∧ (s.offer k c i r).od = s.od ∧ (s.offer k c i r).live = s.live ∧
    (s.offer k c i r).mem = s.mem ∧ (s.offer k c i r).out = s.out ∧ (s.offer k c i r).ctl = s.ctl ∧
    (s.offer k c i r).flt = s.flt ∧ (s.offer k c i r).clk = s.clk ∧ (s.offer k c i r).dma = s.dma ∧
    (s.offer k c i r).chans = s.chans ∧ (s.offer k c i r).ddcs = s.ddcs ∧ (s.offer k c i r).xfs = s.xfs ∧
    (s.offer k c i r).trigs = s.trigs ∧ (s.offer k c i r).mons = s.mons ∧ (s.offer k c i r).dens = s.dens ∧
    (s.offer k c i r).reds = s.reds ∧ (s.offer k c i r).envs = s.envs ∧ (s.offer k c i r).caps = s.caps ∧
    (s.offer k c i r).hbm = s.hbm ∧ (s.offer k c i r).clusters = s.clusters ∧ (s.offer k c i r).tiu = s.tiu ∧
    (s.offer k c i r).sto = s.sto ∧ (s.offer k c i r).net = s.net ∧ (s.offer k c i r).hea = s.hea :=
  ⟨rfl, rfl, rfl, rfl, rfl, rfl, rfl, rfl, rfl, rfl, rfl, rfl, rfl, rfl, rfl, rfl, rfl, rfl, rfl, rfl, rfl, rfl, rfl, rfl⟩

@[simp] theorem State.signalRunner_frame (n : Nat) :
    (s.signalRunner n).pending = s.pending ∧ (s.signalRunner n).live = s.live ∧ (s.signalRunner n).mem = s.mem ∧
    (s.signalRunner n).ctl = s.ctl ∧ (s.signalRunner n).flt = s.flt ∧ (s.signalRunner n).clk = s.clk ∧
    (s.signalRunner n).chans = s.chans ∧ (s.signalRunner n).ddcs = s.ddcs ∧ (s.signalRunner n).xfs = s.xfs ∧
    (s.signalRunner n).trigs = s.trigs ∧ (s.signalRunner n).mons = s.mons ∧ (s.signalRunner n).dens = s.dens ∧
    (s.signalRunner n).reds = s.reds ∧ (s.signalRunner n).envs = s.envs ∧ (s.signalRunner n).caps = s.caps ∧
    (s.signalRunner n).hbm = s.hbm ∧ (s.signalRunner n).ladles = s.ladles ∧ (s.signalRunner n).clusters = s.clusters ∧
    (s.signalRunner n).tapSeq = s.tapSeq ∧ (s.signalRunner n).tiu = s.tiu ∧ (s.signalRunner n).sto = s.sto ∧
    (s.signalRunner n).net = s.net ∧ (s.signalRunner n).hea = s.hea :=
  by unfold State.signalRunner; simp

@[simp] theorem State.complete_frame (n : Nat) (b : Bool) :
    (s.complete n b).pending = s.pending ∧ (s.complete n b).live = s.live ∧ (s.complete n b).mem = s.mem ∧
    (s.complete n b).ctl = s.ctl ∧ (s.complete n b).flt = s.flt ∧ (s.complete n b).clk = s.clk ∧
    (s.complete n b).chans = s.chans ∧ (s.complete n b).ddcs = s.ddcs ∧ (s.complete n b).xfs = s.xfs ∧
    (s.complete n b).trigs = s.trigs ∧ (s.complete n b).mons = s.mons ∧ (s.complete n b).dens = s.dens ∧
    (s.complete n b).reds = s.reds ∧ (s.complete n b).envs = s.envs ∧ (s.complete n b).caps = s.caps ∧
    (s.complete n b).hbm = s.hbm ∧ (s.complete n b).ladles = s.ladles ∧ (s.complete n b).clusters = s.clusters ∧
    (s.complete n b).tapSeq = s.tapSeq ∧ (s.complete n b).tiu = s.tiu ∧ (s.complete n b).sto = s.sto ∧
    (s.complete n b).net = s.net ∧ (s.complete n b).hea = s.hea :=
  by
  unfold State.complete; dsimp only; split <;> simp

@[simp] theorem State.writeBack_frame (n : Nat) :
    (s.writeBack n).pending = s.pending ∧ (s.writeBack n).od = s.od ∧ (s.writeBack n).live = s.live ∧
    (s.writeBack n).mem = s.mem ∧ (s.writeBack n).ctl = s.ctl ∧ (s.writeBack n).flt = s.flt ∧
    (s.writeBack n).clk = s.clk ∧ (s.writeBack n).dma = s.dma ∧ (s.writeBack n).chans = s.chans ∧
    (s.writeBack n).ddcs = s.ddcs ∧ (s.writeBack n).xfs = s.xfs ∧ (s.writeBack n).trigs = s.trigs ∧
    (s.writeBack n).mons = s.mons ∧ (s.writeBack n).dens = s.dens ∧ (s.writeBack n).reds = s.reds ∧
    (s.writeBack n).envs = s.envs ∧ (s.writeBack n).caps = s.caps ∧ (s.writeBack n).hbm = s.hbm ∧
    (s.writeBack n).ladles = s.ladles ∧ (s.writeBack n).clusters = s.clusters ∧ (s.writeBack n).tapSeq = s.tapSeq ∧
    (s.writeBack n).tiu = s.tiu ∧ (s.writeBack n).sto = s.sto ∧ (s.writeBack n).net = s.net ∧
    (s.writeBack n).hea = s.hea :=
  by
  unfold State.writeBack; dsimp only; split <;> simp

@[simp] theorem State.modXfer_frame (n : Nat) (f : Xfer → Xfer) :
    (s.modXfer n f).pending = s.pending ∧ (s.modXfer n f).live = s.live ∧ (s.modXfer n f).mem = s.mem ∧
    (s.modXfer n f).out = s.out ∧ (s.modXfer n f).ctl = s.ctl ∧ (s.modXfer n f).flt = s.flt ∧
    (s.modXfer n f).clk = s.clk ∧ (s.modXfer n f).chans = s.chans ∧ (s.modXfer n f).ddcs = s.ddcs ∧
    (s.modXfer n f).xfs = s.xfs ∧ (s.modXfer n f).trigs = s.trigs ∧ (s.modXfer n f).mons = s.mons ∧
    (s.modXfer n f).dens = s.dens ∧ (s.modXfer n f).reds = s.reds ∧ (s.modXfer n f).envs = s.envs ∧
    (s.modXfer n f).caps = s.caps ∧ (s.modXfer n f).hbm = s.hbm ∧ (s.modXfer n f).ladles = s.ladles ∧
    (s.modXfer n f).clusters = s.clusters ∧ (s.modXfer n f).tapSeq = s.tapSeq ∧ (s.modXfer n f).tiu = s.tiu ∧
    (s.modXfer n f).sto = s.sto ∧ (s.modXfer n f).net = s.net ∧ (s.modXfer n f).hea = s.hea :=
  by unfold State.modXfer; simp

@[simp] theorem State.inFlight_frame (u : Bool) :
    (s.inFlight u).pending = s.pending ∧ (s.inFlight u).od = s.od ∧ (s.inFlight u).live = s.live ∧
    (s.inFlight u).mem = s.mem ∧ (s.inFlight u).out = s.out ∧ (s.inFlight u).ctl = s.ctl ∧
    (s.inFlight u).flt = s.flt ∧ (s.inFlight u).clk = s.clk ∧ (s.inFlight u).chans = s.chans ∧
    (s.inFlight u).ddcs = s.ddcs ∧ (s.inFlight u).xfs = s.xfs ∧ (s.inFlight u).trigs = s.trigs ∧
    (s.inFlight u).mons = s.mons ∧ (s.inFlight u).dens = s.dens ∧ (s.inFlight u).reds = s.reds ∧
    (s.inFlight u).envs = s.envs ∧ (s.inFlight u).caps = s.caps ∧ (s.inFlight u).hbm = s.hbm ∧
    (s.inFlight u).ladles = s.ladles ∧ (s.inFlight u).clusters = s.clusters ∧ (s.inFlight u).tapSeq = s.tapSeq ∧
    (s.inFlight u).tiu = s.tiu ∧ (s.inFlight u).sto = s.sto ∧ (s.inFlight u).net = s.net ∧
    (s.inFlight u).hea = s.hea :=
  ⟨rfl, rfl, rfl, rfl, rfl, rfl, rfl, rfl, rfl, rfl, rfl, rfl, rfl, rfl, rfl, rfl, rfl, rfl, rfl, rfl, rfl, rfl, rfl, rfl, rfl⟩

@[simp] theorem State.requestPage_frame (p : Nat) :
    (s.requestPage p).pending = s.pending ∧ (s.requestPage p).od = s.od ∧ (s.requestPage p).live = s.live ∧
    (s.requestPage p).mem = s.mem ∧ (s.requestPage p).ctl = s.ctl ∧ (s.requestPage p).flt = s.flt ∧
    (s.requestPage p).clk = s.clk ∧ (s.requestPage p).dma = s.dma ∧ (s.requestPage p).chans = s.chans ∧
    (s.requestPage p).ddcs = s.ddcs ∧ (s.requestPage p).xfs = s.xfs ∧ (s.requestPage p).trigs = s.trigs ∧
    (s.requestPage p).mons = s.mons ∧ (s.requestPage p).dens = s.dens ∧ (s.requestPage p).reds = s.reds ∧
    (s.requestPage p).envs = s.envs ∧ (s.requestPage p).caps = s.caps ∧ (s.requestPage p).hbm = s.hbm ∧
    (s.requestPage p).ladles = s.ladles ∧ (s.requestPage p).clusters = s.clusters ∧ (s.requestPage p).tapSeq = s.tapSeq ∧
    (s.requestPage p).tiu = s.tiu ∧ (s.requestPage p).sto = s.sto ∧ (s.requestPage p).net = s.net ∧
    (s.requestPage p).hea = s.hea :=
  ⟨rfl, rfl, rfl, rfl, rfl, rfl, rfl, rfl, rfl, rfl, rfl, rfl, rfl, rfl, rfl, rfl, rfl, rfl, rfl, rfl, rfl, rfl, rfl, rfl, rfl⟩

@[simp] theorem State.pageRequest_frame (p : Nat) :
    (s.pageRequest p).pending = s.pending ∧ (s.pageRequest p).od = s.od ∧ (s.pageRequest p).live = s.live ∧
    (s.pageRequest p).mem = s.mem ∧ (s.pageRequest p).ctl = s.ctl ∧ (s.pageRequest p).flt = s.flt ∧
    (s.pageRequest p).clk = s.clk ∧ (s.pageRequest p).chans = s.chans ∧ (s.pageRequest p).ddcs = s.ddcs ∧
    (s.pageRequest p).xfs = s.xfs ∧ (s.pageRequest p).trigs = s.trigs ∧ (s.pageRequest p).mons = s.mons ∧
    (s.pageRequest p).dens = s.dens ∧ (s.pageRequest p).reds = s.reds ∧ (s.pageRequest p).envs = s.envs ∧
    (s.pageRequest p).caps = s.caps ∧ (s.pageRequest p).hbm = s.hbm ∧ (s.pageRequest p).ladles = s.ladles ∧
    (s.pageRequest p).clusters = s.clusters ∧ (s.pageRequest p).tapSeq = s.tapSeq ∧ (s.pageRequest p).tiu = s.tiu ∧
    (s.pageRequest p).sto = s.sto ∧ (s.pageRequest p).net = s.net ∧ (s.pageRequest p).hea = s.hea :=
  ⟨rfl, rfl, rfl, rfl, rfl, rfl, rfl, rfl, rfl, rfl, rfl, rfl, rfl, rfl, rfl, rfl, rfl, rfl, rfl, rfl, rfl, rfl, rfl, rfl⟩

@[simp] theorem State.engineTo_frame (e k : Nat) :
    (s.engineTo e k).pending = s.pending ∧ (s.engineTo e k).od = s.od ∧ (s.engineTo e k).live = s.live ∧
    (s.engineTo e k).mem = s.mem ∧ (s.engineTo e k).out = s.out ∧ (s.engineTo e k).ctl = s.ctl ∧
    (s.engineTo e k).flt = s.flt ∧ (s.engineTo e k).clk = s.clk ∧ (s.engineTo e k).chans = s.chans ∧
    (s.engineTo e k).ddcs = s.ddcs ∧ (s.engineTo e k).xfs = s.xfs ∧ (s.engineTo e k).trigs = s.trigs ∧
    (s.engineTo e k).mons = s.mons ∧ (s.engineTo e k).dens = s.dens ∧ (s.engineTo e k).reds = s.reds ∧
    (s.engineTo e k).envs = s.envs ∧ (s.engineTo e k).caps = s.caps ∧ (s.engineTo e k).hbm = s.hbm ∧
    (s.engineTo e k).ladles = s.ladles ∧ (s.engineTo e k).clusters = s.clusters ∧ (s.engineTo e k).tapSeq = s.tapSeq ∧
    (s.engineTo e k).tiu = s.tiu ∧ (s.engineTo e k).sto = s.sto ∧ (s.engineTo e k).net = s.net ∧
    (s.engineTo e k).hea = s.hea :=
  ⟨rfl, rfl, rfl, rfl, rfl, rfl, rfl, rfl, rfl, rfl, rfl, rfl, rfl, rfl, rfl, rfl, rfl, rfl, rfl, rfl, rfl, rfl, rfl, rfl, rfl⟩

@[simp] theorem State.xferBurst_frame (c a n : Nat) (w : Bool) :
    (s.xferBurst c a n w).pending = s.pending ∧ (s.xferBurst c a n w).od = s.od ∧ (s.xferBurst c a n w).live = s.live ∧
    (s.xferBurst c a n w).mem = s.mem ∧ (s.xferBurst c a n w).out = s.out ∧ (s.xferBurst c a n w).ctl = s.ctl ∧
    (s.xferBurst c a n w).flt = s.flt ∧ (s.xferBurst c a n w).clk = s.clk ∧ (s.xferBurst c a n w).dma = s.dma ∧
    (s.xferBurst c a n w).chans = s.chans ∧ (s.xferBurst c a n w).ddcs = s.ddcs ∧ (s.xferBurst c a n w).xfs = s.xfs ∧
    (s.xferBurst c a n w).trigs = s.trigs ∧ (s.xferBurst c a n w).mons = s.mons ∧ (s.xferBurst c a n w).dens = s.dens ∧
    (s.xferBurst c a n w).reds = s.reds ∧ (s.xferBurst c a n w).envs = s.envs ∧ (s.xferBurst c a n w).caps = s.caps ∧
    (s.xferBurst c a n w).ladles = s.ladles ∧ (s.xferBurst c a n w).clusters = s.clusters ∧ (s.xferBurst c a n w).tapSeq = s.tapSeq ∧
    (s.xferBurst c a n w).tiu = s.tiu ∧ (s.xferBurst c a n w).sto = s.sto ∧ (s.xferBurst c a n w).net = s.net ∧
    (s.xferBurst c a n w).hea = s.hea :=
  by
  unfold State.xferBurst; split <;> simp

@[simp] theorem State.writeStatus_frame (n : Nat) (x : Xfer) (a b c : Nat) :
    (s.writeStatus n x a b c).pending = s.pending ∧ (s.writeStatus n x a b c).live = s.live ∧ (s.writeStatus n x a b c).ctl = s.ctl ∧
    (s.writeStatus n x a b c).flt = s.flt ∧ (s.writeStatus n x a b c).clk = s.clk ∧ (s.writeStatus n x a b c).chans = s.chans ∧
    (s.writeStatus n x a b c).ddcs = s.ddcs ∧ (s.writeStatus n x a b c).xfs = s.xfs ∧ (s.writeStatus n x a b c).trigs = s.trigs ∧
    (s.writeStatus n x a b c).mons = s.mons ∧ (s.writeStatus n x a b c).dens = s.dens ∧ (s.writeStatus n x a b c).reds = s.reds ∧
    (s.writeStatus n x a b c).envs = s.envs ∧ (s.writeStatus n x a b c).caps = s.caps ∧ (s.writeStatus n x a b c).ladles = s.ladles ∧
    (s.writeStatus n x a b c).clusters = s.clusters ∧ (s.writeStatus n x a b c).tapSeq = s.tapSeq ∧ (s.writeStatus n x a b c).tiu = s.tiu ∧
    (s.writeStatus n x a b c).sto = s.sto ∧ (s.writeStatus n x a b c).net = s.net ∧ (s.writeStatus n x a b c).hea = s.hea :=
  by
  unfold State.writeStatus; dsimp only; split <;> simp

@[simp] theorem State.endXfer_frame (n c : Nat) :
    (s.endXfer n c).pending = s.pending ∧ (s.endXfer n c).live = s.live ∧ (s.endXfer n c).ctl = s.ctl ∧
    (s.endXfer n c).flt = s.flt ∧ (s.endXfer n c).clk = s.clk ∧ (s.endXfer n c).chans = s.chans ∧
    (s.endXfer n c).ddcs = s.ddcs ∧ (s.endXfer n c).xfs = s.xfs ∧ (s.endXfer n c).trigs = s.trigs ∧
    (s.endXfer n c).mons = s.mons ∧ (s.endXfer n c).dens = s.dens ∧ (s.endXfer n c).reds = s.reds ∧
    (s.endXfer n c).envs = s.envs ∧ (s.endXfer n c).caps = s.caps ∧ (s.endXfer n c).ladles = s.ladles ∧
    (s.endXfer n c).clusters = s.clusters ∧ (s.endXfer n c).tapSeq = s.tapSeq ∧ (s.endXfer n c).tiu = s.tiu ∧
    (s.endXfer n c).sto = s.sto ∧ (s.endXfer n c).net = s.net ∧ (s.endXfer n c).hea = s.hea :=
  by
  unfold State.endXfer; split
  · simp
  · dsimp only; split <;> simp

@[simp] theorem State.deliver_frame (n : Nat) (x : Xfer) (a d : Nat) (b : List Byte) :
    (s.deliver n x a d b).pending = s.pending ∧ (s.deliver n x a d b).live = s.live ∧ (s.deliver n x a d b).ctl = s.ctl ∧
    (s.deliver n x a d b).flt = s.flt ∧ (s.deliver n x a d b).clk = s.clk ∧ (s.deliver n x a d b).chans = s.chans ∧
    (s.deliver n x a d b).ddcs = s.ddcs ∧ (s.deliver n x a d b).xfs = s.xfs ∧ (s.deliver n x a d b).trigs = s.trigs ∧
    (s.deliver n x a d b).mons = s.mons ∧ (s.deliver n x a d b).dens = s.dens ∧ (s.deliver n x a d b).reds = s.reds ∧
    (s.deliver n x a d b).envs = s.envs ∧ (s.deliver n x a d b).caps = s.caps ∧ (s.deliver n x a d b).ladles = s.ladles ∧
    (s.deliver n x a d b).clusters = s.clusters ∧ (s.deliver n x a d b).tapSeq = s.tapSeq ∧ (s.deliver n x a d b).tiu = s.tiu ∧
    (s.deliver n x a d b).sto = s.sto ∧ (s.deliver n x a d b).net = s.net ∧ (s.deliver n x a d b).hea = s.hea :=
  by
  unfold State.deliver; dsimp only; split <;> simp

@[simp] theorem State.countFault_frame (c : FaultClass) (e : Nat) :
    (s.countFault c e).1.pending = s.pending ∧ (s.countFault c e).1.live = s.live ∧
    (s.countFault c e).1.mem = s.mem ∧ (s.countFault c e).1.out = s.out ∧
    (s.countFault c e).1.ctl = s.ctl ∧ (s.countFault c e).1.clk = s.clk ∧
    (s.countFault c e).1.dma = s.dma ∧ (s.countFault c e).1.chans = s.chans ∧
    (s.countFault c e).1.ddcs = s.ddcs ∧ (s.countFault c e).1.xfs = s.xfs ∧
    (s.countFault c e).1.trigs = s.trigs ∧ (s.countFault c e).1.mons = s.mons ∧
    (s.countFault c e).1.dens = s.dens ∧ (s.countFault c e).1.reds = s.reds ∧
    (s.countFault c e).1.envs = s.envs ∧ (s.countFault c e).1.caps = s.caps ∧
    (s.countFault c e).1.hbm = s.hbm ∧ (s.countFault c e).1.ladles = s.ladles ∧
    (s.countFault c e).1.clusters = s.clusters ∧ (s.countFault c e).1.tapSeq = s.tapSeq ∧
    (s.countFault c e).1.tiu = s.tiu ∧ (s.countFault c e).1.sto = s.sto ∧
    (s.countFault c e).1.net = s.net ∧ (s.countFault c e).1.hea = s.hea := by
  unfold State.countFault; dsimp only; split <;> simp

@[simp] theorem State.journalFault_frame (c : FaultClass) (e n : Nat) (l p : Bool) (r : List (Nat × Nat × Nat)) :
    (s.journalFault c e n l p r).pending = s.pending ∧ (s.journalFault c e n l p r).live = s.live ∧ (s.journalFault c e n l p r).mem = s.mem ∧
    (s.journalFault c e n l p r).clk = s.clk ∧ (s.journalFault c e n l p r).chans = s.chans ∧ (s.journalFault c e n l p r).ddcs = s.ddcs ∧
    (s.journalFault c e n l p r).xfs = s.xfs ∧ (s.journalFault c e n l p r).trigs = s.trigs ∧ (s.journalFault c e n l p r).mons = s.mons ∧
    (s.journalFault c e n l p r).dens = s.dens ∧ (s.journalFault c e n l p r).reds = s.reds ∧ (s.journalFault c e n l p r).envs = s.envs ∧
    (s.journalFault c e n l p r).caps = s.caps ∧ (s.journalFault c e n l p r).hbm = s.hbm ∧ (s.journalFault c e n l p r).ladles = s.ladles ∧
    (s.journalFault c e n l p r).clusters = s.clusters ∧ (s.journalFault c e n l p r).tapSeq = s.tapSeq ∧ (s.journalFault c e n l p r).tiu = s.tiu ∧
    (s.journalFault c e n l p r).sto = s.sto ∧ (s.journalFault c e n l p r).net = s.net ∧ (s.journalFault c e n l p r).hea = s.hea :=
  by unfold State.journalFault; simp

/-! ### The canonical form of HBM -/

variable {s : State}

theorem wf_of_mem {t : State} (h : t.mem = s.mem) (w : Memory.wf s) : Memory.wf t := by
  unfold Memory.wf; rw [h]; exact w

theorem State.modRunner_wf (n : Nat) (f : Runner → Runner) (w : Memory.wf s) : Memory.wf (s.modRunner n f) :=
  wf_of_mem (by simp) w

theorem State.writeSlot_wf (n : Nat) (b : List Byte) (w : Memory.wf s) : Memory.wf (s.writeSlot n b) :=
  wf_of_mem (by unfold State.writeSlot; simp) (State.store_wf ((s.runner n).slotAddr (s.runner n).w) b w)

theorem State.flushDropped_wf (n : Nat) (w : Memory.wf s) : Memory.wf (s.flushDropped n) := by
  unfold State.flushDropped; dsimp only; split
  · exact w
  · split
    · exact w
    · exact State.modRunner_wf n _ (State.writeSlot_wf n _ w)

theorem State.flushStop_wf (n : Nat) (w : Memory.wf s) : Memory.wf (s.flushStop n) := by
  unfold State.flushStop; dsimp only; split
  · exact w
  · split
    · exact w
    · exact State.modRunner_wf n _ (State.writeSlot_wf n _ w)

/-- A record that a producer writes, or that its runner drops, keeps the canonical form of HBM. -/
theorem State.publish_wf (n : Nat) (r : Rec) (w : Memory.wf s) : Memory.wf (s.publish n r) := by
  unfold State.publish; split
  · have h := State.flushStop_wf n (State.flushDropped_wf n
      (wf_of_mem (t := s.modRunner n (fun q => { q with chanByte := if 0x80 ≤ r.typ then 255 else r.chan, cfgPour := r.cfgPour }))
        (by simp) w))
    generalize s.modRunner n _ = u at h ⊢
    dsimp only; split
    · exact wf_of_mem (by simp) h
    · exact State.modRunner_wf n _ (State.writeSlot_wf n _ h)
  · exact w

theorem State.freeSlot_wf (n : Nat) (w : Memory.wf s) : Memory.wf (s.freeSlot n) := by
  unfold State.freeSlot; exact State.flushDropped_wf n (wf_of_mem (by simp) w)

theorem State.missRecord_wf (n : Nat) (a b : T96) (c : Nat) (w : Memory.wf s) : Memory.wf (s.missRecord n a b c) := by
  unfold State.missRecord; split
  · exact State.flushDropped_wf n (wf_of_mem (by simp) w)
  · exact w

theorem State.writeStatus_wf (n : Nat) (x : Xfer) (a b c : Nat) (w : Memory.wf s) : Memory.wf (s.writeStatus n x a b c) := by
  unfold State.writeStatus; dsimp only; split
  · exact wf_of_mem (by simp) w
  · refine wf_of_mem ?_ (State.store_wf ((s.runner n).slotAddr (s.runner n).rd + 32) (x.statusPart a b c s.now) w)
    simp

theorem State.endXfer_wf (n c : Nat) (w : Memory.wf s) : Memory.wf (s.endXfer n c) := by
  unfold State.endXfer; split
  · exact w
  · dsimp only; split
    · exact wf_of_mem (by simp) w
    · exact State.writeStatus_wf n _ _ _ _ w

theorem State.deliver_wf (n : Nat) (x : Xfer) (a d : Nat) (b : List Byte) (w : Memory.wf s) : Memory.wf (s.deliver n x a d b) := by
  unfold State.deliver; dsimp only; split
  · exact wf_of_mem (by simp) w
  · exact wf_of_mem (by simp) (State.store_wf d b w)

/-- A list of operations that each keep the canonical form keeps it. -/
theorem foldl_wf {α : Type} (g : State → α → State) (h : ∀ t a, Memory.wf t → Memory.wf (g t a)) (l : List α) (w : Memory.wf s) :
    Memory.wf (l.foldl g s) := by
  induction l generalizing s with
  | nil => exact w
  | cons a l ih => exact ih (h _ _ w)

end Sys2Proof.Machine
end

