-- ==== Sys2Proof/Tests/Slice0.lean ====
section
/-! SUPPORT. The model's own tests: commands that the surroundings cannot send are refused by WellFormed and stop by name;
ladle words written out from the encodings; single steps with results worked out from the spec; and, for every obligation
with hypotheses, states and operands that meet them, clause by clause. -/

namespace Sys2Proof.Tests

set_option Elab.async false

open Sys2Proof Sys2Proof.Machine

/-! ### Small states -/

/-- A device out of reset, in a device state, owned by the host. -/
def dev (d : DevState) : State :=
  { State.reset with ctl := { Ctl.reset with held := false, dev := d, owner := some .host } }

/-- The same with entries of the dictionary set, in rising order of key. -/
def entries (d : DevState) (l : Tab Val) : State := { dev d with od := l }

/-- A device in OP with one pour in force that changed some entries; block b has it. -/
def poured (b : BlockId) (l : Tab Val) : State :=
  ({ dev .op with ctl := { (dev .op).ctl with
      running := true, pours := [{ number := 1, tc := 0, delta := l }], currentPour := 1, highestPour := 1 } } : State).setPour b 1

/-- A number as an entry's value. -/
def num (n : Nat) : Val := Val.ofNat n

/-- A device in OP with channel 0 as `f` leaves one that is on. -/
def chan0 (f : Chan → Chan) : State := { dev .op with chans := [(0, f { Chan.off with on := true })] }

/-- A ladle that runs, with a handler; changed by `f`. -/
def lad (f : Ladle → Ladle) : State :=
  { dev .op with ladles := [(0, f { Ladle.reset 0 with run := .running, ien := 0x80000000 })] }

/-- Runner 5 as `f` leaves a record runner of four slots of 128 bytes at address 4,096. -/
def run5 (f : Runner → Runner) : State :=
  { dev .op with dma := { Dma.reset with runners := [(5, f { Runner.none with kind := 1, base := 4096, e := 2, z := 7, state := .active })] } }

/-- A record with an empty payload. -/
def rec0 : Record :=
  { typ := 0x10, runner := 5, seq := 0, pour := 1, time := 0, channel := 0, source := 0, progFlags := 0, flags := 0,
    fields := List.replicate 16 0, payload := [] }

/-- A conditioner frame. -/
def frame0 (s0 : Nat) : Frame :=
  { s0 := s0, t0 := 0, q := [], raw := [], uncorrected := false, repaired := [], mark := Mark.empty }

/-- A plain ladle, field by field. -/
theorem plainLadle_iff (q : Ladle) : PlainLadle q ↔ (q.run = .running ∧ q.held = none ∧ q.branch = none ∧ q.lockLost = none
    ∧ q.endsAt q.pc = false ∧ q.land.endsAt q.pc = false) :=
  ⟨fun h => ⟨h.run, h.free, h.slot, h.lost, h.here, h.landed⟩, fun h => ⟨h.1, h.2.1, h.2.2.1, h.2.2.2.1, h.2.2.2.2.1, h.2.2.2.2.2⟩⟩

/-! ### Commands that the surroundings cannot send -/

/-- What a command answers: whether it goes on to a state of which `p` holds. -/
def after (c : Instr) (s : State) (p : State → Bool) : Bool :=
  match exec c s with
  | .next t => p t
  | _ => false

theorem test_frame_of_wrong_length_is_ill_formed :
    (Instr.conditionerFrame 0 (List.replicate 17 { code := 0, err := false, overload := false })).wellFormed = false
      ∧ (Instr.conditionerFrame 0 (List.replicate 18 { code := 0, err := false, overload := false })).wellFormed = true
      ∧ (Instr.conditionerFrame 0 (List.replicate 4113 { code := 0, err := false, overload := false })).wellFormed = true
      ∧ (Instr.conditionerFrame 0 (List.replicate 4114 { code := 0, err := false, overload := false })).wellFormed = false := by
  decide +kernel

theorem test_window_without_pairs_is_ill_formed : (Instr.bgCalWindowEnd 0 [] 0).wellFormed = false := by decide +kernel

theorem test_calibration_of_wrong_length_is_ill_formed :
    (Instr.fgCalComplete 0 { elements := List.replicate 64 default, taps := List.replicate 33 0 }).wellFormed = false
      ∧ (Instr.fgCalComplete 0 { elements := List.replicate 65 default, taps := List.replicate 32 0 }).wellFormed = false
      ∧ (Instr.fgCalComplete 0 { elements := List.replicate 65 default, taps := List.replicate 33 0 }).wellFormed = true := by
  decide +kernel

theorem test_bin_counts_of_wrong_length_are_ill_formed :
    (Instr.interpCalComplete 0 (List.replicate 383 0)).wellFormed = false
      ∧ (Instr.interpCalComplete 0 (List.replicate 384 0)).wellFormed = true := by decide +kernel

theorem test_sentinel_window_of_wrong_length_is_ill_formed :
    (Instr.sentinelWindowEnd (List.replicate 63 0)).wellFormed = false
      ∧ (Instr.sentinelWindowEnd (List.replicate 64 0)).wellFormed = true := by decide +kernel

theorem test_ill_formed_command_stops_by_name :
    exec (.sentinelWindowEnd []) (dev .op) = .fault .malformedOperands := by rfl

/-! ### Ladle words, one of each format, written out from the encodings (R440-R442) -/

-- ADD D1, D2, D3: opcode 000001 in 31-26, d = 0001, a = 0010, b = 0011, the rest 0.
theorem test_word_add : ladleInstr 0 0b000001_0001_0010_0011_00000000000000 = some (.add 0 1 2 3) := by decide +kernel

-- TRAP 7: opcode 111111, imm16 in 15-0.
theorem test_word_trap : ladleInstr 0 0xFC000007 = some (.trap 0 7) := by decide +kernel

-- MOVI D5, -1: opcode 011000, d = 0101, imm18 of ones.
theorem test_word_movi : ladleInstr 0 0b011000_0101_0000_111111111111111111 = some (.movi 0 5 0x3FFFF) := by decide +kernel

-- LD.word D2, (A3), 4 with pre-modification.
theorem test_word_ld : ladleInstr 0 0xA09C8004 = some (.ld 0 { r := 2, a := 3, size := 2, x := false, p := true, m := 4 } .clean) := by
  decide +kernel

-- CALL 0x1FFF, LOOP 33, 4,096.
theorem test_word_flow : ladleInstr 0 0xC4001FFF = some (.call 0 0x1FFF) ∧ ladleInstr 0 0xD0043000 = some (.loop 0 33 4096) := by
  decide +kernel

-- MAC ACC0 of the high halves of D1.
theorem test_word_mac : ladleInstr 0 0x80238000 = some (.mac 0 false 1 1 true true false false) := by decide +kernel

-- A reserved field that is not zero; an opcode of the gap; LOCK of resource 18.
theorem test_word_illegal :
    ladleInstr 0 0x0448C001 = none ∧ ladleInstr 0 0x38000000 = none ∧ ladleInstr 0 0xE8000012 = none := by decide +kernel

/-! ### Single steps -/

/-- A running ladle with D1 and D2 set. -/
def dd (x y : U32) : State := lad (fun q => { q with d := #v[0, x, y, 0, 0, 0, 0, 0, 0, 0, 0, 0, 0, 0, 0, 0] })

-- 0x7FFFFFFF + 1 = 0x80000000: N and V set, Z and C clear (R441).
theorem test_add_overflows : after (.add 0 3 1 2) (dd 0x7FFFFFFF 1) (fun t =>
    (t.ladle 0).dr 3 == 0x80000000 && (t.ladle 0).st.toNat % 16 == 0b1001) = true := by decide +kernel

-- 0xFFFFFFFF + 1 = 0: Z and C set; the destination is a source too (R441).
theorem test_add_carries : after (.add 0 1 1 2) (dd 0xFFFFFFFF 1) (fun t =>
    (t.ladle 0).dr 1 == 0 && (t.ladle 0).st.toNat % 16 == 0b0110) = true := by decide +kernel

-- 1 − 2: no borrow-free C, N set (R441: C is 1 when x ≥ y without sign).
theorem test_sub_borrows : after (.sub 0 3 1 2) (dd 1 2) (fun t =>
    (t.ladle 0).dr 3 == 0xFFFFFFFF && (t.ladle 0).st.toNat % 16 == 0b1000) = true := by decide +kernel

-- ADDS clamps at 2^31 − 1.
theorem test_adds_clamps : after (.adds 0 3 1 2) (dd 0x7FFFFFFF 1) (fun t => (t.ladle 0).dr 3 == 0x7FFFFFFF) = true := by
  decide +kernel

-- CMP writes no register.
theorem test_cmp_writes_no_register : after (.cmp 0 1 2) (dd 7 7) (fun t =>
    (t.ladle 0).dr 0 == 0 && (t.ladle 0).st.toNat % 16 == 0b0110) = true := by decide +kernel

-- Shift amounts are taken modulo 32; the last bit out is C.
theorem test_shl_modulo : after (.shl 0 3 1 2) (dd 0x80000001 33) (fun t =>
    (t.ladle 0).dr 3 == 2 && (t.ladle 0).st.toNat / 2 % 2 == 1) = true := by decide +kernel

theorem test_sra_sign : after (.srai 0 3 1 31) (dd 0x80000000 0) (fun t => (t.ladle 0).dr 3 == 0xFFFFFFFF) = true := by
  decide +kernel

-- LIH replaces the upper half and keeps the lower one.
theorem test_lih : after (.lih 0 1 0xABCD) (dd 0x12345678 0) (fun t => (t.ladle 0).dr 1 == 0xABCD5678) = true := by decide +kernel

-- MUL of the low halves, signed: −1 × 3; the product is not there for the next instruction, but for the one after it (R459).
theorem test_mul_is_late : after (.mul 0 3 1 2 false false false) (dd 0xFFFF 3) (fun t =>
    (t.ladle 0).dr 3 == 0 && after (.nop 0) t (fun u => (u.ladle 0).dr 3 == 0xFFFFFFFD)) = true := by decide +kernel

-- A branch taken: the two delay slots execute, then the target (R441).
theorem test_branch_has_two_slots : after (.b 0 0 100) (dd 0 0) (fun t => (t.ladle 0).pc == 1 &&
    after (.nop 0) t (fun u => (u.ladle 0).pc == 2 && after (.nop 0) u (fun v => (v.ladle 0).pc == 100))) = true := by decide +kernel

-- LOOP with a count of 0 passes over its body (R449).
theorem test_loop_of_zero : after (.loop 0 9 0) (dd 0 0) (fun t => (t.ladle 0).pc == 10) = true := by decide +kernel

-- SD.word stores little-endian, and nothing beside (R447).
theorem test_store_word :
    after (.sd 0 { r := 1, a := 0, size := 2, x := false, p := true, m := 4 }) (dd 0x11223344 0) (fun t =>
      readBytes (t.ladle 0).dm 3 6 == [0, 0x44, 0x33, 0x22, 0x11, 0]) = true := by decide +kernel

-- A misaligned word is an exception with cause 1, detail 2 (R461).
theorem test_misaligned_load :
    after (.ld 0 { r := 1, a := 0, size := 2, x := false, p := true, m := 2 } .clean) (dd 0 0) (fun t =>
      (t.ladle 0).ec.toNat % 2 ^ 16 == 0x0201 && (t.ladle 0).ea == 2 && (t.ladle 0).bit bitEX) = true := by decide +kernel

-- LOCK takes a free resource and sets LK (R456).
theorem test_lock : after (.lock 0 3) (dd 0 0) (fun t => (t.ladle 0).lock == some 3 && (t.ladle 0).bit bitLK) = true := by
  decide +kernel

-- The pins: a pulse of 10 µs resets, one shorter than 100 ns does nothing (R636).
theorem test_reset_pulses :
    after (.pinReset 10000) (dev .op) (fun t => t.ctl.held && t.flt.cause == 2) = true
      ∧ after (.pinReset 99) (dev .op) (fun t => decide (t = dev .op)) = true := by decide +kernel

-- A write of a read-only entry is refused with 0x0601_0002 and recorded with its key and requester (R51, R52).
theorem test_refused_write : after (.registerWrite .ecat ⟨0x1000, 0⟩ (num 1)) (dev .op) (fun t =>
    t.num 0x2002 2 == 0x06010002 && t.num 0x2002 1 == 1 && t.num 0x2002 3 == 0x100000 && t.num 0x2002 4 == 2) = true := by
  decide +kernel

-- A write of an RWC entry waits in the pending set; a read does not see it (R73).
theorem test_pending_write : after (.registerWrite .ecat ⟨0x2300, 3⟩ (num 5)) (dev .op) (fun t =>
    lookup t.ctl.pendingSet 0x230003 == some (num 5) && t.num 0x2300 3 == 8) = true := by decide +kernel

-- The range of 0x2300.03 is 1-20.
theorem test_range : (dev .op).writeCode .ecat 0x2300 3 (num 21) = some 0x06090030
    ∧ (dev .op).writeCode .ecat 0x2300 3 (num 20) = none := by decide +kernel

-- Two instants passed at once: the newest pour becomes current (R85).
theorem test_newest_pour_becomes_current :
    after .pourBecomesCurrent { dev .op with ctl := { (dev .op).ctl with
      time := BitVec.ofNat 128 (2 ^ 80), pours := [{ number := 2, tc := 1, delta := [] }, { number := 1, tc := 0, delta := [] }] } }
      (fun t => t.ctl.currentPour == 2 && t.num 0x2013 2 == 2) = true := by decide +kernel

-- Ownership mode 1 shuts the host out in INIT too (R38).
theorem test_shut_out_in_init :
    after (.requestInit .host) { entries .init [(0x200103, num 1)] with ctl := { (dev .init).ctl with owner := none } }
      (fun t => t.num 0x2002 2 == 0x08000021 && t.ctl.owner == none) = true := by decide +kernel

-- A commit freezes the pending set (R74).
theorem test_commit_freezes :
    after (.commitExecute .ecat) { dev .op with ctl := { (dev .op).ctl with pendingSet := [(0x230003, num 5)] } } (fun t =>
      t.ctl.pendingSet == [] && (t.ctl.validating.map Commit.delta) == some [(0x230003, num 5)]) = true := by decide +kernel

-- 0x2100.02 takes ±200 ppm in units of 10^-12; a target above 0 leaves an enabled channel at the top of its range (R107).
theorem test_trim : after (.trimWrite .ecat (BitVec.ofInt 32 (-5))) (dev .op) (fun t => t.int 0x2100 2 == -5) = true
    ∧ after (.trimWrite .ecat 200000001) (dev .op) (fun t => t.num 0x2002 2 == 0x06090030 && t.num 0x2100 2 == 0) = true := by
  decide +kernel

-- A record written into an empty runner stands in slot 0 under sequence number 0 (R20, R498).
theorem test_record_write : after (.recordWrite 5 rec0 0) (run5 id) (fun t =>
    (t.runner 5).w == 1 && (t.runner 5).nextSeq == 1 && t.byteAt 4096 == 0x10) = true := by decide +kernel

-- A full runner drops the record and counts it (R18).
theorem test_record_dropped : after (.recordWrite 5 rec0 0) (run5 (fun r => { r with w := 4, nextSeq := 4 })) (fun t =>
    (t.runner 5).w == 4 && (t.runner 5).nextSeq == 5 && (t.runner 5).drops == 1) = true := by decide +kernel

-- Release of segment 4 frees it and every one before it (R363).
theorem test_release : after (.captureRelease .ecat 0 4) ({ dev .op with caps := [(0, { Cap.off with armed := true, next := 5 })] })
    (fun t => (t.cap 0).released == 5 && t.num 0x2700 0x0F == 4) = true := by decide +kernel

-- Emergency messages leave in order, and an empty queue reads 0 (R90).
theorem test_emergency_read :
    after .emergencyRead { dev .op with ctl := { (dev .op).ctl with hostEmg := [7, 8] } } (fun t =>
      t.ctl.hostEmg == [8] && t.out == [.answer 1 (num 7)]) = true
      ∧ after .emergencyRead (dev .op) (fun t => t.out == [.answer 1 (num 0)]) = true := by decide +kernel

-- A module that is absent takes the link down; a link that was up counts a loss (R562).
theorem test_module_removed :
    after (.modulePoll 0 .absent 0 0) { dev .op with net := { Net.reset with ports := [(0, { EthPort.down with link := 1 })] } } (fun t =>
      (t.port 0).link == 2 && (t.port 0).losses == 1) = true := by decide +kernel

-- Percentage Used at the limit makes a drive worn (R554).
theorem test_wear : after (.wearPoll 0 100 100 10 0) { dev .op with sto := { Sto.reset with drives := [(0, { Drive.absent with st := 2 })] } }
    (fun t => (t.drive 0).st == 3 && (t.drive 0).used == 100) = true := by decide +kernel

-- Above, inside and below with hysteresis (R594).
theorem test_classify : classify 0 11 10 5 2 = 1 ∧ classify 1 8 10 5 2 = 1 ∧ classify 1 7 10 5 2 = 0 ∧ classify 2 7 10 5 2 = 2
    ∧ classify 2 8 10 5 2 = 0 := by decide +kernel

-- A tick of 320 MHz is 3.125 ns, and the fault clock runs on: five sixteenths of a crystal period of 100 MHz (R131, R620).
theorem test_tick : (tick (dev .op)).ctl.crystalCount = 5 ∧ (tick (dev .op)).num 0x2120 1 = 1 ∧ (tick State.reset) = State.reset := by
  decide +kernel

/-! ### Hypotheses of the obligations -/

/-- A window's tone can be as its factory level says and more than 1 dB off it: both forms of `Obligations.ForegroundCalibration`. -/
theorem witness_ForegroundCalibration_tones :
    (∃ level, toneOff 0 39 level = false) ∧ ∃ level, toneOff 0 39 level = true :=
  ⟨⟨Config.factoryTone 0 39, by simp [toneOff]⟩, ⟨Config.factoryTone 0 39 + 129, by simp [toneOff] <;> omega⟩⟩

/-- A state in which background calibration of EVT0 is on and its calibration is neither old nor cold. -/
def calibratedEvt : State :=
  { entries .op [(0x2AF001, num 1), (0x2AF002, num 10), (0x2AF003, num 20)] with
    tiu := { Tiu.reset with interps := [(0, { Interp.factory with calAt := some 0, calTemp := some (Config.ioTemperature 0) })] } }

theorem witness_EventStampsAndIntervals_calibrated :
    (calibratedEvt.interp 0).calAt = some 0 ∧ (calibratedEvt.interp 0).calTemp = some (Config.ioTemperature 0)
      ∧ calibratedEvt.ctl.crystalCount < 0 + calibratedEvt.num 0x2AF0 2 * 1600000000
      ∧ (Config.ioTemperature calibratedEvt.ctl.crystalCount - Config.ioTemperature 0).natAbs < calibratedEvt.num 0x2AF0 3 := by
  have h : calibratedEvt.ctl.crystalCount = 0 := by decide
  have k : calibratedEvt.num 0x2AF0 3 = 20 := by decide
  refine ⟨rfl, rfl, by decide, ?_⟩
  rw [h, k]; simp
/-- Hypotheses of `Obligations.StepTakesTheFrontCommand` are met. -/
theorem witness_StepTakesTheFrontCommand :
    (({ dev .op with pending := [.emergencyRead, .txpdoCycle] } : State).pending = .emergencyRead :: [.txpdoCycle])
    ∧ (Instr.emergencyRead.wellFormed = true ∧ (Instr.sentinelWindowEnd []).wellFormed = false) := by
  refine ⟨?_, ?_⟩
  · decide +kernel
  · decide +kernel

/-- Hypotheses of `Obligations.EmptyQueueTicksTheTimebase` are met. -/
theorem witness_EmptyQueueTicksTheTimebase :
    (State.reset.pending = [] ∧ State.reset.ctl.held = true)
    ∧ ((dev .op).pending = [] ∧ (dev .op).ctl.held = false)
    ∧ ((dev .op).num 0x2102 3 ≠ 2) := by
  refine ⟨?_, ?_, ?_⟩
  · decide +kernel
  · decide +kernel
  · decide +kernel

/-- Hypotheses of `Obligations.EveryResetClearsTheSame` are met. -/
theorem witness_EveryResetClearsTheSame :
    ((10000 : Nat) ≤ 10000)
    ∧ (Live (dev .boot) ∧ (dev .boot).ctl.dev = .boot ∧ (dev .boot).ctl.owner = some .host)
    ∧ (let s : State := { dev .op with flt := { Flt.reset with resetCond := some .supply } }; Live s
        ∧ s.flt.resetCond = some .supply) := by
  refine ⟨?_, ?_, ?_⟩
  · decide +kernel
  · simp only [Live]; decide +kernel
  · simp only [Live]; decide +kernel

/-- Hypotheses of `Obligations.StartUpTimeline` are met. -/
theorem witness_StartUpTimeline :
    (State.reset.ctl.held = true)
    ∧ (let s : State := { dev .init with ctl := { (dev .init).ctl with oscillates := true } }; Live s
        ∧ s.ctl.crystal = false ∧ s.ctl.oscillates = true)
    ∧ (let s : State := { dev .init with ctl := { (dev .init).ctl with crystal := true } }; Live s ∧ s.ctl.crystal = true
        ∧ s.flt.bootSlot ≠ none)
    ∧ (let s : State := { dev .init with ctl := { (dev .init).ctl with firmware := true }, od := [(0x210004, num 1)] };
        Live s ∧ s.ctl.firmware = true ∧ s.num 0x2100 4 = 1)
    ∧ (let s : State := { dev .init with ctl := { (dev .init).ctl with firmware := true, hbmReady := true } }; Live s
        ∧ s.ctl.firmware = true ∧ s.ctl.hbmReady = true ∧ s.num 0x2001 6 = 0) := by
  refine ⟨?_, ?_, ?_, ?_, ?_⟩
  · decide +kernel
  · simp only [Live]; decide +kernel
  · simp only [Live]; decide +kernel
  · simp only [Live]; decide +kernel
  · simp only [Live]; decide +kernel

/-- Hypotheses of `Obligations.OnlyTheOwnerChangesTheState` are met. -/
theorem witness_OnlyTheOwnerChangesTheState :
    (Live (dev .op) ∧ (dev .op).ctl.dev ≠ .init ∧ (dev .op).ctl.owner ≠ some .ecat)
    ∧ (let s : State := { entries .init [(0x200103, num 1)] with ctl := { (dev .init).ctl with owner := none } }; Live s
        ∧ s.mayClaim .host = false ∧ s.ctl.owner ≠ some .host)
    ∧ (let s : State := { dev .op with ctl := { (dev .op).ctl with owner := some .ecat } }; Live s ∧ s.ctl.dev ≠ .init
        ∧ s.ctl.owner ≠ some .host) := by
  refine ⟨?_, ?_, ?_⟩
  · simp only [Live]; decide +kernel
  · simp only [Live]; decide +kernel
  · simp only [Live]; decide +kernel

/-- Hypotheses of `Obligations.StateRequestsAndImplicitCommit` are met. -/
theorem witness_StateRequestsAndImplicitCommit :
    (let s : State := { entries .init [(0x200106, num 1)] with ctl := { (dev .init).ctl with owner := none } }; Live s
        ∧ s.ctl.dev = .init ∧ s.mayClaim .ecat = true ∧ s.num 0x2001 6 ≠ 0)
    ∧ (Live (dev .init) ∧ (dev .init).num 0x2001 6 = 0 ∧ (dev .init).mayClaim .host = true)
    ∧ (∀ d ∈ [DevState.safeop, .op, .preop], Live (dev d) ∧ (dev d).ctl.owner = some .host ∧ (dev d).ctl.dev = d)
    ∧ ((dev .preop).ctl.starting = false)
    ∧ (let s : State := { dev .preop with ctl := { (dev .preop).ctl with starting := true } }; Live s
        ∧ s.ctl.starting = true ∧ (∀ c, c < 4 → (s.chan c).fg = none) ∧ s.clk.event = none ∧ s.clk.retune = none) := by
  refine ⟨?_, ?_, ?_, ?_, ?_⟩
  · simp only [Live]; decide +kernel
  · simp only [Live]; decide +kernel
  · simp only [Live]; decide +kernel
  · decide +kernel
  · simp only [Live]; decide +kernel

/-- Hypotheses of `Obligations.StateRequestsAndImplicitCommit` are met. -/
theorem witness_StateRequestsAndImplicitCommit_2 :
    (let s := dev .preop; let v := (s.asked .safeop).stopAll;
        State.validate { v with ctl := { v.ctl with applied := v.writtenRwp } } v.ctl.pendingSet = none)
    ∧ (let s : State := { dev .preop with ctl := { (dev .preop).ctl with pendingSet := [(0x210001, num 5)] } };
        let v := (s.asked .safeop).stopAll;
        (State.validate { v with ctl := { v.ctl with applied := v.writtenRwp } } v.ctl.pendingSet).isSome = true)
    ∧ ((dev .op).ctl.starting = false)
    ∧ (Live (dev .boot) ∧ (dev .boot).ctl.owner = some .host ∧ (dev .boot).ctl.dev = .boot) := by
  refine ⟨?_, ?_, ?_, ?_⟩
  · simp only []; decide +kernel
  · simp only []; decide +kernel
  · decide +kernel
  · simp only [Live]; decide +kernel

/-- Hypotheses of `Obligations.BlocksStopAndSwitchAtTheirBoundary` are met. -/
theorem witness_BlocksStopAndSwitchAtTheirBoundary :
    (∀ d ∈ [DevState.init, .preop, .boot], Live (dev d) ∧ (dev d).ctl.starting = false)
    ∧ (let s : State := { dev .op with ctl := { (dev .op).ctl with running := true, pours := [{ number := 1, tc := 0, delta := [] }] } };
        Live s ∧ s.ctl.running = true ∧ s.pourFor .cross 0 1 = some 1)
    ∧ (let s : State := { dev .op with ctl := { (dev .op).ctl with pours := [{ number := 1, tc := 0, delta := [] }] } };
        s.ctl.running = false ∧ BlockId.runners ∈ standingBlocks ∧ s.pourFor .runners 0 1 = some 1) := by
  refine ⟨?_, ?_, ?_⟩
  · simp only [Live]; decide +kernel
  · simp only [Live]; decide +kernel
  · simp only []; decide +kernel

/-- Hypotheses of `Obligations.CommitSubmissionAndValidation` are met. -/
theorem witness_CommitSubmissionAndValidation :
    (∀ d ∈ [DevState.preop, .op], Live (dev d) ∧ MayWrite (dev d) .host ∧ (dev d).num 0x2011 5 ≠ 1)
    ∧ (let c : Commit := { delta := [], stamps := [], requester := 1, mode := 0, instant := 0 };
        let s : State := { dev .op with ctl := { (dev .op).ctl with validating := some c, waiting := some c } };
        Live s ∧ s.ctl.validating.isSome = true ∧ s.ctl.waiting.isSome = true)
    ∧ (let c : Commit := { delta := [], stamps := [], requester := 1, mode := 0, instant := 0 };
        let s : State := { dev .op with ctl := { (dev .op).ctl with validating := some c, pendingSet := [(0x210001, num 20480000000)] } };
        Live s ∧ s.ctl.validating = some c ∧ s.ctl.waiting.isNone = true ∧ s.ctl.pendingSet ≠ []) := by
  refine ⟨?_, ?_, ?_⟩
  · simp only [Live, MayWrite]; decide +kernel
  · simp only [Live]; decide +kernel
  · simp only [Live]; decide +kernel

/-- Hypotheses of `Obligations.PoursAndThePendingSet` are met. -/
theorem witness_PoursAndThePendingSet :
    (let p : Pour := { number := 1, tc := 0, delta := [] };
        let s : State := { dev .op with ctl := { (dev .op).ctl with pours := [p] } }; Live s
        ∧ s.outstanding.find? (fun q => decide (q.tc.toNat ≤ s.now.toNat)) = some p)
    ∧ (let s : State := { dev .op with ctl := { (dev .op).ctl with pendingSet := [(0x210001, num 1)] } }; MayWrite s .ecat
        ∧ lookup s.ctl.pendingSet 0x210001 = some (num 1))
    ∧ (let q : Commit := { delta := [(0x210001, num 2)], stamps := [], requester := 1, mode := 0, instant := 0 };
        let s : State := { dev .op with ctl := { (dev .op).ctl with waiting := some q } };
        lookup s.ctl.pendingSet 0x210001 = none ∧ s.ctl.waiting = some q ∧ lookup q.delta 0x210001 = some (num 2))
    ∧ (let s := dev .op; lookup s.ctl.pendingSet 0x210001 = none ∧ s.ctl.waiting = none ∧ s.ctl.validating = none
        ∧ ∀ p ∈ s.outstanding, lookup p.delta 0x210001 = none) := by
  refine ⟨?_, ?_, ?_, ?_⟩
  · simp only [Live]; decide +kernel
  · simp only [MayWrite]; decide +kernel
  · simp only []; decide +kernel
  · simp only []; decide +kernel

/-- Hypotheses of `Obligations.WriteRefusalsInOrder` are met. -/
theorem witness_WriteRefusalsInOrder :
    (Requester.host ≠ .cluster 0 ∧ Dict.row 0x2003 1 = none ∧ Dict.indexExists 0x2003 = false)
    ∧ (Dict.row 0x2001 0xFF = none ∧ Dict.indexExists 0x2001 = true)
    ∧ ((Dict.row 0x1000 0).map EntryRow.acc = some .const ∧ (Dict.row 0x2001 1).map EntryRow.acc = some .ro)
    ∧ ((dev .init).ctl.dev = .init ∧ ¬ ((0x2100 : Nat) = 0x2001 ∧ ((1 : Nat) = 2 ∨ (1 : Nat) = 3))
        ∧ (Dict.row 0x2100 1).map EntryRow.acc = some .rwc)
    ∧ ((dev .op).ctl.dev.runs = true ∧ (Dict.row 0x1C12 0).map EntryRow.acc = some .rwp)
    ∧ ((Dict.row 0x2001 3).map (fun r => r.admits (ownBits r (num 3))) = some false)
    ∧ ((Dict.row 0x2001 3).map (fun r => r.admits (ownBits r (num 2))) = some true ∧ imageOk 0x2001 3 (num 2) = true
        ∧ (Dict.row 0x2001 3).map EntryRow.acc = some .rw) := by
  refine ⟨?_, ?_, ?_, ?_, ?_, ?_, ?_⟩
  · decide +kernel
  · decide +kernel
  · decide +kernel
  · decide +kernel
  · decide +kernel
  · decide +kernel
  · decide +kernel

/-- Hypotheses of `Obligations.EntryWrites` are met. -/
theorem witness_EntryWrites :
    (Live (dev .op) ∧ (dev .op).early .ecat 0x1000 = false ∧ (dev .op).writeCode .ecat 0x1000 0 (num 1) = some 0x06010002)
    ∧ (let s := dev .preop; Live s ∧ s.early .ecat 0x1C12 = false ∧ (Dict.row 0x1C12 0).map EntryRow.acc = some .rwp
        ∧ s.writeCode .ecat 0x1C12 0 (num 1) = none ∧ (s.ownEffect .ecat 0x1C12 0 (num 1)).isNone = true)
    ∧ (let s := dev .op; (Dict.row 0x2100 1).map EntryRow.acc = some .rwc
        ∧ s.writeCode .ecat 0x2100 1 (num 20480000000) = none
        ∧ (s.ownEffect .ecat 0x2100 1 (num 20480000000)).isNone = true) := by
  refine ⟨?_, ?_, ?_⟩
  · simp only [Live]; decide +kernel
  · simp only [Live]; decide +kernel
  · simp only []; decide +kernel

/-- Hypotheses of `Obligations.SdoServices` are met. -/
theorem witness_SdoServices :
    (Live (dev .op) ∧ (Dict.row 0x2001 1).map EntryRow.acc = some .ro ∧ isGroup 0x2001 = false)
    ∧ ((Dict.row 0x2010 3).map EntryRow.acc = some .wo)
    ∧ (Dict.row 0x2003 1 = none)
    ∧ ((dev .op).writeCode .ecat 0x1000 0 (num 1) = some 0x06010002)
    ∧ ((dev .preop).writeCode .ecat 0x1C12 0 (num 1) = none) := by
  refine ⟨?_, ?_, ?_, ?_, ?_⟩
  · simp only [Live]; decide +kernel
  · decide +kernel
  · decide +kernel
  · decide +kernel
  · decide +kernel

/-- Hypotheses of `Obligations.SdoServices` are met. -/
theorem witness_SdoServices_2 :
    (Dict.indexExists 0x2001 = true)
    ∧ (subsFrom 0x1018 0 = [1, 2, 3, 4] ∧ ∀ b ∈ subsFrom 0x1018 0, (Dict.row 0x1018 b).map EntryRow.acc = some .const)
    ∧ (sdoValues 0x1018 (subsFrom 0x1018 0) [4, 0, 0, 0] = some [(1, num 4)]
        ∧ (dev .op).writeCode .ecat 0x1018 1 (num 4) = some 0x06010002)
    ∧ ((match sdoInfo (.list 1) with | .ok _ => true | .error _ => false) = true
        ∧ (match sdoInfo (.object 0x2003) with | .ok _ => 0 | .error code => code) = 0x06020000) := by
  refine ⟨?_, ?_, ?_, ?_⟩
  · decide +kernel
  · decide +kernel
  · decide +kernel
  · decide +kernel

/-- Hypotheses of `Obligations.WideEntriesAndSnapshots` are met. -/
theorem witness_WideEntriesAndSnapshots :
    (let s := entries .preop [(0x200106, num 1)]; Live s ∧ MayWrite s .host ∧ s.num 0x2001 6 = 1)
    ∧ (let s := dev .op; Live s ∧ s.early .ecat 0x2120 = false ∧ isGroup 0x2120 = true
        ∧ (Dict.row 0x2120 2).map EntryRow.acc = some .ro ∧ s.latchOf .ecat 0x212001 = none
        ∧ (Dict.row 0x2120 2).map (fun r => decide (r.ty ≠ .t96)) = some true)
    ∧ (let l : Latch := { requester := 2, lowest := 0x212001, values := [(2, num 2)] };
        let s : State := { dev .op with ctl := { (dev .op).ctl with latches := [l] } };
        s.latchOf .ecat 0x212001 = some l ∧ l.value 2 = some (num 2)) := by
  refine ⟨?_, ?_, ?_⟩
  · simp only [Live, MayWrite]; decide +kernel
  · simp only [Live]; decide +kernel
  · simp only []; decide +kernel

/-- Hypotheses of `Obligations.Bar0Forms` are met. -/
theorem witness_Bar0Forms :
    (Live (dev .op) ∧ (0x08000000 : Nat) ≤ 0x08000000)
    ∧ ((7 : Nat) < 0x08000000 ∧ formOk 7 4 = false)
    ∧ (Dict.row 0x2003 1 = none ∧ entryWidth 0x2003 0 ≠ 96 ∧ (entries .preop [(0x200106, num 1)]).num 0x2001 6 = 1
        ∧ (entries .preop [(0x200106, num 1)]).ctl.dev = .preop)
    ∧ (MayWrite (dev .op) .host) := by
  refine ⟨?_, ?_, ?_, ?_⟩
  · simp only [Live]; decide +kernel
  · decide +kernel
  · decide +kernel
  · simp only [MayWrite]; decide +kernel

/-- Hypotheses of `Obligations.ProcessData` are met. -/
theorem witness_ProcessData :
    (Live (dev .preop) ∧ (dev .preop).ctl.dev ≠ .op)
    ∧ (let s : State := { dev .op with ctl := { (dev .op).ctl with applied := [(0x160000, num 1), (0x160001, num 0x20110308), (0x1C1200, num 1), (0x1C1201, num 0x1600)] } };
        Live s ∧ s.ctl.dev = .op ∧ s.mapped 0x1C12 0x1600 4 = [(0x2011, 3, 8)] ∧ ([1] : List Byte).length ≤ 256
        ∧ ofLeBytes [1] % 256 ≤ 1)
    ∧ ((dev .safeop).ctl.dev.runs = true) := by
  refine ⟨?_, ?_, ?_⟩
  · simp only [Live]; decide +kernel
  · simp only [Live]; decide +kernel
  · decide +kernel

/-- Hypotheses of `Obligations.MailboxFirmwareAndDebug` are met. -/
theorem witness_MailboxFirmwareAndDebug :
    (Live (dev .op) ∧ (dev .op).ctl.dev ≠ .init ∧ (dev .op).num 0x2082 2 ≠ 1)
    ∧ ((entries .op [(0x208202, num 1)]).num 0x2082 2 = 1)
    ∧ (let s : State := { dev .op with ctl := { (dev .op).ctl with hostEmg := [7], ecatEmg := [9] } };
        s.ctl.hostEmg = 7 :: [] ∧ s.ctl.ecatEmg = 9 :: [])
    ∧ ((dev .op).ctl.hostEmg = [])
    ∧ (Live (dev .boot) ∧ (dev .boot).ctl.dev = .boot ∧ (dev .boot).flt.runningB = false) := by
  refine ⟨?_, ?_, ?_, ?_, ?_⟩
  · simp only [Live]; decide +kernel
  · decide +kernel
  · simp only []; decide +kernel
  · decide +kernel
  · simp only [Live]; decide +kernel

/-- Hypotheses of `Obligations.MailboxFirmwareAndDebug` are met. -/
theorem witness_MailboxFirmwareAndDebug_2 :
    (let s : State := { dev .boot with ctl := { (dev .boot).ctl with image := some default }, flt := { Flt.reset with runningB := true } };
        s.ctl.image = some default ∧ s.flt.runningB = true)
    ∧ ((64 : Nat) < ({ (default : FwImage) with security := 65 } : FwImage).security)
    ∧ (let s : State := { entries .op [(0x208202, num 1)] with ctl := { (dev .op).ctl with mbxRequest := some [] } };
        s.num 0x2082 2 = 1 ∧ s.ctl.mbxRequest = some [])
    ∧ (let s : State := { entries .op [(0x208202, num 1)] with ctl := { (dev .op).ctl with mbxAnswers := [[1]] } };
        s.num 0x2082 2 = 1 ∧ s.ctl.mbxRequest = none) := by
  refine ⟨?_, ?_, ?_, ?_⟩
  · simp only []; decide +kernel
  · decide +kernel
  · simp only []; decide +kernel
  · simp only []; decide +kernel

/-- Hypotheses of `Obligations.ReferencesAndClockEvents` are met. -/
theorem witness_ReferencesAndClockEvents :
    (let s := entries .op [(0x210004, num 2)]; Live s ∧ s.synthsStarted = true ∧ refinAccepts (s.app 0x2102 1) 1 = true
        ∧ s.app 0x2102 1 ≠ 4)
    ∧ (let s : State := { entries .op [(0x210004, num 2)] with ctl := { (dev .op).ctl with applied := [(0x210201, num 2)] } };
        s.synthsStarted = true ∧ refinAccepts (s.app 0x2102 1) 1 = false ∧ s.app 0x2102 1 ≠ 4)
    ∧ (let s := entries .op [(0x210203, num 2)]; Live s ∧ s.num 0x2102 3 = 2 ∧ MayWrite s .host ∧ (1 : Byte).toNat ≤ 1)
    ∧ (let s := entries .op [(0x210004, num 2)]; Live s ∧ Quiet s ∧ s.clk.event = none ∧ s.synthsStarted = true)
    ∧ (let s : State := { dev .op with clk := { Clk.reset with event := some { cause := 2, start := 0 } } }; Live s
        ∧ Quiet s ∧ s.clk.event = some { cause := 2, start := 0 } ∧ s.clk.retune = none) := by
  refine ⟨?_, ?_, ?_, ?_, ?_⟩
  · simp only [Live]; decide +kernel
  · simp only []; decide +kernel
  · simp only [Live, MayWrite]; decide +kernel
  · simp only [Live, Quiet]; decide +kernel
  · simp only [Live, Quiet]; decide +kernel

/-- Hypotheses of `Obligations.TrimAndRetune` are met. -/
theorem witness_TrimAndRetune :
    (let v : U32 := BitVec.ofInt 32 (-200000000); Live (dev .op) ∧ MayWrite (dev .op) .host ∧ -200000000 ≤ v.toInt
        ∧ v.toInt ≤ 200000000 ∧ (dev .op).trimFits v.toInt = true ∧ v ≠ 0)
    ∧ (let v : U32 := 200000001; 200000000 < v.toInt)
    ∧ ((dev .op).trimFits 1 = false)
    ∧ (let s := entries .op [(0x210002, num 5), (0x210004, num 3)]; Live s ∧ s.num 0x2100 4 = 3 ∧ s.int 0x2100 2 = 5)
    ∧ (let s := poured .clocks [(0x210001, num 10240000000)]; Live s ∧ s.ctl.running = true ∧ s.clk.retune = none
        ∧ s.cfg (s.synaPour) 0x2100 1 ≠ s.clk.rate ∧ s.gathers = false)
    ∧ (let s : State := { poured .clocks [(0x210001, num 10240000000)] with chans := [(0, { Chan.off with on := true, shadow := some 3 })] };
        s.cfg (s.synaPour) 0x2100 1 ≠ s.clk.rate ∧ s.gathers = true)
    ∧ (let s := poured .clocks []; s.ctl.running = true ∧ s.cfg (s.synaPour) 0x2100 1 = s.clk.rate ∧ s.clk.retune = none)
    ∧ (let s : State := { dev .op with clk := { Clk.reset with retune := some (0, 10240000000) } }; Live s
        ∧ s.clk.retune = some (0, 10240000000)) := by
  refine ⟨?_, ?_, ?_, ?_, ?_, ?_, ?_, ?_⟩
  · simp only [Live, MayWrite]; decide +kernel
  · simp only []; decide +kernel
  · decide +kernel
  · simp only [Live]; decide +kernel
  · simp only [Live]; decide +kernel
  · simp only []; decide +kernel
  · simp only []; decide +kernel
  · simp only [Live]; decide +kernel

/-- Hypotheses of `Obligations.LoopsAndClockOutputs` are met. -/
theorem witness_LoopsAndClockOutputs :
    (let s : State := { dev .op with clk := { Clk.reset with target := [(0, 4095), (5, 3)], phase := [(6, 1)] } }; Live s
        ∧ s.loopPhase 0 < s.loopTarget 0 ∧ s.loopPhase 5 < s.loopTarget 5 ∧ s.loopTarget 6 < s.loopPhase 6
        ∧ s.loopPhase 7 = s.loopTarget 7)
    ∧ (MayWrite (dev .op) .host ∧ (dev .op).num 0x2113 6 = 0 ∧ (dev .op).clk.event = none ∧ (dev .op).clk.retune = none)
    ∧ ((entries .op [(0x211306, num 1)]).num 0x2113 6 ≠ 0)
    ∧ (let s : State := { dev .op with clk := { Clk.reset with event := some { cause := 0, start := 0 } } };
        s.num 0x2110 6 = 0 ∧ s.clk.event.isSome = true)
    ∧ ((dev .op).ctl.crystal = false)
    ∧ (let s : State := { entries .op [(0x210004, num 2), (0x210101, num 1)] with ctl := { (dev .op).ctl with crystal := true } };
        s.ctl.crystal = true ∧ s.num 0x2101 1 = 1)
    ∧ (∀ b ∈ [false, true], let s : State := { entries .op [(0x210004, num 2), (0x210101, num 2)] with ctl := { (dev .op).ctl with crystal := true }, clk := { Clk.reset with refin := b } };
        s.ctl.crystal = true ∧ s.num 0x2100 4 = 2 ∧ s.num 0x2101 1 = 2 ∧ s.clk.refin = b)
    ∧ (let s := poured .clocks [(0x211005, num 1), (0x211002, num 0)]; s.num 0x2110 6 = 0 ∧ s.clk.event = none
        ∧ s.clk.retune = none ∧ s.bcfg .clocks 0x2110 5 = 1 ∧ s.bcfg .clocks 0x2110 2 = 0
        ∧ s.bcfg .clocks 0x2110 3 ≠ 0) := by
  refine ⟨?_, ?_, ?_, ?_, ?_, ?_, ?_, ?_⟩
  · simp only [Live]; decide +kernel
  · simp only [MayWrite]; decide +kernel
  · decide +kernel
  · simp only []; decide +kernel
  · decide +kernel
  · simp only []; decide +kernel
  · simp only []; decide +kernel
  · simp only []; decide +kernel

/-- Hypotheses of `Obligations.PpsinEdges` are met. -/
theorem witness_PpsinEdges :
    (∀ b ∈ [0, 1, 2], let s : State := { dev .op with clk := { Clk.reset with ppsQual := true, ppsPred := some 0, ppsBad := b } };
        Live s ∧ s.clk.ppsQual = true ∧ s.clk.ppsPred = some 0 ∧ s.int 0x2122 2 = 0 ∧ s.clk.ppsBad = b
        ∧ near100ns 28147497 0 = true ∧ near100ns 28147498 0 = false)
    ∧ (let s : State := { entries .op [(0x200106, num 1), (0x210004, num 2)] with clk := { Clk.reset with ppsLast := some 0, ppsGood := 2, ppsLabel := some 7 } };
        Live s ∧ s.clk.ppsQual = false ∧ s.synthsStarted = true ∧ s.num 0x2001 6 = 1 ∧ s.int 0x2122 2 = 0
        ∧ s.clk.ppsLast = some 0 ∧ near100ns (nextSecond 0) (nextSecond 0) = true ∧ s.clk.ppsGood = 2
        ∧ s.clk.ppsLabel = some 7)
    ∧ ((entries .op [(0x212204, num 1)]).num 0x2122 4 ≠ 0)
    ∧ (MayWrite (dev .op) .host ∧ (5 : U64).toNat < 2 ^ 48)
    ∧ (false = ((dev .op).app 0x2122 1 == 1) ∧ true ≠ ((dev .op).app 0x2122 1 == 1)) := by
  refine ⟨?_, ?_, ?_, ?_, ?_⟩
  · simp only [Live]; decide +kernel
  · simp only [Live]; decide +kernel
  · decide +kernel
  · simp only [MayWrite]; decide +kernel
  · decide +kernel

/-- Hypotheses of `Obligations.TimeSources` are met. -/
theorem witness_TimeSources :
    (∀ c ∈ [1, 5], Live (entries .op [(0x212003, num c)]) ∧ (entries .op [(0x212003, num c)]).clk.freeRun = none
        ∧ (entries .op [(0x212003, num c)]).num 0x2120 3 = c)
    ∧ ((entries .op [(0x212002, num 3)]).num 0x2120 2 = 3)
    ∧ (let s : State := { dev .op with ctl := { (dev .op).ctl with applied := [(0x212101, num 5)] } }; MayWrite s .ecat
        ∧ s.clk.everValid = false ∧ s.sources.find? (fun c => c == 5 || s.qualified c) = some 5)
    ∧ (let s : State := { dev .op with ctl := { (dev .op).ctl with applied := [(0x212301, num 3)] } }; Live s
        ∧ s.ptpOn 0 = true ∧ s.ptpOn 1 = true ∧ s.int 0x2123 5 = 0 ∧ (s.ptpPort 0).master = none)
    ∧ (let a : Announce := { priority1 := 1, clockClass := 6, accuracy := 0, variance := 0, priority2 := 0, identity := 1 };
        let b : Announce := { priority1 := 2, clockClass := 6, accuracy := 0, variance := 0, priority2 := 0, identity := 2 };
        announceRank a < announceRank b ∧ a.identity ≠ b.identity)
    ∧ (let h : PtpHeader := { domain := 0, transport := 1, identity := 1 }; (dev .op).ptpTakes 0 h = false
        ∧ (dev .op).fromMaster 0 h = false)
    ∧ (let h : PtpHeader := { domain := 0, transport := 1, identity := 1 };
        let a : Announce := { priority1 := 1, clockClass := 6, accuracy := 0, variance := 0, priority2 := 0, identity := 1 };
        let s : State := { dev .op with ctl := { (dev .op).ctl with applied := [(0x212301, num 3)] }, clk := { Clk.reset with ptp := [(1, { PtpPort.idle with master := some a })] } };
        s.ptpTakes 0 h = true ∧ s.ptpTakes 1 h = true ∧ s.fromMaster 1 h = true ∧ s.int 0x2123 5 = 0
        ∧ false = (s.app 0x2123 3 == 1) ∧ true ≠ (s.app 0x2123 3 == 1) ∧ (s.ptpPort 1).master = some a)
    ∧ (let s : State := { dev .op with ctl := { (dev .op).ctl with applied := [(0x212301, num 3), (0x212303, num 1)] } };
        s.ptpTakes 0 { domain := 0, transport := 1, identity := 1 } = true ∧ true = (s.app 0x2123 3 == 1)) := by
  refine ⟨?_, ?_, ?_, ?_, ?_, ?_, ?_, ?_⟩
  · simp only [Live]; decide +kernel
  · decide +kernel
  · simp only [MayWrite]; decide +kernel
  · simp only [Live]; decide +kernel
  · simp only []; decide +kernel
  · simp only []; decide +kernel
  · simp only []; decide +kernel
  · simp only []; decide +kernel

/-- Hypotheses of `Obligations.SyncAlignment` are met. -/
theorem witness_SyncAlignment :
    (let s : State := { dev .preop with ctl := { (dev .preop).ctl with applied := [(0x213001, num 2)] }, od := [(0x213001, num 2)] };
        Live s ∧ MayWrite s .host ∧ s.ctl.dev = .preop ∧ s.follows = true)
    ∧ (MayWrite (dev .op) .host ∧ (dev .op).ctl.dev ≠ .preop)
    ∧ (let s : State := { dev .op with clk := { Clk.reset with aligning := true } }; s.clk.aligning = true
        ∧ ([] : List T96).length < 256)
    ∧ (let s : State := { dev .op with ctl := { (dev .op).ctl with applied := [(0x213001, num 2)] } };
        s.ctl.dev.runs = true ∧ s.follows = true ∧ (s.residualFs (s.syncResidual 0)).natAbs ≤ 10000
        ∧ 10000 < (s.residualFs (s.syncResidual 3000)).natAbs ∧ s.clk.slipRun ≠ 15)
    ∧ (let s : State := { { dev .op with ctl := { (dev .op).ctl with applied := [(0x213001, num 2)] } } with clk := { Clk.reset with slipRun := 15 } };
        s.ctl.dev.runs = true ∧ s.follows = true ∧ 10000 < (s.residualFs (s.syncResidual 3000)).natAbs
        ∧ s.clk.slipRun = 15)
    ∧ (let s : State := { dev .op with ctl := { (dev .op).ctl with applied := [(0x213001, num 1)] } }; s.app 0x2130 1 = 1) := by
  refine ⟨?_, ?_, ?_, ?_, ?_, ?_⟩
  · simp only [Live, MayWrite]; decide +kernel
  · simp only [MayWrite]; decide +kernel
  · simp only []; decide +kernel
  · simp only []; decide +kernel
  · simp only []; decide +kernel
  · simp only []; decide +kernel

/-- Hypotheses of `Obligations.SyncAlignment` are met. -/
theorem witness_SyncAlignment_2 :
    ((dev .op).app 0x2130 1 = 0)
    ∧ (let s : State := { { dev .op with ctl := { (dev .op).ctl with applied := [(0x213001, num 2)] } } with clk := { Clk.reset with aligning := true } };
        s.clk.aligning = true ∧ 256 ≤ (List.replicate 256 (0 : T96)).length
        ∧ s.syncRegular (List.replicate 256 0) = false)
    ∧ (let s : State := { { dev .op with ctl := { (dev .op).ctl with applied := [(0x213001, num 2)] } } with clk := { Clk.reset with aligning := true } };
        let l : List T96 := (List.range 256).map (fun i => BitVec.ofNat 96 ((8 * i + 0) * 2 ^ 65 / 20480000000));
        s.syncEntry 2 = 20 ∧ 256 ≤ l.length ∧ s.syncRegular l = true
        ∧ l.all (fun e => decide ((s.syncResidual e).natAbs ≤ 2 ^ (s.syncEntry 2 - 2) * 2 ^ 48)) = true)
    ∧ (let s : State := { { dev .op with ctl := { (dev .op).ctl with applied := [(0x213001, num 2)] } } with clk := { Clk.reset with aligning := true } };
        let l : List T96 := (List.range 256).map (fun i => BitVec.ofNat 96 ((8 * i + 3) * 2 ^ 65 / 20480000000));
        256 ≤ l.length ∧ s.syncRegular l = true
        ∧ l.any (fun e => decide (2 ^ (s.syncEntry 2 - 2) * 2 ^ 48 < (s.syncResidual e).natAbs)) = true)
    ∧ ((0 : U64).toNat % 2 ^ (dev .op).app 0x2130 2 = 0 ∧ (1 : U64).toNat % 2 ^ (dev .op).app 0x2130 2 ≠ 0)
    ∧ (∀ b ∈ [false, true], let s : State := { { dev .op with ctl := { (dev .op).ctl with applied := [(0x213001, num 3)] } } with clk := { Clk.reset with aligned := b } };
        s.app 0x2130 1 = 3 ∧ s.clk.aligned = b) := by
  refine ⟨?_, ?_, ?_, ?_, ?_, ?_⟩
  · decide +kernel
  · simp only []; decide +kernel
  · simp only []; decide +kernel
  · simp only []; decide +kernel
  · decide +kernel
  · simp only []; decide +kernel

/-- Hypotheses of `Obligations.FramesAndTheRiser` are met. -/
theorem witness_FramesAndTheRiser :
    (Live (dev .op) ∧ ((dev .op).chan 0).delivers = false ∧ ((dev .op).chan 0).discard = false)
    ∧ (((chan0 id).chan 0).delivers = true ∧ (99 : Nat) < 100 ∧ (100 : Nat) ≤ 100
        ∧ (0 : Int) ≤ 100 * (chan0 id).bcfgInt (.conditioner 0) 0x2200 7
        ∧ 100 * (chan0 id).bcfgInt (.conditioner 0) 0x2200 7 < 1 ∧ ((chan0 id).chan 0).counter % 4096 = 0)
    ∧ (((chan0 (fun h => { h with discard := true })).chan 0).discard = true)
    ∧ (lookAhead < 18 ∧ 4113 ≤ frameSamples)
    ∧ (((chan0 (fun h => { h with counter := 100 })).chan 0).counter % 4096 ≠ 0)
    ∧ (let s := chan0 (fun h => { h with discard := true }); (s.chan 0).delivers = false ∧ (s.chan 0).on = true
        ∧ (s.chan 0).gated = false ∧ (s.chan 0).shed = false)
    ∧ (∀ g ∈ [false, true], let s := chan0 (fun h => { h with gated := g, shed := !g }); (s.chan 0).delivers = false
        ∧ (s.chan 0).gated = g ∧ (s.chan 0).shed = !g) := by
  refine ⟨?_, ?_, ?_, ?_, ?_, ?_, ?_⟩
  · simp only [Live]; decide +kernel
  · decide +kernel
  · decide +kernel
  · decide +kernel
  · decide +kernel
  · simp only []; decide +kernel
  · simp only []; decide +kernel

/-- Hypotheses of `Obligations.BackgroundCalibrationAndSpares` are met. -/
theorem witness_BackgroundCalibrationAndSpares :
    (let s : State := { chan0 id with od := [(0x220301, num 0), (0x2F8003, num 1)] }; Live s ∧ (s.chan 0).delivers = true
        ∧ (s.chan 0).shadow = none ∧ s.num 0x2F80 3 = 1 ∧ s.hea.level = 0 ∧ s.num 0x2203 1 = 0 ∧ s.retuneDue = false
        ∧ (s.chan 0).takeover = none ∧ ([{ slot := 0, spare := 0, before := 0, after := 0 }] : List GatherPair) ≠ [])
    ∧ (((dev .op).chan 0).delivers = false ∧ ((dev .op).chan 0).shadow = none ∧ ((dev .op).chan 0).est = none
        ∧ ((dev .op).chan 0).takeover = none ∧ ((dev .op).chan 0).cmpTakeover = false)
    ∧ (let s := chan0 (fun h => { h with shadow := some 63 }); Live s ∧ (s.chan 0).shadow = some 63)
    ∧ (let x : BgEst := { slot := 0, at' := 0, est := { offset := 1, gain := 32768, skew := 0, loud := true } };
        let s := chan0 (fun h => { h with est := some x, elements := List.replicate 65 default });
        (s.chan 0).est = some x ∧ s.now.toNat < (t96Add x.at' (nsToT96 100000)).toNat)
    ∧ (∀ b ∈ [true, false], let x : BgEst := { slot := 0, at' := 0, est := { offset := 1, gain := 32768, skew := 0, loud := b } };
        let y : BgEst := { x with est := { x.est with offset := 100000000 } };
        let s : State := { chan0 (fun h => { h with est := some x, elements := List.replicate 65 { (default : Element) with gain := 32768 } }) with ctl := { (dev .op).ctl with time := BitVec.ofNat 128 (2 ^ 80) } };
        (t96Add x.at' (nsToT96 100000)).toNat ≤ s.now.toNat ∧ 64 ≤ s.num 0x2203 2
        ∧ (updateElement ((s.elementsOf 0).getD 0 default) x.est).isSome = true
        ∧ updateElement ((s.elementsOf 0).getD 0 default) y.est = none)
    ∧ (∀ k ∈ [0, 63], let s := chan0 (fun h => { h with takeover := some k, cmpTakeover := true, elements := List.replicate 65 default });
        (s.chan 0).takeover = some k ∧ k < 64 ∧ (s.elementsOf 0).length = 65 ∧ (s.chan 0).cmpTakeover = true)
    ∧ ((entries .op [(0x220302, num 63)]).num 0x2203 2 < 64)
    ∧ ((-5120 : Int) ≤ -5120 ∧ ¬ (-5120 : Int) ≤ -5121) := by
  refine ⟨?_, ?_, ?_, ?_, ?_, ?_, ?_, ?_⟩
  · simp only [Live]; decide +kernel
  · decide +kernel
  · simp only [Live]; decide +kernel
  · simp only []; decide +kernel
  · simp only []; decide +kernel
  · simp only []; decide +kernel
  · decide +kernel
  · decide +kernel

/-- Hypotheses of `Obligations.ForegroundCalibration` are met. -/
theorem witness_ForegroundCalibration :
    (Live (dev .op) ∧ (dev .op).fgRequest 0 = none ∧ ((dev .op).chan 0).fg = none)
    ∧ (let s : State := { poured (.conditioner 0) [(0x2F8001, num 1)] with chans := [(0, { Chan.off with on := true })] };
        Live s ∧ s.fgRequest 0 = some 1 ∧ (s.chan 0).fgPour ≠ 1 ∧ (s.chan 0).delivers = true ∧ s.retuneDue = false)
    ∧ (let s : State := { poured (.conditioner 0) [(0x2F8001, num 1)] with chans := [(0, { Chan.off with on := true, fgPour := 1 })] };
        s.fgRequest 0 = some 1 ∧ (s.chan 0).fgPour = 1)
    ∧ (let f : Fg := { start := 0, settled := false, windows := 0, result := 0, made := none, auto := false };
        let s := chan0 (fun h => { h with fg := some f }); Live s ∧ (s.chan 0).fg = some f ∧ f.settled = false
        ∧ f.result = 0 ∧ s.retuneDue = false ∧ (-5121 : Int) < -5120)
    ∧ (let f : Fg := { start := 0, settled := true, windows := 0, result := 0, made := none, auto := false };
        let s := chan0 (fun h => { h with fg := some f }); (s.chan 0).fg = some f ∧ f.settled = true ∧ f.result = 0
        ∧ f.windows < 40 ∧ toneOff 0 f.windows 0 = false ∧ s.isLasting .tone (elementOf 0 0) = false
        ∧ s.retuneDue = false) := by
  refine ⟨?_, ?_, ?_, ?_, ?_⟩
  · simp only [Live]; decide +kernel
  · simp only [Live]; decide +kernel
  · simp only []; decide +kernel
  · simp only [Live]; decide +kernel
  · simp only []; decide +kernel

/-- Hypotheses of `Obligations.ForegroundCalibration` are met. -/
theorem witness_ForegroundCalibration_2 :
    (let f : Fg := { start := 0, settled := true, windows := 40, result := 0, made := none, auto := false };
        let cal : CalData := { elements := List.replicate 65 { (default : Element) with gain := 32768 }, taps := List.replicate 33 0 };
        let s := chan0 (fun h => { h with fg := some f }); (s.chan 0).fg = some f ∧ f.windows = 40 ∧ f.result = 0
        ∧ cal.elements.length = 65 ∧ cal.taps.length = 33
        ∧ ∀ k, k < 64 → elementInRange (cal.elements.getD k default).offset (cal.elements.getD k default).gain (cal.elements.getD k default).skew = true
        ∧ ∀ e ∈ (s.chan 0).sets, e.1 < 8)
    ∧ (elementInRange 0 0 0 = false)
    ∧ (let f : Fg := { start := 0, settled := true, windows := 40, result := 1, made := none, auto := false };
        let s := chan0 (fun h => { h with fg := some f }); f.result ≠ 0 ∧ ∀ e ∈ (s.chan 0).sets, e.1 < 8)
    ∧ (let k : CalSet := { key := 20480000000, elements := List.replicate 65 default, taps := List.replicate 33 0 };
        let f : Fg := { start := 0, settled := true, windows := 40, result := 1, made := some k, auto := false };
        let s := chan0 (fun h => { h with fg := some f, sets := [(0, k)] }); (s.chan 0).fg = some f ∧ f.result ≠ 0
        ∧ f.made.isSome = true ∧ (s.chan 0).setOf (s.chanRate 0) = some (0, k)) := by
  refine ⟨?_, ?_, ?_, ?_⟩
  · simp only []; decide +kernel
  · decide +kernel
  · simp only []; decide +kernel
  · simp only []; decide +kernel

/-- Hypotheses of `Obligations.DdcOutputsResetsAndFades` are met. -/
theorem witness_DdcOutputsResetsAndFades :
    (let s : State := { poured (.ddc 0 0) [(0x230001, num 1), (0x230003, num 1)] with chans := [(0, { Chan.off with on := true, frames := [frame0 0] })], ddcs := [(0, { Ddc.off with on := true, base := 1 })] };
        let d := s.ddc 0 0; let ne := d.nextEnd (s.ddcBase 0 0); Live s ∧ d.on = true ∧ d.resetDue = none
        ∧ d.resumeIx = none ∧ (s.chan 0).covers ne (ne + 1) = true)
    ∧ (let s : State := { poured (.ddc 0 0) [(0x230001, num 1), (0x230003, num 1)] with chans := [(0, { Chan.off with on := true, frames := [frame0 0] })], ddcs := [(0, { Ddc.off with on := true, base := 1, resetDue := some 4096, resumeIx := some 4096 })] };
        let d := s.ddc 0 0; let ne := d.nextEnd (s.ddcBase 0 0); d.on = true ∧ d.resetDue = some 4096
        ∧ d.resumeIx = some 4096 ∧ ne < 4096 ∧ (s.chan 0).covers ne (ne + 1) = true ∧ s.ddcReady 0 0 = true)
    ∧ (∀ r ∈ [0, 1], let s : State := { poured (.ddc 0 0) [(0x230001, num 1), (0x230003, num 1)] with chans := [(0, { Chan.off with on := true, frames := [frame0 0] })], ddcs := [(0, { Ddc.off with on := true, base := 1, resetDue := some 0, resumeIx := some r })] };
        let d := s.ddc 0 0; let ne := d.nextEnd (s.ddcBase 0 0); d.resetDue = some 0 ∧ 0 ≤ ne ∧ d.resumeIx = some r
        ∧ r ≤ ne)
    ∧ (let s : State := { poured (.ddc 0 0) [(0x230001, num 1), (0x230003, num 1)] with chans := [(0, { Chan.off with on := true, frames := [] })], ddcs := [(0, { Ddc.off with on := true, base := 1 })] };
        let d := s.ddc 0 0; let ne := d.nextEnd (s.ddcBase 0 0); (s.chan 0).covers ne (ne + 1) = false)
    ∧ (((dev .op).ddc 0 0).on = false ∧ ((dev .op).ddc 0 0).resetDue = none ∧ ((dev .op).ddc 0 0).fade = none)
    ∧ (let s : State := { poured (.ddc 0 0) [(0x230001, num 1), (0x230002, num 4)] with chans := [(0, { Chan.off with on := true, frames := [frame0 0] })], ddcs := [(0, { Ddc.off with on := true, base := 1 })] };
        let d := s.ddc 0 0; let ne := d.nextEnd (s.ddcBase 0 0); let p := s.ddcPour 0 0 ne; let q := s.ddcShape p 0 0;
        d.on = true ∧ d.resetDue = none ∧ q.preset = 4) := by
  refine ⟨?_, ?_, ?_, ?_, ?_, ?_⟩
  · simp only [Live]; decide +kernel
  · simp only []; decide +kernel
  · simp only []; decide +kernel
  · simp only []; decide +kernel
  · decide +kernel
  · simp only []; decide +kernel

/-- Hypotheses of `Obligations.DdcOutputsResetsAndFades` are met. -/
theorem witness_DdcOutputsResetsAndFades_2 :
    (let s : State := { poured (.ddc 0 0) [(0x230001, num 1), (0x230003, num 1)] with chans := [(0, { Chan.off with on := true, frames := [frame0 0] })], ddcs := [(0, { Ddc.off with on := true, base := 1, resp := { source := 0, index := 5 } })] };
        let d := s.ddc 0 0; let ne := d.nextEnd (s.ddcBase 0 0); let p := s.ddcPour 0 0 ne; let q := s.ddcShape p 0 0;
        q.resp = d.asked)
    ∧ (let s : State := { poured (.ddc 0 0) [(0x230001, num 1), (0x230007, num 2)] with chans := [(0, { Chan.off with on := true, frames := [frame0 0] })], ddcs := [(0, { Ddc.off with on := true, base := 1 })] };
        let d := s.ddc 0 0; let ne := d.nextEnd (s.ddcBase 0 0); let p := s.ddcPour 0 0 ne; let q := s.ddcShape p 0 0;
        d.on = true ∧ q.preset ≠ 4 ∧ q.resp ≠ d.asked ∧ d.fade = none)
    ∧ (let f : Fade := { old := { source := 0, index := 0 }, new := { source := 1, index := 3 }, done := 0, len := 64, oldPour := 0, newPour := 1 };
        let s : State := { poured (.ddc 0 0) [(0x230001, num 1), (0x230007, num 2)] with chans := [(0, { Chan.off with on := true, frames := [frame0 0] })], ddcs := [(0, { Ddc.off with on := true, base := 1, fade := some f })] };
        let d := s.ddc 0 0; let ne := d.nextEnd (s.ddcBase 0 0); let p := s.ddcPour 0 0 ne; let q := s.ddcShape p 0 0;
        q.preset ≠ 4 ∧ q.resp ≠ d.asked ∧ d.fade = some f)
    ∧ (let f : Fade := { old := { source := 0, index := 0 }, new := { source := 2, index := 0 }, done := 63, len := 64, oldPour := 0, newPour := 1 };
        let g : Fade := { old := { source := 0, index := 0 }, new := { source := 2, index := 0 }, done := 64, len := 64, oldPour := 0, newPour := 1 };
        f.done < f.len ∧ g.len ≤ g.done)
    ∧ (∀ x ∈ [none, some (({ source := 2, index := 0 } : Resp), (1 : U32)), some ({ source := 1, index := 3 }, 1)], let f : Fade := { old := { source := 0, index := 0 }, new := { source := 2, index := 0 }, done := 64, len := 64, oldPour := 0, newPour := 1 };
        let s : State := { poured (.ddc 0 0) [(0x230001, num 1), (0x230003, num 1)] with chans := [(0, { Chan.off with on := true, frames := [frame0 0] })], ddcs := [(0, { Ddc.off with on := true, base := 1, fade := some f, slot := x })] };
        (s.ddc 0 0).fade = some f ∧ (s.ddc 0 0).slot = x ∧ (∀ r ∈ x, r.1 = f.new ∨ r.1 = { source := 1, index := 3 })) := by
  refine ⟨?_, ?_, ?_, ?_, ?_⟩
  · simp only []; decide +kernel
  · simp only []; decide +kernel
  · simp only []; decide +kernel
  · simp only []; decide +kernel
  · simp only []; decide +kernel

/-- Hypotheses of `Obligations.TransformAndTwoPassFrames` are met. -/
theorem witness_TransformAndTwoPassFrames :
    (let s := dev .op; let p := (s.frameShape 0 (s.xf 0).nextMain).2; Live s ∧ s.mainOn 0 p = false
        ∧ (s.xf 0).pass2 = none ∧ (s.xf 0).laneTakeover = none ∧ (s.xf 0).bx = none
        ∧ ((s.xf 0).cfgAt (s.xf 0).nextMain).fb = none)
    ∧ (let s : State := { poured (.main 0) [(0x240001, num 1), (0x240002, num 10), (0x240101, num 1), (0x240102, num 10)] with chans := [(0, { Chan.off with on := true, frames := [frame0 0] })], xfs := [(0, { Xf.idle with cfgs := [{ start := 0, asked := 0, pour := 1, fb := none }], densPours := [(0, 1)] })] };
        let x := s.frameShape 0 (s.xf 0).nextMain; let q := x.1; let p := x.2; s.mainOn 0 p = true
        ∧ q.twoPass = false ∧ (s.chan 0).covers 0 (0 + q.span) = true
        ∧ s.mainOn 0 ((s.xf 0).cfgAt (0 + q.step)).pour = true ∧ hasFlag (s.xf 0).flagged 0 (0 + q.span) = false
        ∧ (s.xf 0).logical 15 = some (15 % 16) ∧ 15 < 0 + q.span
        ∧ (s.sideShape (pourAt (s.xf 0).densPours 0) 0 .density).1 = true
        ∧ (s.chan 0).covers 0 (0 + (s.sideShape 1 0 .density).2.1) = true
        ∧ hasFlag (s.xf 0).sideFlagged 0 (0 + (s.sideShape 1 0 .density).2.1) = false)
    ∧ (let s : State := { poured (.main 0) [(0x240001, num 1), (0x240002, num 10), (0x240101, num 1), (0x240102, num 10)] with chans := [(0, { Chan.off with on := true, frames := [frame0 0] })], xfs := [(0, { Xf.idle with cfgs := [{ start := 0, asked := 0, pour := 1, fb := none }], flagged := [0], sideFlagged := [0] })] };
        let x := s.frameShape 0 (s.xf 0).nextMain; let q := x.1; let p := x.2; s.mainOn 0 p = true
        ∧ hasFlag (s.xf 0).flagged 0 (0 + q.span) = true ∧ hasFlag (s.xf 0).sideFlagged 0 (0 + 1024) = true)
    ∧ (((dev .op).sideShape (pourAt ((dev .op).xf 0).trigPours 0) 0 .trigger).1 = false)
    ∧ (∀ l ∈ [false, true], let s : State := { poured (.main 0) [(0x240001, num 1), (0x240002, num 26)] with chans := [(0, { Chan.off with on := true, frames := [{ (frame0 0) with len := 2 ^ 27 }] })], xfs := [(0, { Xf.idle with cfgs := [{ start := 0, asked := 0, pour := 1, fb := none }], pass1Lost := l })] };
        let x := s.frameShape 0 (s.xf 0).nextMain; let q := x.1; let p := x.2; s.mainOn 0 p = true ∧ q.twoPass = true
        ∧ (s.xf 0).pass2 = none ∧ (s.xf 0).bx = none ∧ (s.chan 0).covers 0 (0 + q.len) = true
        ∧ s.mainOn 0 ((s.xf 0).cfgAt (0 + q.len)).pour = true ∧ (s.xf 0).pass1Lost = l
        ∧ hasFlag (s.xf 0).flagged 0 (0 + q.len) = false) := by
  refine ⟨?_, ?_, ?_, ?_, ?_⟩
  · simp only [Live]; decide +kernel
  · simp only []; decide +kernel
  · simp only []; decide +kernel
  · decide +kernel
  · simp only []; decide +kernel

/-- Hypotheses of `Obligations.TransformAndTwoPassFrames` are met. -/
theorem witness_TransformAndTwoPassFrames_2 :
    (∀ b ∈ [false, true], let f : TwoPass := { s0 := 0, n := 20, lost := b, pour := 1, buffer := false, held := false };
        let s : State := { dev .op with xfs := [(0, { Xf.idle with pass2 := some f })] }; (s.xf 0).pass2 = some f
        ∧ f.lost = b ∧ f.held = false)
    ∧ (let f : TwoPass := { s0 := 0, n := 20, lost := false, pour := 1, buffer := false, held := true };
        let s : State := { dev .op with xfs := [(0, { Xf.idle with pass2 := some f })] }; (s.xf 0).pass2 = some f
        ∧ f.held = true)
    ∧ (let s : State := { dev .op with xfs := [(0, { Xf.idle with laneTakeover := some 15, cfgs := [{ start := 0, asked := 0, pour := 1, fb := some 14 }], bx := some 0 })] };
        (s.xf 0).laneTakeover = some 15 ∧ 15 < 256 ∧ ((s.xf 0).cfgAt (s.xf 0).nextMain).fb ≠ none
        ∧ (s.xf 0).pass2 = none ∧ (s.xf 0).bx = some 0 ∧ 0 ≤ (s.xf 0).nextMain ∧ s.hbm.step = none
        ∧ s.hbm.slow = false)
    ∧ (let s : State := { dev .op with xfs := [(0, { Xf.idle with bx := some 1 })] }; (s.xf 0).bx = some 1
        ∧ (s.xf 0).nextMain < 1) := by
  refine ⟨?_, ?_, ?_, ?_⟩
  · simp only []; decide +kernel
  · simp only []; decide +kernel
  · simp only []; decide +kernel
  · simp only []; decide +kernel

/-- Hypotheses of `Obligations.TriggerEvaluationsAndDecisions` are met. -/
theorem witness_TriggerEvaluationsAndDecisions :
    (Live (dev .op) ∧ ((dev .op).trig 0).queue = [] ∧ ((dev .op).trig 0).cands = [])
    ∧ (∀ v ∈ [true, false], let f : LFrame := { s0 := 0, t0 := 0, n := 10, hop := 512, levels := [], valid := v, mark := Mark.empty };
        let s : State := { poured (.trig 0) [(0x250001, num 1), (0x250004, num 1), (0x250005, num 0), (0x250006, num 1)] with trigs := [(0, { Trig.idle with pour := 1, queue := [.frame f] })] };
        (s.trig 0).queue = .frame f :: [] ∧ f.valid = v ∧ s.tcfg 0 1 = 1)
    ∧ (let s : State := { poured (.trig 0) [(0x250001, num 3), (0x250004, num 1), (0x250005, num 0), (0x250006, num 1)] with trigs := [(0, { Trig.idle with pour := 1, queue := [.samples 0 0 [5] Mark.empty] })] };
        (s.trig 0).queue = .samples 0 0 [5] Mark.empty :: [] ∧ s.tcfg 0 1 = 3)
    ∧ (let c : Cand := { nT := 5, t := 0, evalIx := 5, dur := 1, info := TrigInfo.zero, mark := Mark.empty, qualified := false, pour := 1 };
        let s : State := { poured (.trig 0) [(0x250013, num 1)] with trigs := [(0, { Trig.idle with cands := [c] })], ddcs := [(0, { Ddc.off with on := true })] };
        (s.trig 0).cands = [c] ∧ s.ccfg 0 c 0x13 ≠ 0 ∧ c.qualified = false
        ∧ s.qualifierAt 0 ((s.ccfg 0 c 0x13 - 1) % 8) c.nT = none)
    ∧ (∀ q ∈ [1, 16], let c : Cand := { nT := 5, t := 0, evalIx := 5, dur := 1, info := TrigInfo.zero, mark := Mark.empty, qualified := false, pour := 1 };
        let s : State := { poured (.trig 0) [(0x250013, num q)] with trigs := [(0, { Trig.idle with cands := [c] })] };
        s.ccfg 0 c 0x13 = q ∧ s.qualifierAt 0 ((s.ccfg 0 c 0x13 - 1) % 8) c.nT = some false ∧ s.ccfg 0 c 0x14 = 0
        ∧ (s.trig 0).last = none ∧ (q = 1 → some false = some (!decide (s.ccfg 0 c 0x13 ≤ 8)))
        ∧ (q = 16 → some false = some (decide (s.ccfg 0 c 0x13 ≤ 8)))) := by
  refine ⟨?_, ?_, ?_, ?_, ?_⟩
  · simp only [Live]; decide +kernel
  · simp only []; decide +kernel
  · simp only []; decide +kernel
  · simp only []; decide +kernel
  · simp only []; decide +kernel

/-- Hypotheses of `Obligations.TriggerEvaluationsAndDecisions` are met. -/
theorem witness_TriggerEvaluationsAndDecisions_2 :
    (let c : Cand := { nT := 5, t := 0, evalIx := 5, dur := 1, info := TrigInfo.zero, mark := Mark.empty, qualified := true, pour := 1 };
        let s : State := { (poured (.trig 0) [(0x250014, num 1), (0x250015, num 1), (0x250016, num 1000), (0x250101, num 1)]).setPour (.trig 1) 1 with trigs := [(0, { Trig.idle with cands := [c] }), (1, { Trig.idle with pour := 1 })], chans := [(0, { Chan.off with on := true })] };
        s.ccfg 0 c 0x14 ≠ 0 ∧ s.ccfg 0 c 0x13 = 0 ∧ s.evaluates (s.ccfg 0 c 0x15) = true
        ∧ s.evaluatedTo (s.ccfg 0 c 0x15) c.t (s.ccfg 0 c 0x16) = true ∧ s.governing 0 (s.ccfg 0 c 0x15) c = none)
    ∧ (let c : Cand := { nT := 5, t := 1000000, evalIx := 5, dur := 1, info := TrigInfo.zero, mark := Mark.empty, qualified := true, pour := 1 };
        let s : State := { (poured (.trig 0) [(0x250014, num 1), (0x250015, num 1), (0x250016, num 1000), (0x250101, num 1)]).setPour (.trig 1) 1 with trigs := [(0, { Trig.idle with cands := [c] }), (1, { Trig.idle with pour := 1 })], chans := [(0, { Chan.off with on := true })] };
        s.evaluatedTo (s.ccfg 0 c 0x15) c.t (s.ccfg 0 c 0x16) = false)
    ∧ (∀ d ∈ [1000, 0xFFFFFFFFFFFFFFFF], let c : Cand := { nT := 5, t := BitVec.ofNat 96 (2 ^ 48), evalIx := 5, dur := 1, info := TrigInfo.zero, mark := Mark.empty, qualified := true, pour := 1 };
        let s : State := { (poured (.trig 0) [(0x250014, num 1), (0x250015, num 1), (0x250016, num 1000), (0x250017, num d), (0x250018, num 1)]) with trigs := [(0, { Trig.idle with cands := [c] }), (1, { Trig.idle with made := [(0, 0, 0, none)] })], ctl := { (poured (.trig 0) [(0x250014, num 1), (0x250015, num 1), (0x250016, num 1000), (0x250017, num d), (0x250018, num 1)]).ctl with time := BitVec.ofNat 128 (2 ^ 81) } };
        (s.trig 0).cands = [c] ∧ s.ccfg 0 c 0x14 ≠ 0 ∧ c.qualified = true
        ∧ s.evaluatedTo (s.ccfg 0 c 0x15) c.t (s.ccfg 0 c 0x16) = true
        ∧ s.governing 0 (s.ccfg 0 c 0x15) c = some (0, 0, 0, none) ∧ s.ccfg 0 c 0x17 = d ∧ s.ccfg 0 c 0x18 = 1
        ∧ (s.trig 0).last = none ∧ (d = 1000 → reachesPs c.t 0 (s.ccfg 0 c 0x17) = true))
    ∧ (let c : Cand := { nT := 5, t := 0, evalIx := 5, dur := 1, info := TrigInfo.zero, mark := Mark.empty, qualified := true, pour := 1 };
        let s : State := { poured (.trig 0) [(0x250013, num 1), (0x250014, num 1)] with trigs := [(0, { Trig.idle with cands := [{ c with qualified := false }] })] };
        (s.trig 0).cands = [{ c with qualified := false }] ∧ s.ccfg 0 c 0x14 ≠ 0 ∧ s.ccfg 0 c 0x13 ≠ 0) := by
  refine ⟨?_, ?_, ?_, ?_⟩
  · simp only []; decide +kernel
  · simp only []; decide +kernel
  · simp only []; decide +kernel
  · simp only []; decide +kernel

/-- Hypotheses of `Obligations.DensityPeriodsAndReductionIntervals` are met. -/
theorem witness_DensityPeriodsAndReductionIntervals :
    (Live (dev .op) ∧ ((dev .op).density 0).queue = [] ∧ ((dev .op).density 0).retained = false
        ∧ ((dev .op).density 0).late = false ∧ ((dev .op).density 0).drain = none ∧ ((dev .op).density 0).stop = none)
    ∧ (∀ v ∈ [true, false], let f : LFrame := { s0 := 0, t0 := 0, n := 10, hop := 512, levels := [0, 5], valid := v, mark := Mark.empty };
        let s : State := { dev .op with dens := [(0, { Dens.off with on := true, started := true, queue := [f], cols := 2 })] };
        let d := s.density 0; d.queue = f :: [] ∧ d.on = true ∧ d.started = true ∧ d.stopped f.t0 = false
        ∧ periodOf d.ta f.t0 ≤ d.k ∧ f.s0 / f.hop % 2 ^ s.cfg d.pour 0x2600 8 = 0 ∧ f.valid = v
        ∧ f.levels.length = d.cols)
    ∧ (let f : LFrame := { s0 := 0, t0 := BitVec.ofNat 96 (2 ^ 50), n := 10, hop := 512, levels := [], valid := true, mark := Mark.empty };
        let s : State := { dev .op with dens := [(0, { Dens.off with on := true, started := true, queue := [f] })] };
        let d := s.density 0; d.k < periodOf d.ta f.t0 ∧ d.late = false ∧ d.on = true ∧ s.periodDue 0 = true
        ∧ d.stopped f.t0 = false)
    ∧ (let s : State := { poured (.density 0) [(0x260001, num 1)] with dens := [(0, { Dens.off with on := true, started := true })], ctl := { (poured (.density 0) [(0x260001, num 1)]).ctl with time := BitVec.ofNat 128 (2 ^ 82) } };
        let d := s.density 0; d.on = true ∧ d.started = true ∧ d.late = false ∧ s.periodDue 0 = true ∧ d.drain = none
        ∧ s.cfgOn (s.pourOf (densBlock 0)) 0x2600 1 = true ∧ s.cfg (s.pourOf (densBlock 0)) 0x2600 2 = d.ta
        ∧ 0 < d.ta)
    ∧ (let r : Drain := { k := 0, ta := 100000000, start := 0, stop := 0, frames := 0, skipped := 0, expected := 0, flags := 0, pour := 0, cols := 0, mark := Mark.empty, seed := none, begun := 0 };
        let s : State := { dev .op with dens := [(0, { Dens.off with on := true, started := true, drain := some r })] };
        (s.density 0).drain = some r ∧ (s.density 0).retained = false ∧ (s.density 0).late = false ∧ r.seed = none)
    ∧ (({ dev .op with dens := [(0, { Dens.off with retained := true })] } : State).density 0 = { Dens.off with retained := true }
        ∧ MayWrite (dev .op) .ecat)
    ∧ (let f : LFrame := { s0 := 0, t0 := 7, n := 10, hop := 512, levels := [], valid := true, mark := Mark.empty };
        let s : State := { chan0 id with dens := [(0, { Dens.off with on := true, started := true, stop := some 7, queue := [f] })] };
        let d := s.density 0; d.stop = some 7 ∧ d.queue = f :: [] ∧ d.asleep f.t0 = false ∧ d.retained = false
        ∧ d.stopped f.t0 = true ∧ (7 : T96).toNat ≤ f.t0.toNat ∧ (s.chan 0).delivers = true ∧ d.started = true
        ∧ periodOf d.ta f.t0 ≤ d.k) := by
  refine ⟨?_, ?_, ?_, ?_, ?_, ?_, ?_⟩
  · simp only [Live]; decide +kernel
  · simp only []; decide +kernel
  · simp only []; decide +kernel
  · simp only []; decide +kernel
  · simp only []; decide +kernel
  · simp only [MayWrite]; decide +kernel
  · simp only []; decide +kernel

/-- Hypotheses of `Obligations.DensityPeriodsAndReductionIntervals` are met. -/
theorem witness_DensityPeriodsAndReductionIntervals_2 :
    (∀ b ∈ [1024, 1025], let z : ZFrame := { s0 := 0, t0 := 0, n := 10, hopHalf := false, mode := 0, p := 4, window := 0, zone := 1, twoPass := false, fallback := false, bins := [], mark := Mark.empty, pour := 1 };
        let s : State := { dev .op with reds := [(0, { Red.idle with queue := [.frame z, .lost z 3], like := some z, stop := b })] };
        let q := s.red 0 0; q.queue = .frame z :: [.lost z 3] ∧ q.like = some z ∧ sameGeometry z z = true
        ∧ z.s0 < q.stop ∧ (b = 1025 → z.s0 + z.hop < q.stop) ∧ (b = 1024 → q.stop ≤ z.s0 + z.hop))
    ∧ (((dev .op).red 3 5).queue = [])
    ∧ (let f : LFrame := { s0 := 0, t0 := 7, n := 10, hop := 512, levels := [], valid := true, mark := Mark.empty };
        let s : State := { dev .op with dens := [(0, { Dens.off with on := true, queue := [f] })] };
        let d := s.density 0; d.queue = f :: [] ∧ d.on = true ∧ d.started = false ∧ d.stopped f.t0 = false)
    ∧ (let w : T96 := 8;
        let f : LFrame := { s0 := 0, t0 := 7, n := 10, hop := 512, levels := [], valid := true, mark := Mark.empty };
        let s : State := { dev .op with dens := [(0, { Dens.off with on := true, stop := some w, retained := true, wakeAt := some w, queue := [f] })] };
        let d := s.density 0; d.stop = some w ∧ d.queue = f :: [] ∧ f.t0.toNat < w.toNat ∧ d.asleep f.t0 = true)
    ∧ (let s : State := { dev .op with dens := [(0, { Dens.off with on := true, started := true })] }; let d := s.density 0;
        d.on = true ∧ d.started = true ∧ d.late = false ∧ s.periodDue 0 = false)
    ∧ (let f : LFrame := { s0 := 0, t0 := BitVec.ofNat 96 (2 ^ 50), n := 10, hop := 512, levels := [], valid := true, mark := Mark.empty };
        let r : Drain := { k := 0, ta := 100000000, start := 0, stop := 0, frames := 0, skipped := 0, expected := 0, flags := 0, pour := 0, cols := 0, mark := Mark.empty, seed := none, begun := 0 };
        let s : State := { dev .op with dens := [(0, { Dens.off with on := true, started := true, drain := some r, queue := [f] })] };
        (s.density 0).drain ≠ none ∧ (s.density 0).late = false ∧ s.periodDue 0 = true) := by
  refine ⟨?_, ?_, ?_, ?_, ?_, ?_⟩
  · simp only []; decide +kernel
  · decide +kernel
  · simp only []; decide +kernel
  · simp only []; decide +kernel
  · simp only []; decide +kernel
  · simp only []; decide +kernel

/-- Hypotheses of `Obligations.CaptureControlsAndSegments` are met. -/
theorem witness_CaptureControlsAndSegments :
    (Live (dev .op) ∧ MayWrite (dev .op) .host ∧ ((dev .op).chan 0).on = false ∧ ((dev .op).cap 0).armed = false
        ∧ ((dev .op).cap 0).decisions = [] ∧ ((dev .op).cap 0).queue = [])
    ∧ (((chan0 id).chan 0).on = true ∧ (chan0 id).cur 0x2700 1 = 0)
    ∧ (let s : State := { poured (.capture 0) [(0x270001, num 2)] with chans := [(0, { Chan.off with on := true })] };
        (s.chan 0).on = true ∧ s.cur 0x2700 1 ≠ 0 ∧ (s.cap 0).queue = [])
    ∧ (let s : State := { dev .op with caps := [(0, { Cap.off with armed := true, mode := 2, next := 5 })] };
        let q := s.cap 0; q.armed = true ∧ q.queue = [] ∧ (q.mode = 1 ∨ q.mode = 2) ∧ q.follow = 255 ∧ 4 < q.next
        ∧ q.next - 4 < 2 ^ 32 ∧ 4 % 2 ^ 32 = (4 : U32).toNat)
    ∧ (let d : Decision := { unit := 16, number := 0, nT := 127, t := 0 };
        let s : State := { dev .op with caps := [(0, { Cap.off with armed := true, mode := 2, armIx := 128, m := 128, decisions := [d] })] };
        let q := s.cap 0; q.decisions = d :: [] ∧ d.unit = 16 ∧ d.nT < q.m ∧ q.waiting < 32) := by
  refine ⟨?_, ?_, ?_, ?_, ?_⟩
  · simp only [Live, MayWrite]; decide +kernel
  · decide +kernel
  · simp only []; decide +kernel
  · simp only []; decide +kernel
  · simp only []; decide +kernel

/-- Hypotheses of `Obligations.CaptureControlsAndSegments` are met. -/
theorem witness_CaptureControlsAndSegments_2 :
    (let d : Decision := { unit := 16, number := 0, nT := 128, t := 0 };
        let s : State := { dev .op with caps := [(0, { Cap.off with armed := true, mode := 2, armIx := 128, m := 128, decisions := [d] })] };
        let q := s.cap 0; q.stopping = false ∧ q.shed = false ∧ q.blocked = false ∧ q.mode = 2 ∧ q.follow = 255
        ∧ q.m ≤ d.nT ∧ q.waiting < 32 ∧ 0 < q.len
        ∧ q.lossIn (max ((d.nT - q.pre) / 128 * 128) q.firstOf) (max ((d.nT - q.pre) / 128 * 128) q.firstOf + q.len) = none
        ∧ q.w ≤ max ((d.nT - q.pre) / 128 * 128) q.firstOf + q.len)
    ∧ (∀ b ∈ [false, true], let g : Seg := { number := 0, s0 := 0, stop := 65536, nT := 0, unit := 0xFE, valid0 := 0, valid1 := 65536, contiguous := true, mark := Mark.empty, uncorrected := false, early := 0, closing := b };
        let s : State := { dev .op with caps := [(0, { Cap.off with armed := true, queue := [g] })] };
        (s.cap 0).queue = g :: [] ∧ g.closing = b ∧ (s.cap 0).notice = 0xFFFFFFFF ∧ (s.cap 0).byStore = false)
    ∧ (let s : State := { dev .op with caps := [(0, { Cap.off with armed := true, mode := 2, next := 5 })] };
        let q := s.cap 0; ∀ k, k < q.next → q.next - k < 2 ^ 32 → k % 2 ^ 32 ≠ (5 : U32).toNat)
    ∧ (let g : Seg := { number := 0, s0 := 0, stop := 65536, nT := 0, unit := 0xFE, valid0 := 0, valid1 := 0, contiguous := true, mark := Mark.empty, uncorrected := false, early := 0, closing := false };
        let s : State := { dev .op with caps := [(0, { Cap.off with armed := true, mode := 2, queue := [g] })] };
        (s.cap 0).armed = true ∧ (s.cap 0).queue ≠ [])
    ∧ (let g : Seg := { number := 0, s0 := 0, stop := 65536, nT := 0, unit := 0xFE, valid0 := 0, valid1 := 0, contiguous := true, mark := Mark.empty, uncorrected := false, early := 0, closing := false };
        32 ≤ ({ Cap.off with queue := List.replicate 32 g } : Cap).waiting) := by
  refine ⟨?_, ?_, ?_, ?_, ?_⟩
  · simp only []; decide +kernel
  · simp only []; decide +kernel
  · simp only []; decide +kernel
  · simp only []; decide +kernel
  · simp only []; decide +kernel

/-- Hypotheses of `Obligations.HbmScheduleAndAccesses` are met. -/
theorem witness_HbmScheduleAndAccesses :
    (Live (dev .op) ∧ (dev .op).ctl.hbmReady = false ∧ (dev .op).busRuns = false
        ∧ Tab.get (fun _ => false) (dev .op).hbm.gathering 15 = false ∧ (dev .op).hbm.step = none)
    ∧ (let s : State := { dev .op with ctl := { (dev .op).ctl with hbmReady := true } }; Live s ∧ s.ctl.hbmReady = true
        ∧ s.busRuns = true ∧ s.hea.level = 0 ∧ s.hbm.step = none ∧ s.slotOwner 0 = 0 ∧ s.bestEffort 63 = none
        ∧ (0 : BitVec 37).toNat / 8 * 8 < hbmBytes ∧ s.bestEffort 0 = none
        ∧ addSpan s.hbm.scrubbed 0 8 ≠ [(0, hbmBytes)])
    ∧ (let s : State := { dev .op with ctl := { (dev .op).ctl with hbmReady := true }, hbm := { Hbm.reset with scrubbed := [(8, hbmBytes)] } };
        addSpan s.hbm.scrubbed 0 8 = [(0, hbmBytes)])
    ∧ (let s : State := { dev .op with ctl := { (dev .op).ctl with hbmReady := true }, hbm := { Hbm.reset with gathering := [(15, true)], fresh := [(3, true)] } };
        Tab.get (fun _ => false) s.hbm.gathering 15 = true ∧ Tab.get (fun _ => false) s.hbm.fresh (24 / 8) = true
        ∧ 24 % 2 = (if s.hbm.slow then 1 else 0))
    ∧ (∀ b ∈ [false, true], let s : State := { dev .op with live := [(0x280106, num 1), (0x280107, num 1)], ctl := { (dev .op).ctl with hbmReady := true }, hbm := { Hbm.reset with slow := b }, hea := { Hea.reset with level := if b then 0 else 4 } };
        s.ctl.hbmReady = true ∧ s.hbm.step = none ∧ s.hbm.slow = b ∧ s.liveNum 0x2801 6 = 1 ∧ s.liveNum 0x2801 7 = 1
        ∧ (b = true ∨ 4 ≤ s.hea.level) ∧ s.twoPassIdle = true)
    ∧ (∀ ph ∈ [StepPhase.requested, .stopped, .moved, .training], ∀ g ∈ [[], [(0, true)]], let s : State := { dev .op with ctl := { (dev .op).ctl with hbmReady := true }, hbm := { Hbm.reset with step := some (true, ph), gathering := g } };
        s.hbm.step = some (true, ph) ∧ s.hbm.gathering = g ∧ (ph = .stopped → s.busRuns = false))
    ∧ (let b : Burst := { owner := 9, cls := 0, chan := 0, addr := 0, beats := 32, born := 0, write := true };
        let s : State := { dev .op with ctl := { (dev .op).ctl with hbmReady := true }, hbm := { Hbm.reset with table := [9], queue := [b] } };
        s.busRuns = true ∧ s.slotOwner 0 ≠ 0xFF ∧ realTime (s.slotOwner 0) = true
        ∧ s.hbm.queue.find? (fun x => x.owner == s.slotOwner 0 && x.chan == 0 && s.slotServes x) = some b
        ∧ b.write = true) := by
  refine ⟨?_, ?_, ?_, ?_, ?_, ?_, ?_⟩
  · simp only [Live]; decide +kernel
  · simp only [Live]; decide +kernel
  · simp only []; decide +kernel
  · simp only []; decide +kernel
  · simp only []; decide +kernel
  · simp only []; decide +kernel
  · simp only []; decide +kernel

/-- Hypotheses of `Obligations.HbmScheduleAndAccesses` are met. -/
theorem witness_HbmScheduleAndAccesses_2 :
    (∀ o ∈ [5, 8], let b : Burst := { owner := o, cls := 0, chan := 0, addr := 0, beats := 32, born := 0, write := false };
        let s : State := { dev .op with ctl := { (dev .op).ctl with hbmReady := true }, hbm := { Hbm.reset with table := [o], queue := [b] } };
        s.slotOwner 0 = o
        ∧ s.hbm.queue.find? (fun x => x.owner == s.slotOwner 0 && x.chan == 0 && s.slotServes x) = some b
        ∧ b.write = false ∧ b.owner ≠ trainingOwner)
    ∧ (let b : Burst := { owner := 0, cls := 0, chan := 0, addr := 0, beats := 32, born := 0, write := false };
        let s : State := { dev .op with ctl := { (dev .op).ctl with hbmReady := true }, hbm := { Hbm.reset with queue := [b] } };
        s.busRuns = true ∧ s.slotOwner 0 ≠ 0xFF ∧ realTime (s.slotOwner 0) = false ∧ s.bestEffort 0 = some (b, false)
        ∧ b.beats ≤ 32)
    ∧ (({ dev .op with hbm := { Hbm.reset with table := [0xFF] } } : State).slotOwner 7 = 0xFF)
    ∧ ((dev .op).riserFill 0 ≤ riserBeats)
    ∧ (∀ a ∈ [cornerTurnAddr 0 false, cornerTurnAddr 0 true], let b : Burst := { owner := 1, cls := 0, chan := 0, addr := a, beats := 32, born := 0, write := true };
        let s : State := { dev .op with ctl := { (dev .op).ctl with hbmReady := true }, hbm := { Hbm.reset with queue := List.replicate 65 b } };
        riserBeats < s.riserFill 0 ∧ s.newestWrite 0 (1 : Byte).toNat = some b
        ∧ s.newestWrite 0 (9 : Byte).toNat = none ∧ 1 ≤ (1 : Byte).toNat ∧ (1 : Byte).toNat ≤ 4
        ∧ (a = cornerTurnAddr 0 (s.xf 0).buffer ∨ a < cornerTurnAddr 0 (s.xf 0).buffer ∨ cornerTurnAddr 0 (s.xf 0).buffer + 0x04000000 ≤ a))
    ∧ (∀ o ∈ [9, 12], let b : Burst := { owner := o, cls := 0, chan := 63, addr := 0, beats := 32, born := 0, write := true };
        let s : State := { dev .op with ctl := { (dev .op).ctl with hbmReady := true }, hbm := { Hbm.reset with queue := List.replicate 65 b } };
        riserBeats < s.riserFill 3 ∧ s.newestWrite 3 o = some b)
    ∧ (let b : Burst := { owner := 0x20, cls := 0, chan := 0, addr := 4096, beats := 32, born := 0, write := true };
        let s : State := { { dev .op with ctl := { (dev .op).ctl with hbmReady := true }, hbm := { Hbm.reset with queue := List.replicate 65 b } } with dma := (run5 (fun r => { r with w := 1 })).dma };
        riserBeats < s.riserFill 0 ∧ s.newestWrite 0 0x20 = some b ∧ s.runnerAt b.addr = some 5
        ∧ (s.runner 5).w ≠ (s.runner 5).rd) := by
  refine ⟨?_, ?_, ?_, ?_, ?_, ?_, ?_⟩
  · simp only []; decide +kernel
  · simp only []; decide +kernel
  · decide +kernel
  · decide +kernel
  · simp only []; decide +kernel
  · simp only []; decide +kernel
  · simp only []; decide +kernel

/-- Hypotheses of `Obligations.LadleArithmeticAndLogic` are met. -/
theorem witness_LadleArithmeticAndLogic :
    (Live (lad id) ∧ PlainLadle ((lad id).ladle 0)) := by
  simp only [Live, plainLadle_iff]; decide +kernel

/-- Hypotheses of `Obligations.LadleDelayedResults` are met. -/
theorem witness_LadleDelayedResults :
    (Live (lad id) ∧ PlainLadle ((lad id).ladle 0) ∧ ((lad id).ladle 0).ln.get 7 = 0)
    ∧ (let s := lad (fun q => { q with ln := Vector.replicate 8 16, bs := Vector.replicate 8 0xFFFFFFF0 });
        (s.ladle 0).ln.get 0 ≠ 0 ∧ ((s.ladle 0).bs.get 0).toNat + ((s.ladle 0).ln.get 0).toNat ≤ 2 ^ 32)
    ∧ ((0x28 : BitVec 6).toNat ≤ 0x28 ∧ (0x29 : BitVec 6).toNat > 0x28 ∧ (39 : BitVec 6).toNat ≤ 39) := by
  refine ⟨?_, ?_, ?_⟩
  · simp only [Live, plainLadle_iff]; decide +kernel
  · simp only []; decide +kernel
  · decide +kernel

/-- Hypotheses of `Obligations.LadleFlowWaitsAndTraps` are met. -/
theorem witness_LadleFlowWaitsAndTraps :
    (Live (lad id) ∧ PlainLadle ((lad id).ladle 0) ∧ ((lad id).ladle 0).holds 0 = true
        ∧ ((lad id).ladle 0).loopError 5 = false ∧ ((lad id).ladle 0).loopError 0 = true
        ∧ HasHandler ((lad id).ladle 0) ∧ ((lad id).ladle 0).depth = 0 ∧ ((lad id).ladle 0).writes = [])
    ∧ (((lad id).ladle 0).holds 1 = false)
    ∧ (let s := lad (fun q => { q with st := BitVec.ofNat 32 (2 ^ 28) }); PlainLadle { s.ladle 0 with pc := 1 }
        ∧ 0 < (s.ladle 0).depth)
    ∧ (∀ k ∈ [1, 2], let s := lad (fun q => { q with branch := some (7, k) }); (s.ladle 0).run = .running
        ∧ (s.ladle 0).held = none ∧ (s.ladle 0).lockLost = none ∧ (s.ladle 0).endsAt (s.ladle 0).pc = false
        ∧ (s.ladle 0).land.endsAt (s.ladle 0).pc = false ∧ (s.ladle 0).branch = some (7, k))
    ∧ (∀ n ∈ [1, 2], let s := lad (fun q => { q with st := BitVec.ofNat 32 (2 ^ 28), pc := 5, lpe := Vector.replicate 3 5, lpc := Vector.replicate 3 (BitVec.ofNat 32 n) });
        let q := s.ladle 0; q.run = .running ∧ q.held = none ∧ q.lockLost = none ∧ q.branch = none
        ∧ q.pauseDue = false ∧ q.writes = [] ∧ q.depth = 0 + 1 ∧ q.lpe.get 0 = q.pc ∧ (n = 1 → q.lpc.get 0 = 1)
        ∧ (n = 2 → q.lpc.get 0 ≠ 1))
    ∧ (((lad id).ladle 0).due = none ∧ ((lad id).ladle 0).pauseDue = false ∧ (lad id).portsReady 0 = 0
        ∧ (lad id).interruptPorts 0 = 0 ∧ ((lad id).ladle 0).waitOn = none)
    ∧ (let p : Port := { Port.none with cfg := BitVec.ofNat 64 (2 ^ 56 + 1) };
        let s : State := { lad (fun q => { q with ports := Vector.replicate 4 p, st := BitVec.ofNat 32 (2 ^ bitIE), ien := 0x8000000F }) with clusters := [(0, { Cluster.idle with mem := [(0, 64)] })] };
        (15 : BitVec 4) ≠ 0 ∧ s.portsReady 0 &&& (15 : BitVec 4).toNat ≠ 0 ∧ s.interruptPorts 0 ≠ 0
        ∧ (s.ladle 0).clean = true ∧ HasHandler (s.ladle 0))
    ∧ (let s := lad (fun q => { q with run := .waiting, waitOn := some (3, 1) }); (s.ladle 0).run ≠ .running
        ∧ PlainLadle { s.ladle 0 with run := .running } ∧ (s.ladle 0).waitOn = some (3, 1)) := by
  refine ⟨?_, ?_, ?_, ?_, ?_, ?_, ?_, ?_⟩
  · simp only [Live, HasHandler, plainLadle_iff]; decide +kernel
  · decide +kernel
  · simp only [plainLadle_iff]; decide +kernel
  · simp only []; decide +kernel
  · simp only []; decide +kernel
  · decide +kernel
  · simp only [HasHandler]; decide +kernel
  · simp only [plainLadle_iff]; decide +kernel

/-- Hypotheses of `Obligations.LadleLoadsAndStores` are met. -/
theorem witness_LadleLoadsAndStores :
    (∀ z ∈ [(0, 0x1FFFE), (1, 0x1FFFE), (2, 0x1FFFC), (3, 0x1FFF8)], let m : MemForm := { r := 2, a := 3, size := z.1, x := false, p := true, m := 0 };
        let s := lad (fun q => { q with a := Vector.replicate 8 (BitVec.ofNat 32 z.2) });
        let len := if m.size = 2 then 4 else if m.size = 3 then 8 else 2; Live s ∧ PlainLadle (s.ladle 0)
        ∧ m.legal = true ∧ (s.ladle 0).effective m + len ≤ 0x20000 ∧ (s.ladle 0).effective m % len = 0)
    ∧ (let m : MemForm := { r := 2, a := 3, size := 2, x := false, p := true, m := 0 };
        let s := lad (fun q => { q with a := Vector.replicate 8 2 }); HasHandler (s.ladle 0)
        ∧ (s.ladle 0).effective m + 4 ≤ 0x20000 ∧ (s.ladle 0).effective m % 4 ≠ 0)
    ∧ (let m : MemForm := { r := 2, a := 3, size := 2, x := false, p := true, m := 0 };
        let s := lad (fun q => { q with a := Vector.replicate 8 0x1FFFD }); HasHandler (s.ladle 0)
        ∧ 0x20000 < (s.ladle 0).effective m + 4 ∧ (s.ladle 0).effective m < 0x100000)
    ∧ (let m : MemForm := { r := 2, a := 3, size := 2, x := false, p := true, m := 0 };
        let s := lad (fun q => { q with a := Vector.replicate 8 0x2FFFFC }); 0x100000 ≤ (s.ladle 0).effective m
        ∧ (s.ladle 0).effective m + 4 ≤ 0x300000 ∧ (s.ladle 0).effective m % 4 = 0 ∧ (s.ladle 0).lock = none
        ∧ s.free 0 (bankOf ((s.ladle 0).effective m)) = true)
    ∧ (({ r := 15, a := 3, size := 3, x := false, p := true, m := 0 } : MemForm).legal = false)
    ∧ (HasHandler ((lad id).ladle 0) ∧ ((lad id).ladle 0).xfFault 0 1 1 = some (1, 0))
    ∧ (let s := lad (fun q => { q with a := #v[0, 0x100000, 0, 0, 0, 0, 0, 0] }); (s.ladle 0).xfFault 0 1 64 = none
        ∧ (s.ladle 0).lock = none ∧ (∀ r, r < 16 → s.free 0 r = true)) := by
  refine ⟨?_, ?_, ?_, ?_, ?_, ?_, ?_⟩
  · simp only [Live, plainLadle_iff]; decide +kernel
  · simp only [HasHandler]; decide +kernel
  · simp only [HasHandler]; decide +kernel
  · simp only []; decide +kernel
  · decide +kernel
  · simp only [HasHandler]; decide +kernel
  · simp only []; decide +kernel

/-- Hypotheses of `Obligations.LadleLocksTransfersAndArbiters` are met. -/
theorem witness_LadleLocksTransfersAndArbiters :
    (Live (lad id) ∧ PlainLadle ((lad id).ladle 0) ∧ HasHandler ((lad id).ladle 0) ∧ ((lad id).ladle 0).lock = none
        ∧ (lad id).free 0 17 = true ∧ 17 < (18 : BitVec 5).toNat ∧ (17 : BitVec 5).toNat ≤ 17)
    ∧ (let s := lad (fun q => { q with lock := some 17 }); PlainLadle (s.ladle 0) ∧ (s.ladle 0).lock.isSome = true
        ∧ (s.ladle 0).lock = some 17 ∧ HasHandler (s.ladle 0))
    ∧ (let s : State := { lad id with clusters := [(0, { Cluster.idle with arbs := [(3, { Arb.idle with owner := some { ladle := 1, rank := 0, words := 1, moved := 0, lock := true } })] })] };
        (s.ladle 0).lock = none ∧ s.free 0 3 = false)
    ∧ (let s := lad (fun q => { q with d := #v[2, 0, 0, 0, 0, 0, 0, 0, 0, 0, 0, 0, 0, 0, 0, 0], a := #v[2, 0, 0, 0, 0, 0, 0, 0] });
        HasHandler (s.ladle 0) ∧ ((s.ladle 0).pubFault 0 0 0).isSome = true)
    ∧ (((lad id).ladle 0).pubFault 0 0 0 = none ∧ (lad id).isRecordRunner ((lad id).slotRunner 0 7) = false)
    ∧ (let s : State := { poured (.ladle 0) [(0x290708, num 5)] with ladles := (lad id).ladles, dma := (run5 id).dma };
        s.slotRunner 0 7 = 5 ∧ s.isRecordRunner (s.slotRunner 0 7) = true ∧ (s.runner 5).full = false
        ∧ (s.runner 5).dropped = none ∧ (s.runner 5).stopGap = none
        ∧ 64 + ((s.ladle 0).dr 0).toNat ≤ (s.runner 5).slotBytes)
    ∧ (mvhFault 0 0 63 = some (4, 0) ∧ mvhFault 0x10000 0 65536 = none ∧ ((lad id).ladle 0).breaksOrder 16 = false
        ∧ ((lad id).ladle 0).movers.length < 4 ∧ ((lad id).ladle 0).bit bitMB = false)
    ∧ (let m : Mover := { toHbm := true, loc := 0, hbm := 64, len := 64 };
        let s := lad (fun q => { q with movers := List.replicate 4 m, st := BitVec.ofNat 32 (2 ^ bitMB) });
        4 ≤ (s.ladle 0).movers.length ∧ (s.ladle 0).bit bitMB = true ∧ (s.ladle 0).movers = m :: List.replicate 3 m
        ∧ s.moverRuns 0 = true ∧ (s.ladle 0).held = none ∧ s.hea.level = 0 ∧ m.toHbm = true) := by
  refine ⟨?_, ?_, ?_, ?_, ?_, ?_, ?_, ?_⟩
  · simp only [Live, HasHandler, plainLadle_iff]; decide +kernel
  · simp only [HasHandler, plainLadle_iff]; decide +kernel
  · simp only []; decide +kernel
  · simp only [HasHandler]; decide +kernel
  · decide +kernel
  · simp only []; decide +kernel
  · decide +kernel
  · simp only []; decide +kernel

/-- Hypotheses of `Obligations.LadleLocksTransfersAndArbiters` are met. -/
theorem witness_LadleLocksTransfersAndArbiters_2 :
    (let m : Mover := { toHbm := false, loc := 0x1FFC0, hbm := 64, len := 64 };
        let s := lad (fun q => { q with movers := [m] }); (s.ladle 0).movers = m :: [] ∧ s.moverRuns 0 = true
        ∧ m.toHbm = false ∧ m.loc + m.len ≤ 0x20000)
    ∧ (((dev .op).arb 0 0).owner = none ∧ ((dev .op).arb 0 0).queue = [])
    ∧ (let o : Req := { ladle := 1, rank := 0, words := 1, moved := 0, lock := false };
        let s : State := { dev .op with clusters := [(0, { Cluster.idle with arbs := [(3, { Arb.idle with queue := [o] })] })] };
        (s.arb 0 3).owner = none ∧ (s.arb 0 3).queue = [o] ∧ o.lock = false ∧ s.frozen 0 3 = false)
    ∧ (let o : Req := { ladle := 1, rank := 0, words := 1, moved := 0, lock := false };
        let s : State := { entries .op [(0x290901, num 8)] with clusters := [(0, { Cluster.idle with arbs := [(3, { Arb.idle with queue := [o] })] })] };
        (s.arb 0 3).owner = none ∧ s.frozen 0 3 = true)
    ∧ (let o : Req := { ladle := 1, rank := 2, words := 65, moved := 0, lock := false };
        let s : State := { lad id with clusters := [(0, { Cluster.idle with arbs := [(16, { Arb.idle with owner := some o })] })] };
        s.moverRuns 0 = false ∧ (s.arb 0 16).owner = some o ∧ o.lock = false ∧ (s.arb 0 16).queue = []
        ∧ 63 < o.grantLeft ∧ (lad id).free 0 16 = true ∧ ((lad id).ladle 0).movers = [])
    ∧ (MayWrite (dev .op) .host ∧ (0x3FFFF : U32).toNat < 2 ^ 18 ∧ 2 ^ 18 ≤ (0x40000 : U32).toNat)
    ∧ (let o : Req := { ladle := 0, rank := 0, words := 1, moved := 0, lock := false };
        let s : State := { lad id with clusters := [(0, { Cluster.idle with arbs := [(3, { Arb.idle with owner := some o })] })] };
        (s.arb 0 3).owner = some o ∧ o.ladle = 0 ∧ o.lock = false ∧ (s.arb 0 3).queue = []
        ∧ (s.ladle 0).lockLost = none)
    ∧ (let s := lad (fun q => { q with run := .paused, lock := some 0 });
        let u : State := { s with ctl := { s.ctl with crystalCount := 16000 } }; (u.ladle 0).lock = some 0
        ∧ (u.ladle 0).lockedAt + 10 * 1600 ≤ u.ctl.crystalCount ∧ (u.ladle 0).run = .paused
        ∧ s.ctl.crystalCount < (s.ladle 0).lockedAt + 10 * 1600) := by
  refine ⟨?_, ?_, ?_, ?_, ?_, ?_, ?_, ?_⟩
  · simp only []; decide +kernel
  · decide +kernel
  · simp only []; decide +kernel
  · simp only []; decide +kernel
  · simp only []; decide +kernel
  · simp only [MayWrite]; decide +kernel
  · simp only []; decide +kernel
  · simp only []; decide +kernel

/-- Hypotheses of `Obligations.LadlesAndTheirInputs` are met. -/
theorem witness_LadlesAndTheirInputs :
    (Live (lad id) ∧ (((lad id).ladle 0).port 3).queue = [])
    ∧ (let e : TapEntry := { bytes := List.replicate 64 0, start := 0, stop := 0 };
        let p : Port := { Port.none with queue := [e] };
        let s := lad (fun q => { q with ports := Vector.replicate 4 p }); ((s.ladle 0).port 3).queue = e :: []
        ∧ ringOf ((s.ladle 0).port 3).cfg = none)
    ∧ (let e : TapEntry := { bytes := List.replicate 64 0, start := 0, stop := 0 };
        let p : Port := { Port.none with queue := [e], cfg := BitVec.ofNat 64 (2 ^ 56 + 1) };
        let s := lad (fun q => { q with ports := Vector.replicate 4 p }); ((s.ladle 0).port 0).queue = e :: []
        ∧ ringOf ((s.ladle 0).port 0).cfg = some (0, 4032) ∧ s.awake .cluster = true
        ∧ ((s.ladle 0).port 0).gapFirst = none
        ∧ older (BitVec.ofNat 32 (field e.bytes 16 4)) ((s.ladle 0).port 0).pour = false ∧ s.clusterWord 0 0 = 0
        ∧ e.bytes.length ≤ 4032 - (((0 : Int) - s.clusterWord 0 4) % (4032 : Int)).toNat)
    ∧ (let s : State := { dev .op with clusters := [(0, { Cluster.idle with mem := [(0, 0xC0), (1, 0x0F)] })] };
        s.clusterWord 0 0 = 4032 ∧ 4032 - (((s.clusterWord 0 0 : Int) - 64) % (4032 : Int)).toNat < 65)
    ∧ (MayWrite (dev .op) .host ∧ readImage [] = none ∧ ((dev .op).ladle 0).run = .stopped)
    ∧ ((readImage (leBytes 4 4 ++ leBytes 4 0 ++ leBytes 4 0 ++ leBytes 4 (crc32c [0, 0, 0, 0]).toNat ++ [0, 0, 0, 0])).isSome = true) := by
  refine ⟨?_, ?_, ?_, ?_, ?_, ?_⟩
  · simp only [Live]; decide +kernel
  · simp only []; decide +kernel
  · simp only []; decide +kernel
  · simp only []; decide +kernel
  · simp only [MayWrite]; decide +kernel
  · decide +kernel

/-- Hypotheses of `Obligations.LadlesAndTheirInputs` are met. -/
theorem witness_LadlesAndTheirInputs_2 :
    (((lad id).ladle 0).run ≠ .stopped ∧ ((lad id).ladle 0).run ≠ .failed ∧ ((lad id).ladle 0).run = .running
        ∧ ((lad id).ladle 0).run ≠ .restarting)
    ∧ (let s : State := { poured (.ladle 0) [(0x290201, num 2)] with ladles := (lad id).ladles };
        let u : State := { s with ctl := { s.ctl with crystalCount := 3200 } }; (u.ladle 0).run = .running
        ∧ (u.ladle 0).kicked + u.ladleCfg 0 2 * 1600 ≤ u.ctl.crystalCount
        ∧ s.ctl.crystalCount < (s.ladle 0).kicked + s.ladleCfg 0 2 * 1600)
    ∧ (let b := leBytes 4 4 ++ leBytes 4 0 ++ leBytes 4 0 ++ leBytes 4 (crc32c [0, 0, 0, 0]).toNat ++ [0, 0, 0, 0];
        let s : State := { lad (fun q => { q with run := .restarting }) with od := [(0x400000, .bytes b)] };
        (s.ladle 0).run = .restarting ∧ (s.ladle 0).toSpare = false ∧ (s.ladle 0).due = none
        ∧ (readImage (s.imageOf 0)).isSome = true)
    ∧ (let s : State := { lad id with hea := { Hea.reset with level := 2 } }; 2 ≤ s.hea.level ∧ (s.ladle 0).run = .running)
    ∧ ((dev .op).hea.level < 2) := by
  refine ⟨?_, ?_, ?_, ?_, ?_⟩
  · decide +kernel
  · simp only []; decide +kernel
  · simp only []; decide +kernel
  · simp only []; decide +kernel
  · decide +kernel

/-- Hypotheses of `Obligations.EventStampsAndIntervals` are met. -/
theorem witness_EventStampsAndIntervals :
    (Live (dev .op) ∧ ((dev .op).evt 0).on = false ∧ ((dev .op).evt 0).record = [] ∧ (dev .op).tiu.gateOn = false)
    ∧ (let s : State := { poured (.tiInput 0) [(0x2A0001, num 1), (0x2A0003, num 2)] with od := [(0x212002, num 2)], tiu := { Tiu.reset with inputs := [(0, { EvtIn.off with on := true, count := 1 })], interps := [(0, { Interp.factory with i0 := some { cmax := 383, widths := List.replicate 384 260416 } })] } };
        (s.evt 0).on = true ∧ s.tiu.gated = false ∧ ((false : Bool) = true ↔ s.evtCfg 0 2 = 1)
        ∧ (s.interp 0).retired.length ≠ 2 ∧ s.evtCfg 0 4 ≠ 1 ∧ (s.evt 0).count % s.evtCfg 0 3 ≠ 0)
    ∧ (let s : State := { poured (.tiInput 0) [(0x2A0001, num 1), (0x2A0003, num 1)] with od := [(0x212002, num 1)], tiu := { Tiu.reset with inputs := [(0, { EvtIn.off with on := true })], interps := [(0, { Interp.factory with i0 := some { cmax := 383, widths := List.replicate 384 260416 } })] } };
        s.evtCfg 0 4 ≠ 1 ∧ (s.evt 0).count % s.evtCfg 0 3 = 0 ∧ s.timeState < 2)
    ∧ (let s : State := { poured (.tiInput 0) [(0x2A0001, num 1), (0x2A0003, num 1)] with od := [(0x212002, num 2)], tiu := { Tiu.reset with inputs := [(0, { EvtIn.off with on := true, lastStamp := some 0 })], interps := [(0, { Interp.factory with i0 := some { cmax := 383, widths := List.replicate 384 260416 } })] } };
        let x := s.rawTime 0 0 0 (s.bcfgInt (evtBlock 0) 0x2A00 5); (s.evt 0).count % s.evtCfg 0 3 = 0
        ∧ 2 ≤ s.timeState ∧ (s.evt 0).lastStamp = some 0 ∧ (0 : Int) ≤ x.1 ∧ x.1 < 0 + 2500000)
    ∧ (let s : State := { poured (.tiInput 0) [(0x2A0001, num 1), (0x2A0003, num 1)] with od := [(0x212002, num 2)], tiu := { Tiu.reset with inputs := [(0, { EvtIn.off with on := true })], interps := [(0, { Interp.factory with i0 := some { cmax := 383, widths := List.replicate 384 260416 } })] } };
        let x := s.rawTime 0 0 0 (s.bcfgInt (evtBlock 0) 0x2A00 5); (s.evt 0).lastStamp = none ∧ x.2 = false
        ∧ (s.evt 0).overflow = none ∧ (s.interp 0).retired = [] ∧ (s.evt 0).record.length + 1 < s.evtCfg 0 6)
    ∧ (∀ m ∈ [1, 2], ∀ o ∈ [false, true], let s : State := { poured .tiGate [(0x2A8001, num m)] with tiu := { Tiu.reset with gateOn := true, gateOpen := o, closeRaw := 0, k := 0, interps := [(8, { Interp.factory with i0 := some { cmax := 383, widths := List.replicate 384 260416 } })] } };
        let y := s.rawTime 8 0 0 (s.bcfgInt .tiGate 0x2A80 8); s.tiu.gateOn = true ∧ s.tiu.gated = false
        ∧ s.gateCfg 1 = m ∧ (s.interp 8).retired = [] ∧ y.2 = false ∧ s.tiu.gateOpen = o
        ∧ (true != (s.gateCfg 2 == 1)) = true ∧ (false != (s.gateCfg 2 == 1)) = false ∧ s.tiu.closeRaw ≤ y.1
        ∧ s.pourOf .tiGate = s.startPour .tiGate (s.rawT96 y.1)) := by
  refine ⟨?_, ?_, ?_, ?_, ?_, ?_⟩
  · simp only [Live]; decide +kernel
  · simp only []; decide +kernel
  · simp only []; decide +kernel
  · simp only []; decide +kernel
  · simp only []; decide +kernel
  · simp only []; decide +kernel

/-- Hypotheses of `Obligations.EventStampsAndIntervals` are met. -/
theorem witness_EventStampsAndIntervals_2 :
    (∀ m ∈ [2, 3], let s : State := { poured .tiGate [(0x2A8001, num m)] with tiu := { Tiu.reset with gateOn := true, gateOpen := true } };
        s.gateCfg 1 = m ∧ s.tiu.gateOpen = true)
    ∧ (let p : Stamp := { raw := 0, t := 0, falling := false, interp := 0, err := false, count := 0, status := 0, pour := 1, steps := 0 };
        let s : State := { poured (.tiInput 0) [(0x2A0007, num 1000)] with tiu := { Tiu.reset with inputs := [(0, { EvtIn.off with on := true, record := [p] })] } };
        (s.evt 0).on = true ∧ (s.evt 0).record = [] ++ [p] ∧ s.elapsed p.t (s.evtCfg 0 7) = false)
    ∧ (let p : Stamp := { raw := 0, t := 0, falling := false, interp := 0, err := false, count := 0, status := 0, pour := 1, steps := 0 };
        let s : State := { poured (.tiInput 0) [(0x2A0007, num 1000)] with tiu := { Tiu.reset with inputs := [(0, { EvtIn.off with on := true, record := [p] })] } };
        let u : State := { s with ctl := { s.ctl with time := BitVec.ofNat 128 (2 ^ 80) } };
        (u.evt 0).record = [] ++ [p] ∧ u.elapsed p.t (u.evtCfg 0 7) = true)
    ∧ (((dev .op).mu 0).on = false ∧ ((dev .op).interp 8).calibrating = none ∧ ((dev .op).interp 8).switchTo = none
        ∧ ((dev .op).interp 8).retired = [] ∧ MayWrite (dev .op) .host)
    ∧ (let a : Stamp := { raw := 0, t := 0, falling := false, interp := 0, err := false, count := 0, status := 0, pour := 1, steps := 0 };
        let b : Stamp := { a with raw := 2500000 };
        let s : State := { dev .op with tiu := { Tiu.reset with mus := [(0, { Mu.off with on := true, inside := true, queue := [.stop b], started := some a }), (1, { Mu.off with on := true, inside := true, queue := [.start a] })] } };
        (s.mu 0).on = true ∧ (s.mu 0).inside = true ∧ (s.mu 0).results.length + 1 < s.muCfg 0 0x0A
        ∧ (s.mu 0).block.k + 1 < s.muCfg 0 6 ∧ (s.mu 0).queue = [.stop b] ∧ (s.mu 0).started = some a
        ∧ 2500000 ≤ b.raw - a.raw ∧ (s.mu 1).queue = [.start a] ∧ (s.mu 1).started = none)
    ∧ (let s := entries .op [(0x2AF001, num 1)]; s.num 0x2AF0 1 = 1 ∧ s.hea.level = 0 ∧ (s.interp 0).calibrating = none
        ∧ (s.interp 0).switchTo = none ∧ (s.interp 0).retired = [] ∧ (s.interp 0).calAt = none) := by
  refine ⟨?_, ?_, ?_, ?_, ?_, ?_⟩
  · simp only []; decide +kernel
  · simp only []; decide +kernel
  · simp only []; decide +kernel
  · simp only [MayWrite]; decide +kernel
  · simp only []; decide +kernel
  · simp only []; decide +kernel

/-- Hypotheses of `Obligations.EventStampsAndIntervals` are met. -/
theorem witness_EventStampsAndIntervals_3 :
    (let s : State := { entries .op [(0x2AF001, num 1), (0x2AF002, num 10), (0x2AF003, num 20)] with tiu := { Tiu.reset with interps := [(0, { Interp.factory with calAt := some 0, calTemp := some (Config.ioTemperature 0) })] } };
        let u : State := { s with ctl := { s.ctl with crystalCount := 16000000000 } }; (s.interp 0).calAt = some 0
        ∧ (s.interp 0).calTemp.isSome = true ∧ s.ctl.crystalCount < 0 + s.num 0x2AF0 2 * 1600000000
        ∧ (u.interp 0).calAt = some 0 ∧ 0 + u.num 0x2AF0 2 * 1600000000 ≤ u.ctl.crystalCount ∧ s.num 0x2AF0 3 ≠ 0)
    ∧ (let s : State := { dev .op with tiu := { Tiu.reset with interps := [(0, { Interp.factory with calibrating := some 1, cycle := true, switchTo := some 1 })] } };
        (s.interp 0).calibrating = some 1 ∧ (s.interp 0).switchTo = some 1
        ∧ (List.replicate 384 (43690 : Nat)).length = 384 ∧ calTable (List.replicate 384 0) = none)
    ∧ ((calTable (List.replicate 320 52429 ++ List.replicate 64 0)).isSome = true)
    ∧ (let s : State := { poured .tiGate [(0x2A8001, num 2)] with tiu := { Tiu.reset with gateOn := true, gateOpen := true, closeRaw := 10 ^ 18, k := 0, interps := [(8, { Interp.factory with i0 := some { cmax := 383, widths := List.replicate 384 260416 } })] } };
        s.gateCfg 1 = 2 ∧ s.tiu.gateOpen = true ∧ (s.rawTime 8 0 0 (s.bcfgInt .tiGate 0x2A80 8)).1 < s.tiu.closeRaw)
    ∧ (∀ k ∈ [0, 1], let s : State := { poured .tiGate [(0x2A8001, num 3)] with tiu := { Tiu.reset with gateOn := true, gateOpen := false, closeRaw := 0, k := k, interps := [(8, { Interp.factory with i0 := some { cmax := 383, widths := List.replicate 384 260416 } })] } };
        s.gateCfg 1 = 3 ∧ s.tiu.gateOpen = false ∧ s.gateCfg 6 = 0 ∧ s.tiu.k = k
        ∧ s.pourOf .tiGate = s.startPour .tiGate (t96Add (BitVec.ofNat 96 (s.gateCfg 4)) (psToT96 (s.tiu.k * s.gateCfg 6))))
    ∧ ((dev .op).tiu.gated = false ∧ ({ dev .op with tiu := { Tiu.reset with gated := true } } : State).tiu.gated = true) := by
  refine ⟨?_, ?_, ?_, ?_, ?_, ?_⟩
  · simp only []; decide +kernel
  · simp only []; decide +kernel
  · decide +kernel
  · simp only []; decide +kernel
  · simp only []; decide +kernel
  · decide +kernel

/-- Hypotheses of `Obligations.RunnerEntriesAndControl` are met. -/
theorem witness_RunnerEntriesAndControl :
    (Live (dev .op) ∧ MayWrite (dev .op) .host ∧ ([] : List Byte).length ≠ 64
        ∧ (dev .op).entryRefusal [] = some 0x06090030 ∧ ((dev .op).runner 65535).kind = 0)
    ∧ (let b : List Byte := leBytes 2 5 ++ [1] ++ leBytes 5 0 ++ leBytes 8 4096 ++ [2, 7] ++ leBytes 14 0 ++ leBytes 2 0xFFFF ++ leBytes 2 1 ++ leBytes 28 0;
        b.length = 64 ∧ (REntry.of b).kind ≠ 0 ∧ ((dev .op).runner (REntry.of b).runner).kind = 0
        ∧ (dev .op).entryRefusal b = none)
    ∧ (let b : List Byte := leBytes 2 5 ++ [0] ++ leBytes 5 0 ++ leBytes 8 4096 ++ [2, 7] ++ leBytes 14 0 ++ leBytes 2 0xFFFF ++ leBytes 2 1 ++ leBytes 28 0;
        let s := run5 (fun r => { r with state := .stopped }); b.length = 64 ∧ (REntry.of b).kind = 0
        ∧ s.entryRefusal b = none)
    ∧ (let x : Xfer := { opcode := 1, control := 0, count := 64, src := 0, dst := 4096, tag := 0, total := 64, done := 0, descending := false, pageReqs := false, parked := none, status := none, failed := none, written := [], reads := [], elements := [], pattern := [], waitingAts := none, unread := none };
        let s := run5 (fun r => { r with kind := 2, xfer := some x }); (s.runner 5).kind ≠ 0
        ∧ (s.runner 5).xfer ≠ none ∧ ((run5 id).runner 5).xfer = none)
    ∧ (∀ l ∈ [[], [(2 ^ 63, 0, 64)]], let x : Xfer := { opcode := 1, control := 0, count := 64, src := 0, dst := 4096, tag := 0, total := 64, done := 0, descending := false, pageReqs := false, parked := none, status := none, failed := none, written := [], reads := l, elements := [], pattern := [], waitingAts := none, unread := none };
        let s := run5 (fun r => { r with kind := 2, xfer := some x }); MayWrite s .host ∧ (s.runner 5).kind ≠ 0
        ∧ (s.runner 5).xfer = some x ∧ x.failed = none ∧ x.status = none ∧ x.done ≠ x.total ∧ x.reads = l)
    ∧ (let x : Xfer := { opcode := 1, control := 0, count := 64, src := 0, dst := 4096, tag := 0, total := 64, done := 64, descending := false, pageReqs := false, parked := none, status := none, failed := none, written := [], reads := [], elements := [], pattern := [], waitingAts := none, unread := none };
        let s := run5 (fun r => { r with kind := 2, xfer := some x }); (s.runner 5).xfer = some x
        ∧ x.outcome = some (0, 0, 0))
    ∧ (let b : List Byte := leBytes 2 5 ++ [0] ++ leBytes 5 0 ++ leBytes 8 4096 ++ [2, 7] ++ leBytes 14 0 ++ leBytes 2 0xFFFF ++ leBytes 2 1 ++ leBytes 28 0;
        let s := run5 (fun r => { r with state := .stopped }); (s.runner (REntry.of b).runner).kind ≠ 0
        ∧ (s.runner (REntry.of b).runner).state = .stopped ∧ s.runnerNamed (REntry.of b).runner = false) := by
  refine ⟨?_, ?_, ?_, ?_, ?_, ?_, ?_⟩
  · simp only [Live, MayWrite]; decide +kernel
  · simp only []; decide +kernel
  · simp only []; decide +kernel
  · simp only []; decide +kernel
  · simp only [MayWrite]; decide +kernel
  · simp only []; decide +kernel
  · simp only []; decide +kernel

/-- Hypotheses of `Obligations.RecordsEnterAndLeave` are met. -/
theorem witness_RecordsEnterAndLeave :
    (Live (run5 id) ∧ ((run5 id).runner 5).kind = 1 ∧ ((run5 id).runner 5).dropped = none
        ∧ ((run5 id).runner 5).stopGap = none ∧ ((run5 id).runner 5).full = false)
    ∧ (((dev .op).runner 5).kind ≠ 1 ∧ ((dev .op).runner 5).kind ≠ 2 ∧ (dev .op).moderationDue 5 = false)
    ∧ (((run5 (fun r => { r with w := 4 })).runner 5).full = true)
    ∧ (∀ k ∈ [0, 4], let s := run5 (fun r => { r with w := 1, dest := 1, hostE := 2, hostBase := 2 ^ 63, wh := BitVec.ofNat 32 k });
        (s.runner 5).kind = 1 ∧ s.ready 5 = true ∧ (s.runner 5).w ≠ (s.runner 5).rd ∧ (s.runner 5).dest ≠ 0
        ∧ s.destinationTakes (s.runner 5) (s.frontRecord 5).length = decide (k = 0))
    ∧ (let s : State := run5 (fun r => { r with w := 1, dest := 1, hostE := 2, hostBase := 2 ^ 63 }); let q := s.runner 5;
        let t : State := { s with dma := { s.dma with atc := [0] } }; q.kind = 1 ∧ t.ready 5 = true
        ∧ t.engineTakes 5 = true ∧ q.w ≠ q.rd ∧ q.dest = 1 ∧ (q.wh - q.rdh).toNat < q.hostSlots
        ∧ t.missingPage ((q.hostBase + (q.wh.toNat % q.hostSlots) * q.slotBytes, ceilTo 64 (t.frontRecord 5).length) :: (if q.wbAddr = 0 then [] else [(q.wbAddr, 16)])) = none)
    ∧ (let s := run5 (fun r => { r with w := 1, dest := 2 }); (s.runner 5).dest = 2
        ∧ (s.nstream (s.runner 5).handle.toNat).queue = [])
    ∧ (let s := run5 (fun r => { r with dest := 1, hostE := 2, wh := 5 });
        (s.runner 5).hostSlots < ((s.runner 5).wh - 0).toNat ∧ ((s.runner 5).wh - 1).toNat ≤ (s.runner 5).hostSlots) := by
  refine ⟨?_, ?_, ?_, ?_, ?_, ?_, ?_⟩
  · simp only [Live]; decide +kernel
  · decide +kernel
  · decide +kernel
  · simp only []; decide +kernel
  · simp only []; decide +kernel
  · simp only []; decide +kernel
  · simp only []; decide +kernel

/-- Hypotheses of `Obligations.RecordsEnterAndLeave` are met. -/
theorem witness_RecordsEnterAndLeave_2 :
    (let s := run5 (fun r => { r with kind := 2 }); (s.runner 5).kind = 2
        ∧ (s.runner 5).slots < ((5 : U32) - (s.runner 5).rd).toNat
        ∧ ((4 : U32) - (s.runner 5).rd).toNat ≤ (s.runner 5).slots)
    ∧ (∀ v ∈ [2047, 0xFFFF], ∀ b ∈ [false, true], let u := run5 (fun r => { r with unsignalled := 1, firstUnsignalled := some 0, vector := v });
        let s : State := { u with dma := { u.dma with unmasked := [(v, b)] } }; s.moderationDue 5 = true
        ∧ (s.runner 5).vector = v ∧ Tab.get (fun _ => false) s.dma.unmasked v = b)
    ∧ (let s : State := { run5 (fun r => { r with w := 1, dest := 1, hostE := 2, hostBase := 2 ^ 63 }) with mem := [(4100, 64)] };
        let q := s.runner 5; s.engineTakes 5 = true
        ∧ s.missingPage ((q.hostBase + (q.wh.toNat % q.hostSlots) * q.slotBytes, ceilTo 64 (s.frontRecord 5).length) :: (if q.wbAddr = 0 then [] else [(q.wbAddr, 16)])) = some 0)
    ∧ (let u := run5 (fun r => { r with w := 1, dest := 1, hostE := 2, hostBase := 2 ^ 63 });
        let s : State := { u with dma := { u.dma with runners := (4, { (u.runner 5) with prio := 0 }) :: [(5, { (u.runner 5) with prio := 1 })] } };
        s.ready 5 = true ∧ s.destinationTakes (s.runner 5) (s.frontRecord 5).length = true ∧ s.engineTakes 5 = false)
    ∧ (∀ k ∈ [2, 3], let u := run5 (fun r => { r with w := 1, dest := k });
        let s : State := { u with net := { Net.reset with streams := [(0, { NStream.idle with mac := some 1 })] } };
        (s.runner 5).dest = k ∧ s.destinationTakes (s.runner 5) (s.frontRecord 5).length = true
        ∧ s.engineTakes 5 = true)
    ∧ (let s := run5 (fun r => { r with w := 1, dest := 2 });
        s.destinationTakes (s.runner 5) (s.frontRecord 5).length = false ∧ (s.runner 5).dest ≠ 1)
    ∧ ((run5 id).ready 5 = true ∧ (run5 (fun r => { r with state := .stopped })).ready 5 = false
        ∧ ((run5 id).runner 5).dest ≠ 1) := by
  refine ⟨?_, ?_, ?_, ?_, ?_, ?_, ?_⟩
  · simp only []; decide +kernel
  · simp only []; decide +kernel
  · simp only []; decide +kernel
  · simp only []; decide +kernel
  · simp only []; decide +kernel
  · simp only []; decide +kernel
  · decide +kernel

/-- Hypotheses of `Obligations.DescriptorTransfersAndTranslations` are met. -/
theorem witness_DescriptorTransfersAndTranslations :
    (Live (dev .op) ∧ ((dev .op).runner 5).kind ≠ 2 ∧ ((dev .op).runner 5).kind = 0 ∧ ((dev .op).runner 5).xfer = none
        ∧ ((dev .op).runner 5).fwdParked = none ∧ (dev .op).engineTakes 5 = false
        ∧ ((dev .op).runner 5).waitsPage = false ∧ (dev .op).pageOverdue 5 = false
        ∧ ((dev .op).runner 5).mayPark 0 = false)
    ∧ (let s := run5 (fun r => { r with kind := 2, z := 6, w := 1 }); (s.runner 5).kind = 2 ∧ s.engineTakes 5 = true
        ∧ (s.runner 5).xfer = none ∧ isHost (s.runner 5).base = false)
    ∧ (let s := run5 (fun r => { r with kind := 2, z := 6, w := 1, base := 2 ^ 63 + 4096 }); (s.runner 5).kind = 2
        ∧ s.engineTakes 5 = true ∧ isHost (s.runner 5).base = true
        ∧ s.missingPage [((s.runner 5).slotAddr (s.runner 5).rd, 64)] = some 1)
    ∧ (let d : List Byte := [1, 0, 0, 0] ++ leBytes 4 64 ++ leBytes 8 0 ++ leBytes 8 (hbmBytes - 64); field d 0 1 = 1
        ∧ field d 1 1 ≤ 1 ∧ field d 2 2 = 0 ∧ field d 8 8 % 64 = 0 ∧ field d 16 8 % 64 = 0 ∧ field d 4 4 % 64 = 0
        ∧ lengthOk (field d 4 4) = true)
    ∧ (∀ p ∈ [1, 2], let x : Xfer := { opcode := p, control := 0, count := 64, src := 0, dst := 4096, tag := 0, total := 64, done := 0, descending := false, pageReqs := false, parked := none, status := none, failed := none, written := [], reads := [], elements := [], pattern := [7], waitingAts := none, unread := none };
        let s := run5 (fun r => { r with kind := 2, z := 6, w := 1, xfer := some x }); (s.runner 5).xfer = some x
        ∧ s.ready 5 = true ∧ (s.runner 5).kind = 2 ∧ s.engineTakes 5 = true ∧ x.unread = none ∧ x.opcode = p
        ∧ isHost x.burst.2.1 = false ∧ isHost x.burst.2.2.1 = false ∧ x.reads = [] ∧ x.outcome = none
        ∧ 64 * (0 : Fin 32).val < x.burst.2.2.2)
    ∧ (let x : Xfer := { opcode := 1, control := 0, count := 64, src := 2 ^ 63, dst := 4096, tag := 0, total := 64, done := 0, descending := false, pageReqs := false, parked := none, status := none, failed := none, written := [], reads := [(2 ^ 63, 0, 64)], elements := [], pattern := [7], waitingAts := none, unread := none };
        let s := run5 (fun r => { r with kind := 2, xfer := some x }); (s.runner 5).xfer = some x
        ∧ x.reads = (2 ^ 63, 0, 64) :: [] ∧ isHost (x.dst + 0) = false ∧ x.failed = none)
    ∧ (let y : Xfer := { opcode := 1, control := 0, count := 64, src := 0, dst := 4096, tag := 0, total := 64, done := 0, descending := false, pageReqs := false, parked := none, status := none, failed := none, written := [], reads := [], elements := [], pattern := [7], waitingAts := none, unread := none };
        let x : Xfer := { y with done := 64 }; let s := run5 (fun r => { r with kind := 2, xfer := some x });
        (s.runner 5).xfer = some x ∧ x.outcome = some (0, 0, 0)) := by
  refine ⟨?_, ?_, ?_, ?_, ?_, ?_, ?_⟩
  · simp only [Live]; decide +kernel
  · simp only []; decide +kernel
  · simp only []; decide +kernel
  · simp only []; decide +kernel
  · simp only []; decide +kernel
  · simp only []; decide +kernel
  · simp only []; decide +kernel

/-- Hypotheses of `Obligations.DescriptorTransfersAndTranslations` are met. -/
theorem witness_DescriptorTransfersAndTranslations_2 :
    (∀ k ∈ [1, 2], (run5 (fun r => { r with kind := k })).runner 5 = { (run5 id).runner 5 with kind := k })
    ∧ (((run5 (fun r => { r with fwdParked := some 7 })).runner 5).fwdParked = some 7)
    ∧ (let x : Xfer := { opcode := 1, control := 0, count := 64, src := 2 ^ 63, dst := 4096, tag := 0, total := 64, done := 0, descending := false, pageReqs := false, parked := some (2 ^ 51 - 1), status := none, failed := none, written := [], reads := [], elements := [], pattern := [7], waitingAts := none, unread := none };
        let s := run5 (fun r => { r with kind := 2, xfer := some x, state := .waitingPage });
        (s.runner 5).fwdParked = none ∧ (s.runner 5).xfer = some x ∧ x.parked = some (2 ^ 51 - 1))
    ∧ (let x : Xfer := { opcode := 4, control := 0, count := 64, src := 7, dst := 6, tag := 0, total := 64, done := 0, descending := false, pageReqs := false, parked := none, status := none, failed := none, written := [], reads := [], elements := [], pattern := [7], waitingAts := none, unread := none };
        let s := run5 (fun r => { r with kind := 2, z := 6, w := 1, xfer := some x }); x.opcode = 4
        ∧ (s.runner x.src).w = (s.runner x.src).rd ∧ s.engineTakes 5 = false)
    ∧ (let x : Xfer := { opcode := 4, control := 0, count := 64, src := 4, dst := 6, tag := 0, total := 64, done := 0, descending := false, pageReqs := false, parked := none, status := none, failed := none, written := [], reads := [], elements := [], pattern := [7], waitingAts := none, unread := none };
        let u := run5 (fun r => { r with kind := 2, z := 6, w := 1, xfer := some x });
        let q : Runner := { Runner.none with kind := 1, base := 8192, e := 2, z := 7, w := 1 };
        let s : State := { u with dma := { u.dma with runners := (4, q) :: (u.dma.runners ++ [(6, q)]) } };
        (s.runner 5).kind = 2 ∧ s.engineTakes 5 = true ∧ x.src ≠ 5 ∧ x.dst ≠ 5 ∧ x.src ≠ x.dst ∧ x.unread = none)
    ∧ (∀ l ∈ [[], [2 ^ 51]], let x : Xfer := { opcode := 1, control := 0, count := 64, src := 2 ^ 63, dst := 4096, tag := 0, total := 64, done := 0, descending := false, pageReqs := false, parked := none, status := none, failed := none, written := [], reads := [], elements := [], pattern := [7], waitingAts := none, unread := none };
        let u := run5 (fun r => { r with kind := 2, z := 6, w := 1, xfer := some x });
        let s : State := { u with dma := { u.dma with atc := l.map (fun _ => 0) } }; (s.runner 5).kind = 2
        ∧ s.engineTakes 5 = true ∧ isHost x.burst.2.1 = true ∧ isHost x.burst.2.2.1 = false ∧ s.tagFree = true
        ∧ s.missingPage [(x.burst.2.1, x.burst.2.2.2)] = (if l = [] then some 0 else none))
    ∧ (∀ b ∈ [false, true], let u : State := run5 id;
        let s : State := { u with dma := { u.dma with inFlight := 1024 }, net := { Net.reset with flit := b } };
        s.tagFree = b) := by
  refine ⟨?_, ?_, ?_, ?_, ?_, ?_, ?_⟩
  · decide +kernel
  · decide +kernel
  · simp only []; decide +kernel
  · simp only []; decide +kernel
  · simp only []; decide +kernel
  · simp only []; decide +kernel
  · simp only []; decide +kernel

/-- Hypotheses of `Obligations.DescriptorTransfersAndTranslations` are met. -/
theorem witness_DescriptorTransfersAndTranslations_3 :
    (let d : List Byte := [3, 0, 0, 0] ++ leBytes 4 64 ++ leBytes 8 (2 ^ 63) ++ leBytes 8 4096;
        ∀ l ∈ [[], [0]], let x : Xfer := { opcode := 3, control := 0, count := 64, src := 0, dst := 4096, tag := 0, total := 64, done := 0, descending := false, pageReqs := false, parked := none, status := none, failed := none, written := [], reads := [], elements := [], pattern := [7], waitingAts := none, unread := some d };
        let u := run5 (fun r => { r with kind := 2, z := 6, w := 1, xfer := some x });
        let s : State := { u with dma := { u.dma with atc := l } }; s.engineTakes 5 = true
        ∧ (s.runner 5).xfer = some x ∧ x.unread = some d ∧ (s.missingPage (descriptorList d)).isNone = !l.isEmpty)
    ∧ (let x : Xfer := { opcode := 1, control := 0, count := 64, src := 0, dst := 4096, tag := 0, total := 64, done := 0, descending := false, pageReqs := false, parked := none, status := none, failed := none, written := [], reads := [], elements := [], pattern := [7], waitingAts := none, unread := none };
        let y : Xfer := { x with done := 64, waitingAts := some 1 }; y.outcome = some (0, 0, 0) ∧ y.status = none
        ∧ y.waitingAts ≠ none ∧ (run5 id).missingPage [(2 ^ 63, 16)] = some 0 ∧ (run5 id).missingPage [] = none)
    ∧ (let x : Xfer := { opcode := 1, control := 0, count := 64, src := 2 ^ 63, dst := 4096, tag := 0, total := 64, done := 0, descending := false, pageReqs := false, parked := none, status := none, failed := none, written := [], reads := [], elements := [], pattern := [7], waitingAts := none, unread := none };
        let y : Xfer := { x with waitingAts := some 0 };
        let s := run5 (fun r => { r with kind := 2, w := 1, xfer := some y }); (s.runner 5).xfer = some y
        ∧ y.waitingAts = some (hostPage (0 : U64).toNat) ∧ (s.runner 5).mayPark 0 = true)
    ∧ (((run5 (fun r => { r with w := 1 })).runner 5).xfer = none
        ∧ ((run5 (fun r => { r with w := 1 })).runner 5).w ≠ ((run5 (fun r => { r with w := 1 })).runner 5).rd
        ∧ ((run5 (fun r => { r with w := 1 })).runner 5).fwdParked = none)
    ∧ (let u := run5 (fun r => { r with fwdParked := some 7, parkedAt := some 0 });
        let s : State := { u with ctl := { u.ctl with time := BitVec.ofNat 128 (2 ^ 90) } };
        (s.runner 5).fwdParked = some 7 ∧ (s.runner 5).waitsPage = true ∧ s.pageOverdue 5 = true)
    ∧ (let y : Xfer := { opcode := 1, control := 0, count := 64, src := 2 ^ 63, dst := 4096, tag := 0, total := 64, done := 0, descending := false, pageReqs := false, parked := some 0, status := none, failed := none, written := [], reads := [], elements := [], pattern := [7], waitingAts := none, unread := none };
        let u := run5 (fun r => { r with kind := 2, xfer := some y, parkedAt := some 0 });
        let s : State := { u with ctl := { u.ctl with time := BitVec.ofNat 128 (2 ^ 90) } };
        (s.runner 5).fwdParked = none ∧ (s.runner 5).xfer = some y ∧ y.parked = some 0 ∧ y.status = none
        ∧ y.reads = [] ∧ y.failed = none ∧ y.done ≠ y.total ∧ s.pageOverdue 5 = true)
    ∧ ((∀ e ∈ (run5 id).dma.runners, e.2.xfer = none)) := by
  refine ⟨?_, ?_, ?_, ?_, ?_, ?_, ?_⟩
  · simp only []; decide +kernel
  · simp only []; decide +kernel
  · simp only []; decide +kernel
  · decide +kernel
  · simp only []; decide +kernel
  · simp only []; decide +kernel
  · decide +kernel

/-- Hypotheses of `Obligations.StoreFormatAndDrives` are met. -/
theorem witness_StoreFormatAndDrives :
    (Live (dev .op) ∧ MayWrite (dev .op) .host ∧ (dev .op).ctl.dev ≠ .preop ∧ (dev .op).ctl.firmware = false
        ∧ ((dev .op).drive 7).st ≠ 1 ∧ ((dev .op).drive 7).st = 0 ∧ (dev .op).chunk? 0 = none)
    ∧ (MayWrite (dev .preop) .host ∧ (dev .preop).ctl.dev = .preop ∧ (dev .preop).formatDiscards 255 = false)
    ∧ (let s : State := { { dev .op with sto := { Sto.reset with drives := [(0, { Drive.absent with st := 5, info := some { withinLimits := true, label := none, zoneCapacity := 67108864, zones := 64, appendLimit := 131072, activeLimit := 0, used := 0, spare := 100, spareThreshold := 10, mediaErrors := 0 } })] } } with ctl := (dev .preop).ctl };
        MayWrite s .host ∧ s.ctl.dev = .preop ∧ s.formatDiscards 1 = true)
    ∧ (let s : State := { dev .op with ctl := { (dev .op).ctl with firmware := true } }; s.ctl.firmware = true
        ∧ s.sto.st = 0)
    ∧ (∀ l ∈ [none, some { storeId := 9, position := 0, drives := 1, generation := 1, formatTime := 0 }], let i : DriveInfo := { withinLimits := true, label := l, zoneCapacity := 67108864, zones := 64, appendLimit := 131072, activeLimit := 0, used := 0, spare := 100, spareThreshold := 10, mediaErrors := 0 };
        let s : State := { dev .op with sto := { Sto.reset with drives := [(0, { Drive.absent with st := 1 })] } };
        (s.drive 0).st = 1 ∧ i.withinLimits = true ∧ 67108864 ≤ i.zoneCapacity ∧ 131072 ≤ i.appendLimit ∧ i.label = l
        ∧ (∀ e, e < 8 → e ≠ 0 → (s.drive e).st ≠ 2 ∧ (s.drive e).st ≠ 3) ∧ i.used.toNat < s.num 0x2C00 8
        ∧ (s.drive 0).retired = false) := by
  refine ⟨?_, ?_, ?_, ?_, ?_⟩
  · simp only [Live, MayWrite]; decide +kernel
  · simp only [MayWrite]; decide +kernel
  · simp only [MayWrite]; decide +kernel
  · simp only []; decide +kernel
  · simp only []; decide +kernel

/-- Hypotheses of `Obligations.StoreFormatAndDrives` are met. -/
theorem witness_StoreFormatAndDrives_2 :
    (∀ k ∈ [2, 3], let s : State := { dev .op with sto := { Sto.reset with drives := [(0, { Drive.absent with st := k })] } };
        (s.drive 0).st = k ∧ (s.drive 0).st ≠ 0 ∧ s.num 0x2C00 8 ≤ (255 : Byte).toNat
        ∧ (s.drive 0).used < s.num 0x2C00 7)
    ∧ (let c : Chunk := { stream := 0, number := 3, session := 1, flags := 0, used := 4096, firstOff := 0, firstSeq := 0, firstTime := 0, crc := 0, data := [], st := .committed, drive := 0, zone := 20, lba := 0, entry := none, lastEnd := none, sent := 0, scrubAt := none };
        let s : State := { poured .store [(0x2C0006, num 500)] with sto := { Sto.reset with chunks := [(3, c)] } };
        0 < s.bcfg .store 0x2C00 6 ∧ (s.drive 0).scrubFree ≤ s.ctl.crystalCount ∧ c.scrubAt.isNone = true
        ∧ (poured .store [(0x2C0006, num 0)]).bcfg .store 0x2C00 6 = 0 ∧ s.chunk? 3 = some c ∧ c.drive = 0
        ∧ c.live = true ∧ s.hea.level = 0 ∧ s.zoneAged 0 c.zone = false ∧ ((s.drive 0).zone c.zone).cond ≠ 3
        ∧ ((s.drive 0).zone c.zone).retry = false ∧ (s.drive 0).st ≠ 3)
    ∧ (let c : Chunk := { ({ stream := 0, number := 3, session := 1, flags := 0, used := 4096, firstOff := 0, firstSeq := 0, firstTime := 0, crc := 0, data := [], st := .committed, drive := 0, zone := 20, lba := 0, entry := none, lastEnd := none, sent := 0, scrubAt := none } : Chunk) with scrubAt := some 0 };
        let s : State := { poured .store [(0x2C0006, num 500)] with sto := { Sto.reset with chunks := [(3, c)] } };
        let u : State := { s with ctl := { s.ctl with crystalCount := 604800 * 1600000000 } }; s.chunk? 3 = some c
        ∧ c.scrubAt = some 0 ∧ s.ctl.crystalCount < 0 + s.num 0x2C00 4 * 1600000000
        ∧ 0 + u.num 0x2C00 4 * 1600000000 ≤ u.ctl.crystalCount)
    ∧ (let c : Chunk := { stream := 0, number := 3, session := 1, flags := 0, used := 4096, firstOff := 0, firstSeq := 0, firstTime := 0, crc := 0, data := [], st := .lost, drive := 0, zone := 20, lba := 0, entry := none, lastEnd := none, sent := 0, scrubAt := none };
        let s : State := { dev .op with sto := { Sto.reset with chunks := [(3, c)] } }; s.chunk? 3 = some c
        ∧ c.live = false) := by
  refine ⟨?_, ?_, ?_, ?_⟩
  · simp only []; decide +kernel
  · simp only []; decide +kernel
  · simp only []; decide +kernel
  · simp only []; decide +kernel

/-- Hypotheses of `Obligations.StoreChunksAndReplays` are met. -/
theorem witness_StoreChunksAndReplays :
    (Live (dev .op) ∧ (dev .op).sto.st ≠ 2 ∧ ((dev .op).rstream 31).series = [] ∧ ((dev .op).rstream 31).waiting = []
        ∧ ((dev .op).drive 0).outstanding = [] ∧ (dev .op).sto.entries = [] ∧ (dev .op).sto.blocks = []
        ∧ (dev .op).journalDrives = [] ∧ ((dev .op).replay 7).st ≠ 1 ∧ ((dev .op).replay 7).st ≠ 2)
    ∧ (({ dev .op with sto := { Sto.reset with st := 2 } } : State).sto.st = 2)
    ∧ ((({ dev .op with sto := { Sto.reset with streams := [(0, { RStream.off with series := [1] })] } } : State).rstream 0).series ≠ [])
    ∧ (let c : Chunk := { stream := 0, number := 3, session := 1, flags := 0, used := 4096, firstOff := 0, firstSeq := 0, firstTime := 0, crc := 0, data := [], st := .buffered, drive := 0, zone := 20, lba := 0, entry := none, lastEnd := none, sent := 0, scrubAt := none };
        let s : State := { poured .store [] with sto := { Sto.reset with streams := [(0, { RStream.off with st := 1, waiting := [3] })], chunks := [(3, c)] } };
        (s.rstream 0).waiting = 3 :: [] ∧ s.chunk? 3 = some c ∧ s.driveOrder 0 = [] ∧ (s.rstream 0).st ≠ 0)
    ∧ (let c : Chunk := { stream := 0, number := 3, session := 1, flags := 0, used := 4096, firstOff := 0, firstSeq := 0, firstTime := 0, crc := 0, data := [], st := .buffered, drive := 0, zone := 20, lba := 0, entry := none, lastEnd := none, sent := 0, scrubAt := none };
        let s : State := { poured .store [(0x2C2003, num 255)] with sto := { Sto.reset with streams := [(0, { RStream.off with st := 1, waiting := [3] })], chunks := [(3, c)], drives := [(0, { Drive.absent with st := 2, info := some { withinLimits := true, label := none, zoneCapacity := 67108864, zones := 64, appendLimit := 131072, activeLimit := 0, used := 0, spare := 100, spareThreshold := 10, mediaErrors := 0 }, zones := [(20, { Zone.empty with cond := 1, stream := 0 })] })] } };
        s.driveOrder 0 = [0] ∧ (s.drive 0).openZone 0 = some 20
        ∧ ((s.drive 0).zone 20).written + (c.used + 4095) / 4096 ≤ (s.drive 0).zoneLbas)
    ∧ (let c : Chunk := { stream := 0, number := 3, session := 1, flags := 0, used := 4096, firstOff := 0, firstSeq := 0, firstTime := 0, crc := 0, data := [], st := .appending, drive := 0, zone := 20, lba := 0, entry := none, lastEnd := none, sent := 0, scrubAt := none };
        let s : State := { dev .op with sto := { Sto.reset with chunks := [(3, c)], drives := [(0, { Drive.absent with st := 2, outstanding := [3] })] } };
        s.completes 0 0 = some 3 ∧ s.chunk? 3 = some c ∧ s.journalDrives ≠ [] ∧ (∀ m, m < 32 → (s.rstream m).st ≠ 2)) := by
  refine ⟨?_, ?_, ?_, ?_, ?_, ?_⟩
  · simp only [Live]; decide +kernel
  · decide +kernel
  · decide +kernel
  · simp only []; decide +kernel
  · simp only []; decide +kernel
  · simp only []; decide +kernel

/-- Hypotheses of `Obligations.StoreChunksAndReplays` are met. -/
theorem witness_StoreChunksAndReplays_2 :
    (let s : State := { dev .op with sto := { Sto.reset with entries := [[0]], blocks := [(0, [0])], drives := [(0, { Drive.absent with st := 2 })] } };
        s.sto.entries ≠ [] ∧ s.journalDrives ≠ [] ∧ s.sto.blocks = (0, [0]) :: [])
    ∧ (MayWrite (dev .op) .host ∧ (dev .op).sto.st ≠ 3)
    ∧ (let s : State := { run5 id with od := [(0x2C6708, num 5)], sto := { Sto.reset with st := 3 } }; MayWrite s .host
        ∧ s.sto.st = 3 ∧ s.isRecordRunner (s.num 0x2C67 8) = true ∧ s.runnerNamed (s.num 0x2C67 8) = false
        ∧ (∀ j, j < 8 → j ≠ 7 → (s.replay j).runner ≠ s.num 0x2C67 8))
    ∧ (∀ k ∈ [0, 4], let p : Replay := { Replay.idle with st := 1, runner := 5, limit := 1, delivered := 1 };
        let s : State := { run5 (fun r => { r with w := BitVec.ofNat 32 k }) with sto := { Sto.reset with replays := [(0, p)] } };
        (s.replay 0).st = 1 ∧ (s.replay 0).limit ≠ 0 ∧ (s.replay 0).limit ≤ (s.replay 0).delivered
        ∧ s.runnerTakes (s.replay 0).runner = decide (k = 0))
    ∧ (let s : State := { dev .op with sto := { Sto.reset with streams := [(0, { RStream.off with series := [1], firstIn := some 0 })] }, ctl := { (dev .op).ctl with time := BitVec.ofNat 128 (2 ^ 90) } };
        (s.rstream 0).series ≠ [] ∧ s.flushDue 0 = true ∧ (dev .op).flushDue 0 = false)
    ∧ (let c : Chunk := { stream := 0, number := 3, session := 1, flags := 0, used := 4096, firstOff := 0, firstSeq := 0, firstTime := 0, crc := 0, data := [], st := .appending, drive := 0, zone := 20, lba := 0, entry := none, lastEnd := none, sent := 0, scrubAt := none };
        let s : State := { dev .op with sto := { Sto.reset with chunks := [(3, c)], drives := [(0, { Drive.absent with st := 2, outstanding := [3] })] }, ctl := { (dev .op).ctl with time := BitVec.ofNat 128 (2 ^ 90) } };
        s.appendOverdue 0 = true ∧ (dev .op).appendOverdue 0 = false) := by
  refine ⟨?_, ?_, ?_, ?_, ?_, ?_⟩
  · simp only []; decide +kernel
  · simp only [MayWrite]; decide +kernel
  · simp only [MayWrite]; decide +kernel
  · simp only []; decide +kernel
  · simp only []; decide +kernel
  · simp only []; decide +kernel

/-- Hypotheses of `Obligations.StoreChunksAndReplays` are met. -/
theorem witness_StoreChunksAndReplays_3 :
    (let s : State := { dev .op with sto := { Sto.reset with drives := [(0, { Drive.absent with st := 2 })] }, ctl := { (dev .op).ctl with time := BitVec.ofNat 128 (2 ^ 90) } };
        s.journalDrives ≠ [] ∧ s.catalogueIsDue = true ∧ (dev .op).catalogueIsDue = false)
    ∧ (∀ k ∈ [0, 4], let c : Chunk := { stream := 0, number := 3, session := 1, flags := 0, used := 4096, firstOff := 0, firstSeq := 0, firstTime := 0, crc := 0, data := (let h : List Byte := List.replicate 60 0; h ++ leBytes 4 (crc32c h).toNat), st := .committed, drive := 0, zone := 20, lba := 0, entry := none, lastEnd := none, sent := 0, scrubAt := none };
        let p : Replay := { Replay.idle with st := 1, runner := 5, chunk := 3, found := true };
        let s : State := { run5 (fun r => { r with w := BitVec.ofNat 32 k }) with sto := { Sto.reset with replays := [(0, p)], chunks := [(3, c)] } };
        (s.replay 0).st = 1 ∧ p.limit = 0 ∧ s.bcfg .store 0x2C60 9 = 0
        ∧ (s.chunk? (chunkKey p.stream p.chunk)).map (fun c => decide (2097152 ≤ s.outstandingBytes c.drive)) = some false
        ∧ s.runnerTakes p.runner = decide (k = 0)
        ∧ (match s.replayNext p with | .record _ true 3 64 => true | _ => false) = true)
    ∧ (let c : Chunk := { stream := 0, number := 3, session := 1, flags := 0, used := 4096, firstOff := 0, firstSeq := 0, firstTime := 0, crc := 0, data := [], st := .lost, drive := 0, zone := 20, lba := 0, entry := none, lastEnd := none, sent := 0, scrubAt := none };
        let p : Replay := { Replay.idle with st := 1, runner := 5, chunk := 3, found := true };
        let s : State := { run5 id with sto := { Sto.reset with replays := [(0, p)], chunks := [(3, c)] } };
        s.runnerTakes p.runner = true ∧ (match s.replayNext p with | .notice 1 3 1 1 0 => true | _ => false) = true)
    ∧ (let p : Replay := { Replay.idle with st := 1, runner := 5, chunk := 3, found := true };
        let s : State := { run5 id with sto := { Sto.reset with replays := [(0, p)] } };
        s.runnerTakes p.runner = true ∧ (match s.replayNext p with | .finish => true | _ => false) = true)
    ∧ (∀ k ∈ [0, 7], let p : Replay := { Replay.idle with st := 1, runner := 5, chunk := 3, found := true, due := 7 };
        let s : State := { poured .store [(0x2C6009, num 5)] with sto := { Sto.reset with replays := [(0, p)] }, ctl := { (poured .store [(0x2C6009, num 5)]).ctl with time := BitVec.ofNat 128 (k * 2 ^ 32) } };
        s.bcfg .store 0x2C60 9 ≠ 0 ∧ (s.now.toNat < p.due.toNat ↔ k = 0) ∧ (p.due.toNat ≤ s.now.toNat ↔ k = 7))
    ∧ (let c : Chunk := { stream := 0, number := 3, session := 1, flags := 0, used := 2097152, firstOff := 0, firstSeq := 0, firstTime := 0, crc := 0, data := [], st := .appending, drive := 0, zone := 20, lba := 0, entry := none, lastEnd := none, sent := 0, scrubAt := none };
        let p : Replay := { Replay.idle with st := 1, runner := 5, chunk := 3, found := true };
        let s : State := { dev .op with sto := { Sto.reset with replays := [(0, p)], chunks := [(3, c)], drives := [(0, { Drive.absent with st := 2, outstanding := [3] })] } };
        s.bcfg .store 0x2C60 9 = 0
        ∧ (s.chunk? (chunkKey p.stream p.chunk)).map (fun c => decide (2097152 ≤ s.outstandingBytes c.drive)) = some true) := by
  refine ⟨?_, ?_, ?_, ?_, ?_, ?_⟩
  · simp only []; decide +kernel
  · simp only []; decide +kernel
  · simp only []; decide +kernel
  · simp only []; decide +kernel
  · simp only []; decide +kernel
  · simp only []; decide +kernel

/-- Hypotheses of `Obligations.EthernetAndHostPorts` are met. -/
theorem witness_EthernetAndHostPorts :
    (Live (dev .op) ∧ (dev .op).portsApplied = false ∧ ((dev .op).port 1).link ≠ 1 ∧ ((dev .op).port 1).link ≠ 2)
    ∧ (let s : State := { dev .op with ctl := { (dev .op).ctl with applied := [(0x2D0101, num 0)] } }; s.portCfg 1 1 = 0)
    ∧ (let s : State := { dev .op with ctl := { (dev .op).ctl with applied := [(0x2D0101, num 1)] } }; s.portCfg 1 1 ≠ 0
        ∧ (s.port 1).link ≠ 2)
    ∧ (let s : State := { poured (.net 0) [] with net := { Net.reset with ports := [(0, { EthPort.down with link := 1 })] } };
        s.portsApplied = true ∧ EthRx.arp ≠ .other ∧ (s.port 0).link = 1 ∧ (s.port (s.netCfg 0 1)).link = 1
        ∧ s.netMac 0 = none)
    ∧ (({ dev .op with net := { Net.reset with ports := [(1, { EthPort.down with link := 2 })] } } : State).port 1 = { EthPort.down with link := 2 })
    ∧ (let s : State := { poured (.net 0) [] with ctl := { (poured (.net 0) []).ctl with applied := [(0x2D000C, num 1)] } };
        s.portsApplied = true ∧ ((1 : Byte).toNat &&& s.portCfg 0 0x0C) ≠ 0
        ∧ ((2 : Byte).toNat &&& s.portCfg 0 0x0C) = 0 ∧ (s.portCfg 0 0x0D = 1)) := by
  refine ⟨?_, ?_, ?_, ?_, ?_, ?_⟩
  · simp only [Live]; decide +kernel
  · simp only []; decide +kernel
  · simp only []; decide +kernel
  · simp only []; decide +kernel
  · decide +kernel
  · simp only []; decide +kernel

/-- Hypotheses of `Obligations.EthernetAndHostPorts` are met. -/
theorem witness_EthernetAndHostPorts_2 :
    ((0xF0 : Nat) &&& (255 - (0x0F : Byte).toNat) ≠ 0 ∧ (0xF0 : Nat) &&& (255 - (0xF0 : Byte).toNat) = 0)
    ∧ (let s := run5 (fun r => { r with dest := 1 }); ((s.runner 5).kind = 1 ∧ (s.runner 5).dest = 1))
    ∧ (∀ b ∈ [false, true], let u : State := { poured (.net 0) [] with net := { Net.reset with ports := [(0, { EthPort.down with link := 1 })], streams := [(0, { NStream.idle with asked := some 0 })] } };
        let s : State := { u with ctl := { u.ctl with time := BitVec.ofNat 128 (if b then 2 ^ 90 else 0) } };
        s.portsApplied = true ∧ (s.port (s.netCfg 0 1)).link = 1 ∧ s.netMac 0 = none ∧ (s.nstream 0).asked = some 0
        ∧ s.elapsed 0 1000000000 = b)
    ∧ (let s : State := { poured (.net 0) [] with net := { Net.reset with streams := [(0, { NStream.idle with mac := some 1 })] } };
        (s.netMac 0).isSome = true)
    ∧ (let s := run5 (fun r => { r with kind := 2, base := 2 ^ 63 + 4096 }); (s.runner 5).kind = 2
        ∧ isHost (s.runner 5).base = true) := by
  refine ⟨?_, ?_, ?_, ?_, ?_⟩
  · decide +kernel
  · simp only []; decide +kernel
  · simp only []; decide +kernel
  · simp only []; decide +kernel
  · simp only []; decide +kernel

/-- Hypotheses of `Obligations.NetworkStreams` are met. -/
theorem witness_NetworkStreams :
    (Live (dev .op) ∧ ((dev .op).nstream 31).queue = [] ∧ (dev .op).canSend 31 = false)
    ∧ (∀ k ∈ [0, 1, 2], let s : State := { poured (.net 0) [(0x2D1002, num k)] with net := { Net.reset with ports := [(0, { EthPort.down with link := 1 })], streams := [(0, { NStream.idle with mac := some 1, queue := [(5, List.replicate 64 0)] })] } };
        s.netCfg 0 2 = k ∧ s.netCfg 0 0x0C = 0 ∧ s.canSend 0 = true
        ∧ (s.nstream 0).queue = (5, List.replicate 64 0) :: []
        ∧ (List.replicate 64 (0 : Byte)).length ≤ ((s.nstream 0).fragments + 1) * max 64 (s.fragmentBytes 0)
        ∧ field (List.replicate 64 0) 0 1 ≠ 1 ∧ (s.nstream 0).lastSeen = none)
    ∧ (field (1 :: List.replicate 63 0) 0 1 = 1)
    ∧ (let b : List Byte := List.replicate 64 0;
        let s : State := { poured (.net 0) [(0x2D1002, num 2), (0x2D100C, num 5)] with net := { Net.reset with ports := [(0, { EthPort.down with link := 1 })], streams := [(0, { NStream.idle with mac := some 1, queue := [(5, b)], lastSeen := some (field b 16 4, field b 0 1, (VitaRec.of b).geom) })] } };
        s.netCfg 0 2 = 2 ∧ s.netCfg 0 0x0C = 5 ∧ s.canSend 0 = true ∧ (s.nstream 0).queue = [(5, b)]
        ∧ (s.nstream 0).lastSeen = some (field b 16 4, field b 0 1, (VitaRec.of b).geom)
        ∧ (s.nstream 0).sinceCtx < s.netCfg 0 0x15) := by
  refine ⟨?_, ?_, ?_, ?_⟩
  · simp only [Live]; decide +kernel
  · simp only []; decide +kernel
  · decide +kernel
  · simp only []; decide +kernel

/-- Hypotheses of `Obligations.MonitorsAndConverters` are met. -/
theorem witness_MonitorsAndConverters :
    (Live (dev .op) ∧ ((dev .op).wm 0).st = 0 ∧ (dev .op).ctl.crystal = false ∧ MayWrite (dev .op) .host
        ∧ (dev .op).hea.refState ≠ 1 ∧ (dev .op).lowPower = false ∧ ((dev .op).hk 11).running = false)
    ∧ (let s : State := { dev .op with hea := { Hea.reset with wms := [(15, { Wm.start with st := 1 })] } };
        (s.wm 15).st = 1)
    ∧ (∀ f ∈ [1, 3], let s : State := { poured .health [(0x2E0F01, num 1), (0x2E0F03, num 10), (0x2E0F04, num 5), (0x2E0F06, num f), (0x2E0F07, num 1)] with ctl := { (poured .health [(0x2E0F01, num 1), (0x2E0F03, num 10), (0x2E0F04, num 5), (0x2E0F06, num f), (0x2E0F07, num 1)]).ctl with crystal := true, dev := .preop }, hea := { Hea.reset with wms := [(15, { Wm.start with hist := [0] })] } };
        let x := classify (s.wm 15).st 11 (s.hcfgInt 0x2E0F 3) (s.hcfgInt 0x2E0F 4) (s.hcfg 0x2E0F 5);
        s.ctl.crystal = true ∧ s.hcfg 0x2E0F 1 ≠ 0 ∧ s.hcfg 0x2E0F 6 = f ∧ x = 1
        ∧ majority (s.wm 15).st (s.hcfg 0x2E0F 6) (pushSample (s.wm 15).hist x) = (if f = 1 then some 1 else none)
        ∧ s.dieRuns 0 = false ∧ s.dieRuns 1 = false ∧ (∀ j, j < 16 → (s.hcfg (0x2E00 + j) 7).testBit 2 = false)
        ∧ (s.hcfg 0x2E0F 7).testBit 0 = true)
    ∧ (∀ m ∈ [2, 3], ∀ x ∈ [0, 2], let s : State := { poured .health [(0x2E4B01, num m), (0x2E4B04, num 3)] with hea := { Hea.reset with refState := x } };
        s.hcfg 0x2E4B 4 = 3 ∧ (8 : Byte).getLsbD 3 = true ∧ s.hcfg 0x2E4B 1 = m ∧ (s.hk 11).running = false
        ∧ (s.hk 11).waiting = false ∧ s.lowPower = false ∧ s.hea.refState = x)
    ∧ (let s : State := { dev .op with hea := { Hea.reset with refState := 1, hks := [(11, { Hk.off with waiting := true })] } };
        s.hea.refState = 1 ∧ s.lowPower = false ∧ (s.hk 11).waiting = true
        ∧ s.ctl.crystalCount < s.hea.refAt + 320000) := by
  refine ⟨?_, ?_, ?_, ?_, ?_⟩
  · simp only [Live, MayWrite]; decide +kernel
  · simp only []; decide +kernel
  · simp only []; decide +kernel
  · simp only []; decide +kernel
  · simp only []; decide +kernel

/-- Hypotheses of `Obligations.MonitorsAndConverters` are met. -/
theorem witness_MonitorsAndConverters_2 :
    (let s : State := { dev .op with ctl := { (dev .op).ctl with applied := [(0x2E3001, num 1)] }, hea := { Hea.reset with hks := [(0, { Hk.off with waiting := true })] } };
        s.lowPower = true ∧ s.hcfg 0x2E40 4 = 0 ∧ (s.hk 0).waiting = true ∧ (s.hk 0).due ≤ s.ctl.crystalCount)
    ∧ (∀ n ∈ [1, 2], let s : State := { dev .op with hea := { Hea.reset with hks := [(0, { Hk.off with running := true, left := n, missed := 2 ^ 32 - 1 })] } };
        (s.hk 0).running = true ∧ (s.hk 0).left = n ∧ (s.hk 0).due ≤ s.ctl.crystalCount)
    ∧ (let s : State := { dev .op with ctl := { (dev .op).ctl with crystalCount := 320000 }, hea := { Hea.reset with refState := 1 } };
        s.hea.refState = 1 ∧ s.lowPower = false ∧ s.hea.refAt + 320000 ≤ s.ctl.crystalCount)
    ∧ (let s : State := { dev .op with hea := { Hea.reset with hks := [(0, { Hk.off with running := true, due := 1 })] } };
        s.ctl.crystalCount < (s.hk 0).due) := by
  refine ⟨?_, ?_, ?_, ?_⟩
  · simp only []; decide +kernel
  · simp only []; decide +kernel
  · simp only []; decide +kernel
  · simp only []; decide +kernel

/-- Hypotheses of `Obligations.QuenchLevels` are met. -/
theorem witness_QuenchLevels :
    (Live (dev .preop) ∧ (dev .preop).dieRuns 0 = false ∧ (dev .preop).dieRuns 1 = false
        ∧ (∀ j, j < 16 → ((dev .preop).hcfg (0x2E00 + j) 7).testBit 2 = false) ∧ (List.replicate 64 0).length = 64
        ∧ (List.replicate 63 0).length ≠ 64 ∧ (dev .preop).settled = false ∧ (dev .preop).stepDue = false)
    ∧ (let s : State := { dev .op with ctl := { (dev .op).ctl with applied := [(0x220001, num 1)] } }; s.dieRuns 0 = true
        ∧ (624 : Nat) < 625)
    ∧ (∀ k ∈ [1, 4], let s : State := { dev .preop with ctl := { (dev .preop).ctl with crystalCount := 2 ^ 60 }, hea := { Hea.reset with level := k, exitSince := some 0 } };
        s.settled = true ∧ s.mayLeave = true ∧ s.hea.level ≤ 4)
    ∧ (∀ k ∈ [5, 6], let s : State := { dev .preop with ctl := { (dev .preop).ctl with crystalCount := 2 ^ 60 }, hea := { Hea.reset with level := k, exitSince := some 0, shedCaps := [3], shedChans := [2] } };
        s.settled = true ∧ s.mayLeave = true ∧ s.hea.level = k ∧ s.hea.shedCaps = 3 :: [] ∧ s.hea.shedChans = 2 :: [])
    ∧ (∀ l ∈ [[], [0, 1, 2, 3]], let s : State := { dev .op with ctl := { (dev .op).ctl with applied := [(0x220001, num 1)], crystalCount := 2 ^ 60 }, hea := { Hea.reset with level := 5, entrySince := some 0, vdd := [(0, some 600)], shedCaps := l } };
        s.stepDue = true ∧ s.mustStep = true ∧ s.hea.level = 5 ∧ s.nextCapture.isSome = l.isEmpty)
    ∧ (let s : State := { dev .op with ctl := { (dev .op).ctl with applied := [(0x220001, num 1)], crystalCount := 2 ^ 60 }, hea := { Hea.reset with level := 6, entrySince := some 0, vdd := [(0, some 600)] } };
        s.stepDue = true ∧ s.mustStep = true ∧ s.hea.level = 6) := by
  refine ⟨?_, ?_, ?_, ?_, ?_, ?_⟩
  · simp only [Live]; decide +kernel
  · simp only []; decide +kernel
  · simp only []; decide +kernel
  · simp only []; decide +kernel
  · simp only []; decide +kernel
  · simp only []; decide +kernel

/-- Hypotheses of `Obligations.FaultsAndResetConditions` are met. -/
theorem witness_FaultsAndResetConditions :
    (Live (dev .op) ∧ 64 ≤ elementLow 64 ∧ elementLow 63 < 64
        ∧ Tab.get (fun _ => false) (dev .op).dma.retired (elementLow 63) = false ∧ (dev .op).ctl.crystal = false)
    ∧ (8 ≤ elementHigh (BitVec.ofNat 64 (8 * 2 ^ 56)) ∧ 4 ≤ elementHigh (BitVec.ofNat 64 (4 * 2 ^ 56)))
    ∧ (let s : State := { dev .op with sto := { Sto.reset with drives := [(0, { Drive.absent with st := 2 })] } };
        elementHigh 0 < 8 ∧ (s.drive (elementHigh 0)).st = 2)
    ∧ (hbmBytes ≤ (BitVec.ofNat 64 hbmBytes).toNat)
    ∧ (∀ x ∈ [none, some ResetCondition.supply], let s : State := { dev .op with ctl := { (dev .op).ctl with crystal := true }, flt := { Flt.reset with resetCond := x } };
        s.ctl.crystal = true ∧ s.flt.resetCond = x) := by
  refine ⟨?_, ?_, ?_, ?_, ?_⟩
  · simp only [Live]; decide +kernel
  · decide +kernel
  · simp only []; decide +kernel
  · decide +kernel
  · simp only []; decide +kernel

/-- Hypotheses of `Obligations.PeriodicGroups` are met. -/
theorem witness_PeriodicGroups :
    (Live (dev .op)) := by
  simp only [Live]; decide +kernel

/-- Hypotheses of `Obligations.LadleWordsRoundTrip` are met. -/
theorem witness_LadleWordsRoundTrip :
    (ladleWord (.add 0 1 2 3) = some 0x0448C000 ∧ ladleInstr 0 0xFC00FFFF = some (.trap 0 0xFFFF)) := by
  decide +kernel

/-- Hypotheses of `Obligations.StepTakesOneCommand` are met. -/
theorem witness_StepTakesOneCommand :
    (State.reset.pending = []) := by
  decide +kernel

/-- Hypotheses of `Obligations.StepKeepsMemoryCanonical` are met. -/
theorem witness_StepKeepsMemoryCanonical :
    (Tab.wf memDefault State.reset.mem = true)
    ∧ (Tab.wf memDefault [(0, 1), (hbmBytes - 1, 255)] = true) := by
  refine ⟨?_, ?_⟩
  · decide +kernel
  · decide +kernel

/-- Hypotheses of `Obligations.StepKeepsDepths` are met. -/
theorem witness_StepKeepsDepths :
    (State.reset.ctl.ecatEmg.length ≤ 16 ∧ State.reset.ctl.hostEmg.length ≤ 64 ∧ State.reset.flt.journal.length ≤ 65536
        ∧ State.reset.flt.nv.length ≤ 15360) := by
  decide +kernel

/-- Hypotheses of `Obligations.FaultCounting` are met. -/
theorem witness_FaultCounting :
    (let s : State := { dev .op with flt := { Flt.reset with windows := [(faultKey .lane 3, { start := 0, count := 1, n := 2, w := 5 })] } };
        let f := Tab.get (fun _ => FaultWin.closed) s.flt.windows (faultKey .lane 3); f.count ≠ 0
        ∧ s.ctl.crystalCount < f.start + f.w ∧ (s.countFault .lane 3).2.2 = true)
    ∧ (let s := entries .op [(0x301301, num 1)]; s.num (0x3010 + FaultClass.lane.code) 1 = 1
        ∧ ¬ ((Tab.get (fun _ => FaultWin.closed) s.flt.windows (faultKey .lane 3)).count ≠ 0))
    ∧ (Live (dev .op) ∧ MayWrite (dev .op) .host) := by
  refine ⟨?_, ?_, ?_⟩
  · simp only []; decide +kernel
  · simp only []; decide +kernel
  · simp only [Live, MayWrite]; decide +kernel

/-- Hypotheses of `Obligations.FullRunnerDropsTheRecord` are met. -/
theorem witness_FullRunnerDropsTheRecord :
    (let s := run5 (fun r => { r with w := 4 }); Live s ∧ (s.runner 5).kind = 1 ∧ (s.runner 5).full = true) := by
  simp only [Live]; decide +kernel

/-- Hypotheses of `Obligations.RunnerSequenceNumbers` are met. -/
theorem witness_RunnerSequenceNumbers :
    (let d : Dropped := { first := 0, span := { start := 0, stop := 0, cause := 1 } };
        let s := run5 (fun r => { r with dropped := some d, nextSeq := 1 }); Live s ∧ (s.runner 5).kind = 1
        ∧ (s.runner 5).dropped = some d ∧ (s.runner 5).stopGap = none
        ∧ ((s.runner 5).w - (s.runner 5).rd).toNat + 1 < (s.runner 5).slots ∧ 6 ≤ (s.runner 5).z
        ∧ 64 + rec0.payload.length ≤ (s.runner 5).slotBytes) := by
  simp only [Live]; decide +kernel

end Sys2Proof.Tests
end

/-! Records entering a runner: what a real-time producer's record write stores, drops and counts (R17-R22), and the sequence
numbers of data records and gap records (R20). -/

namespace Sys2Proof.Machine

/-! ### Little-endian fields of a record -/

@[simp] theorem leBytes_length (n v : Nat) : (leBytes n v).length = n := by
  induction n generalizing v with
  | zero => rfl
  | succ n ih => simp [leBytes, ih]

theorem ofLeBytes_leBytes (n v : Nat) : ofLeBytes (leBytes n v) = v % 256 ^ n := by
  induction n generalizing v with
  | zero => simp [leBytes, ofLeBytes, Nat.mod_one]
  | succ n ih => rw [leBytes, ofLeBytes, ih, BitVec.toNat_ofNat, Nat.pow_succ' (m := 256), Nat.mod_mul]

theorem field_take (bs : List Byte) {lo n m : Nat} (h : lo + n ≤ m) : field (bs.take m) lo n = field bs lo n := by
  simp only [field, slice, List.drop_take, List.take_take]
  rw [Nat.min_eq_left (by omega)]

theorem field_append_left (xs ys : List Byte) {lo n : Nat} (h : lo + n ≤ xs.length) : field (xs ++ ys) lo n = field xs lo n := by
  simp only [field, slice]
  rw [List.drop_append_of_le_length (by omega), List.take_append_of_le_length (by simp; omega)]

theorem field_leBytes (xs ys : List Byte) (n v : Nat) : field (xs ++ (leBytes n v ++ ys)) xs.length n = v % 256 ^ n := by
  simp only [field, slice, List.drop_left]
  rw [List.take_left' (leBytes_length n v), ofLeBytes_leBytes]

@[simp] theorem headerBytes_length (typ runner len seq pour : Nat) (time : T96) (chan source prog flags : Nat) (fields : List Byte) :
    (headerBytes typ runner len seq pour time chan source prog flags fields).length = 60 := by
  simp [headerBytes, padTo]; omega

theorem headerBytes_type (typ runner len seq pour : Nat) (time : T96) (chan source prog flags : Nat) (fields : List Byte) :
    field (headerBytes typ runner len seq pour time chan source prog flags fields) 0 1 = typ % 256 := by
  simpa only [headerBytes, List.append_assoc, List.nil_append, List.length_nil, Nat.pow_one] using field_leBytes [] _ 1 typ

theorem headerBytes_seq (typ runner len seq pour : Nat) (time : T96) (chan source prog flags : Nat) (fields : List Byte) :
    field (headerBytes typ runner len seq pour time chan source prog flags fields) 8 8 = seq % 2 ^ 64 := by
  have h := field_leBytes (leBytes 1 typ ++ leBytes 1 1 ++ leBytes 2 runner ++ leBytes 4 len)
    (leBytes 4 pour ++ leBytes 12 time.toNat ++ leBytes 1 chan ++ leBytes 1 source ++ leBytes 2 prog ++ leBytes 4 flags
      ++ padTo 20 fields) 8 seq
  simpa [headerBytes] using h

@[simp] theorem sealRecord_length (header payload : List Byte) :
    (sealRecord header payload).length = header.length + 4 + payload.length := by
  simp [sealRecord, Nat.add_assoc]

/-- A field of the header is a field of the whole record. -/
theorem field_sealRecord (header payload : List Byte) {lo n : Nat} (h : lo + n ≤ header.length) :
    field (sealRecord header payload) lo n = field header lo n := by
  rw [sealRecord, List.append_assoc, field_append_left _ _ h]

@[simp] theorem gapBytes_length (runner seq first : Nat) (span : GapSpan) (chan : Nat) (pour : U32) :
    (gapBytes runner seq first span chan pour).length = 64 := by simp [gapBytes]

theorem gapBytes_type (runner seq first : Nat) (span : GapSpan) (chan : Nat) (pour : U32) :
    field (gapBytes runner seq first span chan pour) 0 1 = 1 := by
  rw [gapBytes, field_sealRecord _ _ (by simp), headerBytes_type]

theorem gapBytes_seq (runner : Nat) (seq : U64) (first : Nat) (span : GapSpan) (chan : Nat) (pour : U32) :
    field (gapBytes runner seq.toNat first span chan pour) 8 8 = seq.toNat := by
  rw [gapBytes, field_sealRecord _ _ (by simp), headerBytes_seq, Nat.mod_eq_of_lt seq.isLt]

@[simp] theorem Rec.bytes_length (r : Rec) (runner seq : Nat) (resumed : Bool) :
    (r.bytes runner seq resumed).length = 64 + r.payload.length := by simp [Rec.bytes]

theorem Rec.bytes_seq (r : Rec) (runner : Nat) (seq : U64) (resumed : Bool) :
    field (r.bytes runner seq.toNat resumed) 8 8 = seq.toNat := by
  rw [Rec.bytes, field_sealRecord _ _ (by simp), headerBytes_seq, Nat.mod_eq_of_lt seq.isLt]

/-! ### Reads of HBM after a store -/

theorem State.load_congr {s t : State} (h : t.mem = s.mem) (a n : Nat) : t.load a n = s.load a n := by
  simp only [State.load, State.byteAt, h]

theorem State.load_store_same (s : State) (a : Nat) (bs : List Byte) {n : Nat} (h : n ≤ bs.length) :
    (s.store a bs).load a n = bs.take n := by
  refine List.ext_getElem (by simp [State.load, h]) fun i hi _ => ?_
  have hn : i < n := by simpa [State.load] using hi
  simpa [State.load] using State.byteAt_store_same s a bs i (by omega)

theorem State.load_store_other (s : State) {a b n : Nat} (bs : List Byte) (h : a + n ≤ b ∨ b + bs.length ≤ a) :
    (s.store b bs).load a n = s.load a n := by
  refine List.map_congr_left fun i hi => State.byteAt_store_other s b bs ?_
  have := List.mem_range.mp hi
  omega

/-! ### Slots of a ring (R497, R498) -/

/-- Neighbours in a ring of two slots or more lie in different slots: their indices differ in parity. -/
theorem Runner.slotIndex_succ_ne (q : Runner) (i : U32) (h : 1 < q.slots) : i.toNat % q.slots ≠ (i + 1).toNat % q.slots := by
  intro he
  have he0 : q.e ≠ 0 := fun h0 => by rw [Runner.slots, h0] at h; exact Nat.lt_irrefl 1 h
  have even : 2 ∣ q.slots := Nat.pow_dvd_pow 2 (Nat.one_le_iff_ne_zero.mpr he0)
  have parity := congrArg (· % 2) he
  simp only [Nat.mod_mod_of_dvd _ even] at parity
  have := BitVec.toNat_add i 1
  simp only [BitVec.reduceToNat] at this
  omega

theorem Runner.slotAddr_succ_apart (q : Runner) (i : U32) (h : 1 < q.slots) :
    q.slotAddr i + q.slotBytes ≤ q.slotAddr (i + 1) ∨ q.slotAddr (i + 1) + q.slotBytes ≤ q.slotAddr i := by
  have step {x y : Nat} (hxy : x < y) : q.base + x * q.slotBytes + q.slotBytes ≤ q.base + y * q.slotBytes := by
    have := Nat.mul_le_mul_right q.slotBytes (Nat.succ_le_of_lt hxy)
    rw [Nat.succ_mul] at this
    omega
  exact (Nat.lt_or_gt_of_ne (q.slotIndex_succ_ne i h)).imp step step

/-- A runner with room for two records has room for one, and for one more after it. -/
theorem Runner.ne_slots_of_room_for_two {w rd : U32} {slots : Nat} (h : (w - rd).toNat + 1 < slots) :
    (w - rd).toNat ≠ slots ∧ (w + 1 - rd).toNat ≠ slots := by
  refine ⟨by omega, ?_⟩
  have hadd := BitVec.toNat_add (w - rd) 1
  rw [show w + 1 - rd = w - rd + 1 by simp only [BitVec.sub_eq_add_neg, BitVec.add_assoc, BitVec.add_comm 1]]
  simp only [BitVec.reduceToNat] at hadd
  omega

/-! ### Operations over one runner -/

variable (s : State) (n : Nat)

/-- Nothing changes but runner n and the count of the queried runner's snapshot group (R64, R534). -/
structure OnlyRunner (s t : State) : Prop where
  parts   : t = { s with od := t.od, dma := { s.dma with runners := t.dma.runners } }
  entries : KeepsBut [0x2B0401] s t
  others  : ∀ j, j ≠ n → t.runner j = s.runner j

theorem OnlyRunner.trans {s t u : State} {n : Nat} (h : OnlyRunner n s t) (h' : OnlyRunner n t u) : OnlyRunner n s u where
  parts := by rw [h'.parts, h.parts]
  entries k hk := (h'.entries k hk).trans (h.entries k hk)
  others j hj := (h'.others j hj).trans (h.others j hj)

theorem OnlyRunner.mem {s t : State} {n : Nat} (h : OnlyRunner n s t) : t.mem = s.mem := by rw [h.parts]

@[simp] theorem State.dma_setRunner (q : Runner) :
    (s.setRunner n q).dma = { s.dma with runners := Tab.set (fun _ => Runner.none) s.dma.runners n q } := by
  simp only [State.setRunner]; split <;> rfl

@[simp] theorem State.runner_setRunner_same (q : Runner) : (s.setRunner n q).runner n = q := by
  simp [State.runner]

theorem State.runner_setRunner_other (q : Runner) {j : Nat} (h : j ≠ n) : (s.setRunner n q).runner j = s.runner j := by
  simp [State.runner, Tab.get_set_other _ _ _ h]

theorem State.setRunner_onlyRunner (q : Runner) : OnlyRunner n s (s.setRunner n q) where
  parts := by simp only [State.setRunner]; split <;> rfl
  entries k hk := by
    have hk : k ≠ keyOf 0x2B04 1 := by simpa [keyOf] using hk
    simp only [State.setRunner]
    split
    · exact Tab.get_set_other _ _ _ hk
    · rfl
  others _ hj := s.runner_setRunner_other n q hj

@[simp] theorem State.runner_modRunner_same (f : Runner → Runner) : (s.modRunner n f).runner n = f (s.runner n) :=
  s.runner_setRunner_same n _

theorem State.mem_modRunner (f : Runner → Runner) : (s.modRunner n f).mem = s.mem := by simp

theorem State.modRunner_onlyRunner (f : Runner → Runner) : OnlyRunner n s (s.modRunner n f) :=
  s.setRunner_onlyRunner n _

@[simp] theorem State.runner_writeSlot_same (bs : List Byte) :
    (s.writeSlot n bs).runner n = { s.runner n with w := (s.runner n).w + 1, nextSeq := (s.runner n).nextSeq + 1 } :=
  State.runner_setRunner_same _ _ _

theorem State.mem_writeSlot (bs : List Byte) :
    (s.writeSlot n bs).mem = (s.store ((s.runner n).slotAddr (s.runner n).w) bs).mem := by
  simp [State.writeSlot]

/-! ### Gap records that wait (R22, R23) -/

variable {s n}

theorem State.flushDropped_of_none (h : (s.runner n).dropped = none) : s.flushDropped n = s := by
  simp [State.flushDropped, h]

theorem State.flushDropped_of_full (h : (s.runner n).full = true) : s.flushDropped n = s := by
  simp only [State.flushDropped, h]; split <;> rfl

theorem State.flushDropped_of_room {d : Dropped} (hd : (s.runner n).dropped = some d) (h : (s.runner n).full = false) :
    s.flushDropped n =
      (s.writeSlot n (gapBytes n (s.runner n).nextSeq.toNat d.first.toNat d.span (s.runner n).chanByte (s.runner n).cfgPour)).modRunner n
        (fun q => { q with dropped := none, gaps := q.gaps + 1 }) := by
  simp [State.flushDropped, hd, h]

theorem State.flushStop_of_none (h : (s.runner n).stopGap = none) : s.flushStop n = s := by
  simp [State.flushStop, h]

theorem State.flushStop_of_full (h : (s.runner n).full = true) : s.flushStop n = s := by
  simp only [State.flushStop, h]; split <;> rfl

theorem State.flushStop_of_room {g : GapSpan} (hg : (s.runner n).stopGap = some g) (h : (s.runner n).full = false) :
    s.flushStop n =
      (s.writeSlot n (gapBytes n (s.runner n).nextSeq.toNat (s.runner n).nextSeq.toNat g (s.runner n).chanByte
        (s.runner n).cfgPour)).modRunner n (fun q => { q with stopGap := none, gaps := q.gaps + 1 }) := by
  simp [State.flushStop, hg, h]

/-! ### A record offered to a runner -/

/-- The runner knows the channel byte and the pour of the record offered, as its gap records need them (R508). -/
def Runner.describedBy (q : Runner) (r : Rec) : Runner :=
  { q with chanByte := if 0x80 ≤ r.typ then 255 else r.chan, cfgPour := r.cfgPour }

/-- The device as the record offered to runner n finds it: the gap records that wait and have room stand before it (R22). -/
def State.offered (s : State) (n : Nat) (r : Rec) : State :=
  ((s.modRunner n (·.describedBy r)).flushDropped n).flushStop n

/-- A runner that takes no data record: it is full, or a gap record still waits to go first. -/
def Runner.blocked (q : Runner) : Bool := q.full || q.dropped.isSome || q.stopGap.isSome

theorem State.publish_of_blocked {r : Rec} (hk : s.isRecordRunner n = true) (hb : ((s.offered n r).runner n).blocked = true) :
    s.publish n r = (s.offered n r).setRunner n (((s.offered n r).runner n).drop r.time r.stop 1) :=
  (if_pos hk).trans (if_pos hb)

theorem State.publish_of_free {r : Rec} (hk : s.isRecordRunner n = true) (hb : ((s.offered n r).runner n).blocked = false) :
    s.publish n r = ((s.offered n r).writeSlot n
      (r.bytes n ((s.offered n r).runner n).nextSeq.toNat ((s.offered n r).runner n).resumed)).modRunner n
        (fun q => { q with resumed := false }) :=
  (if_pos hk).trans (if_neg (Bool.eq_false_iff.mp hb))

theorem State.offered_of_full (r : Rec) (h : (s.runner n).full = true) : s.offered n r = s.modRunner n (·.describedBy r) := by
  have hf : ((s.modRunner n (·.describedBy r)).runner n).full = true := by
    rw [State.runner_modRunner_same]; exact h
  rw [State.offered, State.flushDropped_of_full hf, State.flushStop_of_full hf]

theorem State.publish_of_full (r : Rec) (hk : s.isRecordRunner n = true) (h : (s.runner n).full = true) :
    s.publish n r = (s.modRunner n (·.describedBy r)).setRunner n (((s.runner n).describedBy r).drop r.time r.stop 1) := by
  have hr : (s.offered n r).runner n = (s.runner n).describedBy r := by
    rw [State.offered_of_full r h, State.runner_modRunner_same]
  have hb : ((s.offered n r).runner n).blocked = true := by
    rw [hr]; exact Bool.or_eq_true_iff.mpr (.inl (Bool.or_eq_true_iff.mpr (.inl h)))
  rw [State.publish_of_blocked hk hb, hr, State.offered_of_full r h]

/-! ### Sequence numbers (R20) -/

/-- Between q and q', k records or gap records were stored and j records were dropped, and each took one sequence number. -/
structure Runner.Advances (k j : Nat) (q q' : Runner) : Prop where
  w       : q'.w = q.w + BitVec.ofNat 32 k
  drops   : q'.drops = q.drops + BitVec.ofNat 64 j
  nextSeq : q'.nextSeq = q.nextSeq + BitVec.ofNat 64 (k + j)

namespace Runner.Advances

variable {q q' q'' : Runner} {k j k' j' : Nat}

theorem trans (h : Advances k j q q') (h' : Advances k' j' q' q'') : Advances (k + k') (j + j') q q'' where
  w := by rw [h'.w, h.w, BitVec.ofNat_add, BitVec.add_assoc]
  drops := by rw [h'.drops, h.drops, BitVec.ofNat_add, BitVec.add_assoc]
  nextSeq := by
    rw [h'.nextSeq, h.nextSeq, BitVec.add_assoc, ← BitVec.ofNat_add]
    congr 2; omega

/-- The series is contiguous: the numbers taken are the slots filled and the records dropped. -/
theorem contiguous (h : Advances k j q q') (hk : k < 2 ^ 32) :
    q'.nextSeq - q.nextSeq = (q'.w - q.w).setWidth 64 + (q'.drops - q.drops) := by
  have cancel {m : Nat} (x y : BitVec m) : x + y - x = y := by rw [BitVec.add_comm, BitVec.add_sub_cancel]
  have widen : (BitVec.ofNat 32 k).setWidth 64 = BitVec.ofNat 64 k := by
    apply BitVec.eq_of_toNat_eq; simp only [BitVec.toNat_setWidth, BitVec.toNat_ofNat]; omega
  rw [h.w, h.drops, h.nextSeq, cancel, cancel, cancel, widen, BitVec.ofNat_add]

theorem refl (q : Runner) : Advances 0 0 q q := ⟨by simp, by simp, by simp⟩

/-- Only W, the drop counter and the next number matter. -/
theorem of_same (h : Advances k j q q') (hw : q''.w = q'.w) (hd : q''.drops = q'.drops) (hs : q''.nextSeq = q'.nextSeq) :
    Advances k j q q'' :=
  ⟨hw.trans h.w, hd.trans h.drops, hs.trans h.nextSeq⟩

end Runner.Advances

theorem Runner.drop_advances (q : Runner) (a b : T96) (c : Nat) : Runner.Advances 0 1 q (q.drop a b c) :=
  ⟨by simp [Runner.drop], rfl, rfl⟩

theorem State.writeSlot_advances (s : State) (n : Nat) (bs : List Byte) :
    Runner.Advances 1 0 (s.runner n) ((s.writeSlot n bs).runner n) := by
  rw [State.runner_writeSlot_same]; exact ⟨rfl, by simp, rfl⟩

/-- A gap record of drops, where one waits and has room, takes one slot and one number. -/
theorem State.flushDropped_advances (s : State) (n : Nat) :
    ∃ k ≤ 1, Runner.Advances k 0 (s.runner n) ((s.flushDropped n).runner n) := by
  cases hd : (s.runner n).dropped with
  | none => exact ⟨0, by omega, (State.flushDropped_of_none hd).symm ▸ .refl _⟩
  | some d =>
    cases hf : (s.runner n).full with
    | true => exact ⟨0, by omega, (State.flushDropped_of_full hf).symm ▸ .refl _⟩
    | false =>
      rw [State.flushDropped_of_room hd hf, State.runner_modRunner_same]
      exact ⟨1, Nat.le_refl 1, (s.writeSlot_advances n _).of_same rfl rfl rfl⟩

/-- So does the gap record of a stop. -/
theorem State.flushStop_advances (s : State) (n : Nat) :
    ∃ k ≤ 1, Runner.Advances k 0 (s.runner n) ((s.flushStop n).runner n) := by
  cases hg : (s.runner n).stopGap with
  | none => exact ⟨0, by omega, (State.flushStop_of_none hg).symm ▸ .refl _⟩
  | some g =>
    cases hf : (s.runner n).full with
    | true => exact ⟨0, by omega, (State.flushStop_of_full hf).symm ▸ .refl _⟩
    | false =>
      rw [State.flushStop_of_room hg hf, State.runner_modRunner_same]
      exact ⟨1, Nat.le_refl 1, (s.writeSlot_advances n _).of_same rfl rfl rfl⟩

theorem State.offered_advances (s : State) (n : Nat) (r : Rec) :
    ∃ k ≤ 2, Runner.Advances k 0 (s.runner n) ((s.offered n r).runner n) := by
  have h0 : Runner.Advances 0 0 (s.runner n) ((s.modRunner n (·.describedBy r)).runner n) := by
    rw [State.runner_modRunner_same]; exact (Runner.Advances.refl _).of_same rfl rfl rfl
  obtain ⟨k, hk, h1⟩ := (s.modRunner n (·.describedBy r)).flushDropped_advances n
  obtain ⟨j, hj, h2⟩ := ((s.modRunner n (·.describedBy r)).flushDropped n).flushStop_advances n
  exact ⟨0 + k + j, by omega, (h0.trans h1).trans h2⟩

/-- A record written into a runner, or dropped by it, takes its number after those of the gap records before it. -/
theorem State.publish_advances (r : Rec) (h : s.isRecordRunner n = true) :
    ∃ k ≤ 3, ∃ j, Runner.Advances k j (s.runner n) ((s.publish n r).runner n) := by
  obtain ⟨k, hk, ho⟩ := s.offered_advances n r
  cases hb : ((s.offered n r).runner n).blocked with
  | true =>
    rw [State.publish_of_blocked h hb, State.runner_setRunner_same]
    exact ⟨k + 0, by omega, _, ho.trans (Runner.drop_advances _ _ _ _)⟩
  | false =>
    rw [State.publish_of_free h hb, State.runner_modRunner_same]
    exact ⟨k + 1, by omega, _, (ho.trans (State.writeSlot_advances _ n _)).of_same rfl rfl rfl⟩

/-! ### A record after drops: the gap record goes first (R20, R22) -/

/-- A runner after the gap record of its drops. -/
def Runner.afterGap (q : Runner) : Runner :=
  { q with w := q.w + 1, nextSeq := q.nextSeq + 1, dropped := Option.none, gaps := q.gaps + 1 }

section AfterDrops

variable {r : Rec} {d : Dropped} (hd : (s.runner n).dropped = some d) (hg : (s.runner n).stopGap = none)

include hd hg

theorem State.offered_of_room (hf : (s.runner n).full = false) :
    s.offered n r = ((s.modRunner n (·.describedBy r)).writeSlot n (gapBytes n (s.runner n).nextSeq.toNat d.first.toNat d.span
      ((s.runner n).describedBy r).chanByte r.cfgPour)).modRunner n (fun q => { q with dropped := none, gaps := q.gaps + 1 }) := by
  have hr : (s.modRunner n (·.describedBy r)).runner n = (s.runner n).describedBy r := s.runner_modRunner_same n _
  rw [State.offered, State.flushDropped_of_room (d := d) (by rw [hr]; exact hd) (by rw [hr]; exact hf),
    State.flushStop_of_none (by rw [State.runner_modRunner_same, State.runner_writeSlot_same, hr]; exact hg), hr]
  rfl

theorem State.runner_offered_of_room (hf : (s.runner n).full = false) :
    (s.offered n r).runner n = ((s.runner n).describedBy r).afterGap := by
  rw [State.offered_of_room hd hg hf, State.runner_modRunner_same, State.runner_writeSlot_same, State.runner_modRunner_same]
  rfl

theorem State.mem_offered_of_room (hf : (s.runner n).full = false) :
    (s.offered n r).mem = (s.store ((s.runner n).slotAddr (s.runner n).w) (gapBytes n (s.runner n).nextSeq.toNat d.first.toNat
      d.span ((s.runner n).describedBy r).chanByte r.cfgPour)).mem := by
  rw [State.offered_of_room hd hg hf, State.mem_modRunner, State.mem_writeSlot, State.runner_modRunner_same]
  simp [State.store, Runner.describedBy, Runner.slotAddr, Runner.slots, Runner.slotBytes]

/-- After drops, with room for two records, the gap record stands first and the record offered next to it. -/
theorem State.publish_after_drops (hk : s.isRecordRunner n = true)
    (hroom : ((s.runner n).w - (s.runner n).rd).toNat + 1 < (s.runner n).slots) :
    (s.publish n r).mem = ((s.offered n r).store ((s.runner n).slotAddr ((s.runner n).w + 1))
        (r.bytes n ((s.runner n).nextSeq + 1).toNat (s.runner n).resumed)).mem
      ∧ ((s.publish n r).runner n).nextSeq = (s.runner n).nextSeq + 2 ∧ ((s.publish n r).runner n).dropped = none := by
  obtain ⟨hfree, hfree'⟩ := Runner.ne_slots_of_room_for_two hroom
  have hr := State.runner_offered_of_room (r := r) hd hg (by simpa [Runner.full] using hfree)
  have hfull : ((s.runner n).describedBy r).afterGap.full = false := decide_eq_false hfree'
  have hb : ((s.offered n r).runner n).blocked = false := by
    rw [hr, Runner.blocked, hfull]; simp [Runner.afterGap, Runner.describedBy, hg]
  rw [State.publish_of_free hk hb, State.runner_modRunner_same, State.runner_writeSlot_same, hr]
  refine ⟨?_, ?_, rfl⟩
  · rw [State.mem_modRunner, State.mem_writeSlot, hr]; rfl
  · exact BitVec.add_assoc _ 1 1

/-- The gap record and the header of the record after it read back as they were written: their slots do not overlap. -/
theorem State.loads_after_drops (hk : s.isRecordRunner n = true)
    (hroom : ((s.runner n).w - (s.runner n).rd).toNat + 1 < (s.runner n).slots) (hz : 6 ≤ (s.runner n).z)
    (hlen : 64 + r.payload.length ≤ (s.runner n).slotBytes) :
    (s.publish n r).load ((s.runner n).slotAddr (s.runner n).w) 64 = gapBytes n (s.runner n).nextSeq.toNat d.first.toNat d.span
        ((s.runner n).describedBy r).chanByte r.cfgPour
      ∧ (s.publish n r).load ((s.runner n).slotAddr ((s.runner n).w + 1)) 64 =
        (r.bytes n ((s.runner n).nextSeq + 1).toNat (s.runner n).resumed).take 64 := by
  have hslot : 2 ^ 6 ≤ (s.runner n).slotBytes := Nat.pow_le_pow_right (by omega) hz
  have hapart := (s.runner n).slotAddr_succ_apart (s.runner n).w (by omega)
  have hfull : (s.runner n).full = false := decide_eq_false (Runner.ne_slots_of_room_for_two hroom).1
  have hmem := (State.publish_after_drops (r := r) hd hg hk hroom).1
  rw [State.load_congr hmem, State.load_congr hmem, State.load_store_same _ _ _ (by simp),
    State.load_store_other _ _ (by rw [Rec.bytes_length]; omega), State.load_congr (State.mem_offered_of_room hd hg hfull),
    State.load_store_same _ _ _ (by simp), List.take_of_length_le (by simp)]
  exact ⟨rfl, rfl⟩

end AfterDrops

/-! ### RECORD_WRITE -/

/-- What RECORD_WRITE offers to its runner. -/
def offeredRec (rec : Record) (spanEnd : T96) : Rec :=
  { typ := rec.typ.toNat, chan := rec.channel.toNat, source := rec.source.toNat, prog := rec.progFlags.toNat, time := rec.time,
    stop := spanEnd, fields := rec.fields, payload := rec.payload,
    mark := { flags := rec.flags.toNat &&& 0x1CF, pour := some rec.pour, mixed := rec.flags.getLsbD 4 }, cfgPour := rec.pour }

theorem exec_recordWrite (ix : RunnerIx) (rec : Record) (e : T96) (h : Live s) :
    exec (.recordWrite ix rec e) s = .next (s.publish ix.toNat (offeredRec rec e)) :=
  if_neg (Bool.eq_false_iff.mp h)

theorem isRecordRunner_of_kind (ix : RunnerIx) (h : (s.runner ix.toNat).kind = 1) : s.isRecordRunner ix.toNat = true := by
  simp only [State.isRecordRunner, h, decide_eq_true ix.isLt]; rfl

/-- Settles O58: a full runner has no room for its gap records either, so the write comes down to one drop. -/
theorem fullRunnerDropsTheRecord : Obligations.FullRunnerDropsTheRecord := by
  intro s ix rec e hlive hkind hfull
  have hpub := State.publish_of_full (offeredRec rec e) (isRecordRunner_of_kind ix hkind) hfull
  have honly : OnlyRunner ix.toNat s (s.publish ix.toNat (offeredRec rec e)) := by
    rw [hpub]; exact (s.modRunner_onlyRunner _ _).trans (State.setRunner_onlyRunner _ _ _)
  have hrun : (s.publish ix.toNat (offeredRec rec e)).runner ix.toNat =
      ((s.runner ix.toNat).describedBy (offeredRec rec e)).drop rec.time e 1 := by
    rw [hpub, State.runner_setRunner_same]; rfl
  refine ⟨_, exec_recordWrite ix rec e hlive, ?_, ?_, honly.mem, honly.others, honly.parts, honly.entries⟩
  · rw [hrun]; rfl
  · rw [hrun]; rfl

/-- Settles O59: every slot filled and every drop takes one number, and the gap record of earlier drops goes first. -/
theorem runnerSequenceNumbers : Obligations.RunnerSequenceNumbers := by
  intro s ix rec e hlive hkind q
  have hk := isRecordRunner_of_kind ix hkind
  obtain ⟨k, hk3, j, hadv⟩ := State.publish_advances (offeredRec rec e) hk
  refine ⟨_, exec_recordWrite ix rec e hlive, hadv.contiguous (by omega), fun d hd hg hroom hz hlen => ?_⟩
  obtain ⟨-, hseq, hdropped⟩ := State.publish_after_drops (r := offeredRec rec e) hd hg hk hroom
  obtain ⟨hgap, hdata⟩ := State.loads_after_drops (r := offeredRec rec e) hd hg hk hroom hz hlen
  rw [hgap, hdata, field_take _ (by omega)]
  exact ⟨gapBytes_type .., gapBytes_seq .., Rec.bytes_seq .., hseq, hdropped⟩

end Sys2Proof.Machine

/-! Fault counting (R620): the window that an event falls in, what `countFault` changes by it, and the fault clock, which the
crystal alone moves. -/

namespace Sys2Proof.Machine

/-! ### The window of an event -/

/-- An event at `now` falls inside the element's window: one is open and has not ended. -/
abbrev FaultWin.Holds (w : FaultWin) (now : Nat) : Prop := w.count ≠ 0 ∧ now < w.start + w.w

/-- The window that an event at `now` counts in: the element's own where it holds the event, else a new one. -/
def FaultWin.forEvent (w : FaultWin) (now n len : Nat) : FaultWin :=
  if w.Holds now then w else { start := now, count := 0, n := n, w := len }

/-- The event adds one to the window that it counts in, and closes that window where this brings it to its N. -/
theorem countWindow_eq (w : FaultWin) (now n len : Nat) :
    countWindow w now n len =
      if (w.forEvent now n len).n ≤ (w.forEvent now n len).count + 1 then
        (FaultWin.closed, (w.forEvent now n len).count + 1, true)
      else
        ({ w.forEvent now n len with count := (w.forEvent now n len).count + 1 }, (w.forEvent now n len).count + 1, false) := by
  have hcond : (w.count = 0 ∨ w.start + w.w ≤ now) ↔ ¬ w.Holds now := by omega
  simp only [countWindow, hcond, ite_not]
  rfl

/-- The window of a fault element. -/
def State.faultWin (s : State) (cls : FaultClass) (element : Nat) : FaultWin :=
  Tab.get (fun _ => FaultWin.closed) s.flt.windows (faultKey cls element)

/-- The window that an event of the element now counts in. -/
def State.eventWin (s : State) (cls : FaultClass) (element : Nat) : FaultWin :=
  (s.faultWin cls element).forEvent s.ctl.crystalCount (s.num (0x3010 + cls.code) 1)
    (faultTicks (s.num (0x3010 + cls.code) 2))

/-- The element's window with one more event in it, the count, and whether that is lasting. -/
def State.countedWindow (s : State) (cls : FaultClass) (element : Nat) : FaultWin × Nat × Bool :=
  countWindow (s.faultWin cls element) s.ctl.crystalCount (s.num (0x3010 + cls.code) 1)
    (faultTicks (s.num (0x3010 + cls.code) 2))

/-! ### What `countFault` changes -/

/-- The counter of fault events of a class is a U32. -/
theorem entryWidth_faultCount (cls : FaultClass) : entryWidth (0x3010 + cls.code) 3 = 32 := by cases cls <;> decide +kernel

section Counting

variable (s : State) (cls : FaultClass) (element : Nat)

/-- The fault manager with the event counted: the element's new window, and the element lasting where the event makes it so. -/
def State.withCounted : State :=
  let p := s.countedWindow cls element
  { s with flt := { s.flt with
    windows := Tab.set (fun _ => FaultWin.closed) s.flt.windows (faultKey cls element) p.1
    lasting := if p.2.2 then Tab.set (fun _ => false) s.flt.lasting (faultKey cls element) true else s.flt.lasting } }

theorem State.countFault_snd : (s.countFault cls element).2 = (s.countedWindow cls element).2 := rfl

/-- Besides the window, an event counts in its class's 0x3010.03, and a lasting one in 0x3010.04. -/
theorem State.countFault_fst : (s.countFault cls element).1 =
    if (s.countedWindow cls element).2.2 then
      ((s.withCounted cls element).bump (0x3010 + cls.code) 3).bump (0x3010 + cls.code) 4
    else (s.withCounted cls element).bump (0x3010 + cls.code) 3 := rfl

theorem State.count_countFault : (s.countFault cls element).2.1 = (s.eventWin cls element).count + 1 := by
  rw [State.countFault_snd, State.countedWindow, countWindow_eq]; split <;> rfl

theorem State.lasting_countFault_iff :
    (s.countFault cls element).2.2 = true ↔ (s.eventWin cls element).n ≤ (s.eventWin cls element).count + 1 := by
  rw [State.countFault_snd, State.countedWindow, countWindow_eq]
  split
  · exact iff_of_true rfl ‹_›
  · exact iff_of_false Bool.false_ne_true ‹_›

theorem State.flt_countFault : (s.countFault cls element).1.flt = (s.withCounted cls element).flt := by
  rw [State.countFault_fst]; split <;> rfl

theorem State.faultWin_countFault :
    (s.countFault cls element).1.faultWin cls element = (s.countedWindow cls element).1 := by
  simp [State.faultWin, State.flt_countFault, State.withCounted]

theorem State.faultWin_countFault_of_lasting (h : (s.countFault cls element).2.2 = true) :
    (s.countFault cls element).1.faultWin cls element = FaultWin.closed := by
  rw [State.lasting_countFault_iff] at h
  rw [State.faultWin_countFault, State.countedWindow, countWindow_eq]
  exact congrArg Prod.fst (if_pos h)

theorem State.faultWin_countFault_of_transient (h : (s.countFault cls element).2.2 = false) :
    (s.countFault cls element).1.faultWin cls element =
      { s.eventWin cls element with count := (s.eventWin cls element).count + 1 } := by
  rw [← Bool.not_eq_true, State.lasting_countFault_iff] at h
  rw [State.faultWin_countFault, State.countedWindow, countWindow_eq]
  exact congrArg Prod.fst (if_neg h)

theorem State.windows_countFault_other {j : Nat} (h : j ≠ faultKey cls element) :
    Tab.get (fun _ => FaultWin.closed) (s.countFault cls element).1.flt.windows j =
      Tab.get (fun _ => FaultWin.closed) s.flt.windows j := by
  simp [State.flt_countFault, State.withCounted, Tab.get_set_other _ _ _ h]

theorem State.isLasting_countFault (h : (s.countFault cls element).2.2 = true) :
    (s.countFault cls element).1.isLasting cls element = true := by
  rw [State.countFault_snd] at h
  simp [State.isLasting, State.flt_countFault, State.withCounted, h]

theorem State.countFault_parts : (s.countFault cls element).1 = { s with
    od := (s.countFault cls element).1.od
    flt := { s.flt with
      windows := (s.countFault cls element).1.flt.windows, lasting := (s.countFault cls element).1.flt.lasting } } := by
  rw [State.countFault_fst]; split <;> rfl

theorem State.num_countFault :
    (s.countFault cls element).1.num (0x3010 + cls.code) 3 = (s.num (0x3010 + cls.code) 3 + 1) % 2 ^ 32 := by
  have hkey : keyOf (0x3010 + cls.code) 3 ≠ keyOf (0x3010 + cls.code) 4 := by simp [keyOf]
  have hevents : ((s.withCounted cls element).bump (0x3010 + cls.code) 3).num (0x3010 + cls.code) 3 =
      (s.num (0x3010 + cls.code) 3 + 1) % 2 ^ 32 := by
    rw [State.num_bump_same, entryWidth_faultCount]; rfl
  rw [State.countFault_fst]
  split
  · rw [State.num_bump_other _ _ hkey, hevents]
  · exact hevents

theorem State.bump_keepsBut (i b : Nat) {keys : List Nat} (h : keyOf i b ∈ keys) : KeepsBut keys s (s.bump i b) :=
  fun _ hk => Tab.get_set_other _ _ _ (fun he => hk (he ▸ h))

theorem State.countFault_keepsBut :
    KeepsBut [keyOf (0x3010 + cls.code) 3, keyOf (0x3010 + cls.code) 4] s (s.countFault cls element).1 := by
  intro k hk
  have hevents := (s.withCounted cls element).bump_keepsBut (0x3010 + cls.code) 3 (List.mem_cons_self ..) k hk
  rw [State.countFault_fst]
  split
  · exact (State.bump_keepsBut _ _ 4 (List.mem_cons_of_mem _ (List.mem_cons_self ..)) k hk).trans hevents
  · exact hevents

end Counting

/-! ### The fault clock -/

section FaultClock

variable (s : State)

/-- A tick is 3.125 ns, five sixteenths of a crystal period; that a command on an empty queue is one is the model's choice (log
entry 2). -/
theorem crystalCount_tick (h : Live s) : (tick s).ctl.crystalCount = s.ctl.crystalCount + 5 := by
  have hsecond (t : State) : t.crystalSecond.ctl = t.ctl := by
    unfold State.crystalSecond; split <;> rfl
  unfold tick
  rw [if_neg (Bool.eq_false_iff.mp h)]
  simp only [State.bump_frame]
  split
  · rfl
  · rw [hsecond]

@[simp] theorem State.crystalCount_emergency (code subsys entry : Nat) :
    (s.emergency code subsys entry).ctl.crystalCount = s.ctl.crystalCount := by
  simp only [State.emergency, apply_ite State.ctl, apply_ite Ctl.crystalCount, State.put_frame, State.bump_frame,
    State.signal_frame, ite_self]

@[simp] theorem State.crystalCount_journalEntry (e : JEntry) (code : Nat) :
    (s.journalEntry e code).ctl.crystalCount = s.ctl.crystalCount := by
  unfold State.journalEntry; dsimp only; split
  · exact State.crystalCount_emergency ..
  · rfl

@[simp] theorem State.crystalCount_report (r : Report) : (s.report r).ctl.crystalCount = s.ctl.crystalCount :=
  foldl_keeps (·.ctl.crystalCount) _ (fun _ _ => State.crystalCount_journalEntry ..) _ _

@[simp] theorem State.ctl_setGrid (c st : Nat) : (s.setGrid c st).ctl = s.ctl := by
  unfold State.setGrid State.showState; split <;> rfl

@[simp] theorem State.ctl_dropGrid : s.dropGrid.ctl = s.ctl :=
  foldl_keeps (·.ctl) _ (fun _ _ => State.ctl_setGrid ..) _ _

@[simp] theorem State.crystalCount_setTimeState (st source : Nat) :
    (s.setTimeState st source).ctl.crystalCount = s.ctl.crystalCount := by
  simp only [State.setTimeState, apply_ite State.ctl, apply_ite Ctl.crystalCount, State.put_frame, State.putInt_frame,
    State.modClk_frame, State.ctl_dropGrid, State.crystalCount_report, ite_self]

@[simp] theorem State.crystalCount_pickSource : s.pickSource.ctl.crystalCount = s.ctl.crystalCount := by
  unfold State.pickSource
  split
  · exact State.crystalCount_setTimeState ..
  · split <;> exact State.crystalCount_setTimeState ..

/-- A step moves T96; the fault clock stands. -/
@[simp] theorem State.crystalCount_stepTime (d : Int) : (s.stepTime d).ctl.crystalCount = s.ctl.crystalCount := by
  have hmark : ((upTo 4).foldl (fun s c => s.markStep d c) s).ctl = s.ctl :=
    foldl_keeps (·.ctl) (fun t c => t.markStep d c) (fun _ _ => rfl) _ _
  simp only [State.stepTime, State.crystalCount_report, State.ctl_dropGrid, hmark]

@[simp] theorem State.crystalCount_discipline (d : Int) : (s.discipline d).ctl.crystalCount = s.ctl.crystalCount := by
  unfold State.discipline; dsimp only
  split
  · rfl
  · split
    · exact State.crystalCount_stepTime _ d
    · rfl

@[simp] theorem State.crystalCount_followFreeRun : s.followFreeRun.ctl.crystalCount = s.ctl.crystalCount := by
  exact State.crystalCount_discipline ..

end FaultClock

theorem setTimeWrite_keeps_crystalCount {s : State} {r : Requester} (v : T96) (hlive : Live s) (hw : MayWrite s r) :
    Answers (.setTimeWrite r v) s (fun t => t.ctl.crystalCount = s.ctl.crystalCount) := by
  refine ⟨_, if_neg (Bool.eq_false_iff.mp hlive), ?_⟩
  unfold MayWrite at hw
  simp only [State.mayWrite, hw]
  split
  · exact (State.crystalCount_followFreeRun _).trans (State.crystalCount_pickSource _)
  · exact State.crystalCount_pickSource _

/-- Settles O57, by the window that the event counts in: the element's own inside it, a new one outside. -/
theorem faultCounting : Obligations.FaultCounting := by
  intro s cls n k w inside limit c
  have hin (h : inside) : s.eventWin cls n = w s := if_pos h
  have hout (h : ¬ inside) : s.eventWin cls n = ⟨s.ctl.crystalCount, 0, s.num (0x3010 + cls.code) 1,
      faultTicks (s.num (0x3010 + cls.code) 2)⟩ := if_neg h
  have hlimit : (s.eventWin cls n).n = limit := by
    by_cases h : inside
    · rw [hin h]; exact (if_pos h).symm
    · rw [hout h]; exact (if_neg h).symm
  have hcount : c.2.1 = (s.eventWin cls n).count + 1 := s.count_countFault cls n
  have hlasting : c.2.2 = true ↔ limit ≤ c.2.1 := by
    rw [hcount, ← hlimit]; exact s.lasting_countFault_iff cls n
  have hopen (h : c.2.2 = false) : w c.1 = { s.eventWin cls n with count := c.2.1 } := by
    rw [hcount]; exact s.faultWin_countFault_of_transient cls n h
  refine ⟨fun h => by rw [hcount, hin h], fun h => by rw [hcount, hout h], hlasting, fun h => ?_, fun h => ?_, fun hn h => ?_,
    fun j => s.windows_countFault_other cls n, s.num_countFault cls n, s.countFault_parts cls n, s.countFault_keepsBut cls n,
    crystalCount_tick s, fun r v => setTimeWrite_keeps_crystalCount v⟩
  · rw [hopen h]
    exact ⟨rfl, hlimit, fun hi => by rw [hin hi]; exact ⟨rfl, rfl⟩, fun hi => by rw [hout hi]; exact ⟨rfl, rfl⟩⟩
  · exact ⟨congrArg FaultWin.count (s.faultWin_countFault_of_lasting cls n h), s.isLasting_countFault cls n h⟩
  · have hone : c.2.1 = 1 := by rw [hcount, hout h]
    exact hlasting.mpr (Nat.le_of_eq (((if_neg h).trans hn).trans hone.symm))

end Sys2Proof.Machine
